-- ==== Sys2Proof/Word.lean ====
section
/-! DEFINITION. The plain number and name types of the KM8128: element numbers (R2), the time unit (R51) and the
closed name sets that operands use. Nothing here computes what the block does. -/

namespace Sys2Proof

/-- A time in PWM steps of 39.0625 ps since power-up (R51): 64 steps a SYS cycle, 25,600 a turn of 1 µs. -/
abbrev Tick := Nat
/-- Cell c0 to c127 (R2). -/
abbrev CellId := Fin 128
/-- Block b0 to b15. -/
abbrev BlockId := Fin 16
/-- Context k0 to k255 (R2: k = 16·b + n). -/
abbrev CtxId := Fin 256
/-- Region A to D as 0 to 3. -/
abbrev RegionId := Fin 4
/-- Group slot j of block b as 4·b + j (R392). -/
abbrev GroupId := Fin 64
/-- Feed channel f0 to f23. -/
abbrev FeedId := Fin 24
/-- Battery string 0 to 3. -/
abbrev StringId := Fin 4
/-- Sequencer channel s0 to s63. -/
abbrev SeqId := Fin 64
/-- Program slot 4·region + slot of the sequencer engines (R276). -/
abbrev SlotId := Fin 16
/-- Sequencer program 0 to 31. -/
abbrev ProgId := Fin 32
/-- Temperature input t0 to t47. -/
abbrev TempId := Fin 48
/-- Voltage input v0 to v47. -/
abbrev VoltId := Fin 48
/-- Heatsink group 0 to 11. -/
abbrev SinkId := Fin 12
/-- Mains phase 0 to 2 (ACS0 to ACS2). -/
abbrev PhaseId := Fin 3
/-- Brick pool 0 to 3. -/
abbrev PoolId := Fin 4
/-- Capture trigger 0 to 3. -/
abbrev TrigId := Fin 4
/-- Service 0 feed, 1 ring, 2 twin, 3 storage (R312). -/
abbrev SvcId := Fin 4
/-- Telemetry window 0 to 3: 1 ms, 100 ms, 1 s, 60 s (R291). -/
abbrev WindowId := Fin 4
/-- Ring node ID; 0x00 stands for the maintenance port (R360). -/
abbrev NodeId := Fin 256

/-- The two outputs of a cell's PWM pair (R55). -/
inductive Net where
  | a | b
  deriving DecidableEq, Repr

/-- The two ring ports (R360). -/
inductive Port where
  | east | west
  deriving DecidableEq, Repr

/-- The two input feeds of the selector (R213). -/
inductive Feed where
  | a | b
  deriving DecidableEq, Repr

/-- The four supplies of Table 19-4. -/
inductive Supply where
  | vdd | vddio | vdda | vaux
  deriving DecidableEq, Repr

/-- The element kinds that telemetry keeps (R289). -/
inductive TeleKind where
  | cell | group | feed | string
  deriving DecidableEq, Repr

/-- How a line of the embedded flash reads (R402): its check passes; it passes at the margin re-read; that fails too. -/
inductive LineRead where
  | good | margin | failed
  deriving DecidableEq, Repr

/-- A request to the memory arbiter of an SRAM line (R416, R420): a read; a write of part of the line, which reads it first; a
write of the whole line. -/
inductive MemRequest where
  | read | writePart | writeLine
  deriving DecidableEq, Repr

/-- The two clock sources that R322 watches beside the reference. -/
inductive Pll where
  | sys | pwm
  deriving DecidableEq, Repr

end Sys2Proof
end

