-- ==== Sys2Proof/Machine/Elements.lean ====
section
/-! DEFINITION. The elements of the KM8128 block as plain data: what each numbered cell, context, group, pool, feed channel,
sequencer channel, tracker, move, string, temperature input and program slot has beside its dictionary objects (R2), and the
lockstep state of all of them together (R339). -/

namespace Sys2Proof.Machine

/-- A list of the elements that differ from a default. -/
abbrev Bank (κ α : Type) := List (κ × α)

/-- The address of a dictionary object (R3). -/
structure Addr where
  index : Nat
  sub : Nat
  inst : Nat
  deriving DecidableEq, Repr

/-- An element that has a fault state (R7, R312). -/
inductive Elem where
  | cell (c : Nat)
  | block (b : Nat)
  | region (r : Nat)
  | chip
  | feed (f : Nat)
  | string (n : Nat)
  | service (svc : Nat)
  deriving DecidableEq, Repr

/-- The fault state of one element, its first fault (R50), when the state was last ended, and the codes with their instance that its source has
raised since the state was last ended (R317). `fresh` are those detected in the SYS cycle `freshAt`, the latest with one
(R45). -/
structure FaultRec where
  inFault : Bool := false
  firstCode : Nat := 0
  firstSeq : Nat := 0
  endedAt : Tick := 0
  raised : List (Nat × Nat) := []
  freshAt : Nat := 0
  fresh : List (Nat × Nat) := []
  deriving DecidableEq, Repr

/-- The states of a cell (Table 03-3). -/
inductive CellState where
  | idle | start | run | hold | stop | fault
  deriving DecidableEq, Repr

/-- A rise of an output that waits (R58): none, waiting for its dead time as its mode programs it, or a delayed one. -/
inductive Rise where
  | none | programmed | delayed
  deriving DecidableEq, Repr

/-- A ramp of a unit's weight (Table 06-1), with the ramp period it is in, counted from 1; 0 before the first. A
reversed ramp keeps its weight, in quarters, until the next period start. -/
inductive Ramp where
  | none
  | shed (period : Nat)
  | add (period : Nat)
  | loadStepAdd (period : Nat)
  | reversed (quarters : Int)
  deriving DecidableEq, Repr

/-- What the conversions of one period of a cell add up to (R63, R76): those outside blanking, and all of them, with what
the cell did in that period. -/
structure PeriodSum where
  start : Tick := 0
  rippleMin : Nat := 4095
  rippleMax : Nat := 0
  rippleCount : Nat := 0
  codeMin : Nat := 4095
  codeMax : Nat := 0
  codeSum : Nat := 0
  codeCount : Nat := 0
  switched : Bool := false
  skipped : Bool := false
  ran : Bool := false
  deriving DecidableEq, Repr

/-- One switching cell beside its dictionary objects. -/
structure Cell where
  state : CellState := .idle
  /-- The code last delivered by the block, the base of limiting and scaling (R64, R84). -/
  base : Nat := 2048
  /-- The threshold before the latest change and the time of that change (R65). -/
  oldCmd : Nat := 2048
  changedAt : Tick := 0
  /-- Period and phase offset in force (R54), the start of the running period and the next one. -/
  period : Nat := 256000
  offset : Nat := 0
  periodStart : Tick := 0
  nextStart : Tick := 0
  secondHalf : Bool := false
  /-- Levels of the loop source, the time of the last fall and rise of each, and waiting rises (R58). -/
  levelA : Bool := false
  levelB : Bool := false
  fallA : Option Tick := none
  fallB : Option Tick := none
  riseA : Option Tick := none
  riseB : Option Tick := none
  waitA : Rise := .none
  waitB : Rise := .none
  /-- The comparator-ended interval (R55): running, its start, and the time at which the maximum on-time ended it (R59). -/
  interval : Bool := false
  intervalStart : Tick := 0
  maxEnd : Option Tick := none
  /-- The latest interval starts and rises of either output, newest first, for the blanking of conversions (R76). -/
  intervals : List Tick := []
  rises : List Tick := []
  skipped : Bool := false
  switched : Bool := false
  firstPeriod : Bool := true
  /-- Ceiling (R74, R75): safe state forced, tripped in this period, consecutive periods. -/
  ceilingForced : Bool := false
  ceilingTripped : Bool := false
  ceilingRun : Nat := 0
  overRange : Nat := 0
  /-- START (R82): entry time, conversions taken and their sum, check passed, start periods left; in STOP not 0 where the stop
  began in START. -/
  startAt : Tick := 0
  checkCount : Nat := 0
  checkSum : Nat := 0
  checkPassed : Bool := false
  startLeft : Nat := 0
  /-- Stop ramp period 0 (not begun) to 4 (R84), waiting requests, and the time at which a period start last took a park or an
  add (R85). -/
  stopPeriod : Nat := 0
  parkRequest : Bool := false
  addRequest : Bool := false
  tookAt : Option Tick := none
  /-- The period that runs, and the one before it while conversions of it are still to come; minimum, maximum and mean
  code of the latest period whose conversions are all in. -/
  sums : PeriodSum := {}
  ended : Option PeriodSum := none
  minCode : Nat := 0
  maxCode : Nat := 0
  meanCode : Nat := 0
  /-- Conversions of the running turn (R297). -/
  turnSum : Nat := 0
  turnCount : Nat := 0
  ripples : List Nat := []
  ripplesBelow : Nat := 0
  ripplesAbove : Nat := 0
  noRipple : Bool := false
  slopeLost : Bool := false
  /-- The latest conversion and the control sample (R63). -/
  latestCode : Nat := 0
  sampleCode : Nat := 0
  sampleAt : Tick := 0
  /-- The sample points not yet passed, in 1/256 step. -/
  points : List Nat := []
  /-- Trim in codes (R96), throttle factor in force and pending in 1/65,536 (R255), BAT direction (R139). -/
  trim : Int := 0
  throttle : Nat := 65536
  throttleNext : Nat := 65536
  /-- Share limit L of the period that runs (R148, R172). -/
  share : Int := 4095
  discharge : Bool := false
  /-- Unit ramp of this cell (R147) and the share limit watch (R166). -/
  ramp : Ramp := .none
  limitedSince : Option Tick := none
  /-- Run time in steps up to the latest stop, and the start of the present run (R154). -/
  runSteps : Nat := 0
  runSince : Option Tick := none
  deriving DecidableEq, Repr

/-- The states of a context (Table 04-1). -/
inductive CtxState where
  | disabled | run | held | heldUpstream | fault
  deriving DecidableEq, Repr

/-- A coefficient bank (R98, R100): Q3.28 coefficients, Q0.23 limits. -/
structure Coeffs where
  form : Int := 0
  b0 : Int := 0
  b1 : Int := 0
  b2 : Int := 0
  b3 : Int := 0
  a1 : Int := 0
  a2 : Int := 0
  a3 : Int := 0
  kb : Int := 0
  uMin : Int := 0
  uMax : Int := 0
  deriving DecidableEq, Repr

/-- A sample that is ready for an engine slot (R91): its instant, its ready time, and the scaled feedback taken at the
ready time as an exact fraction `num / den`. -/
structure Ready where
  instant : Tick
  ready : Tick
  num : Int
  den : Nat
  deriving DecidableEq, Repr

/-- An output that waits for its delivery (R105, R106). -/
structure Delivery where
  u : Int
  due : Tick
  deriving DecidableEq, Repr

/-- One loop context beside its configuration objects. -/
structure Ctx where
  state : CtxState := .disabled
  active : Coeffs := {}
  staging : Coeffs := {}
  integ : Int := 0
  e1 : Int := 0
  e2 : Int := 0
  e3 : Int := 0
  h1 : Int := 0
  h2 : Int := 0
  h3 : Int := 0
  /-- Last delivered output, last computed output, error and setpoint of the last evaluation. -/
  u : Int := 0
  computed : Int := 0
  err : Int := 0
  setpoint : Int := 0
  clamp : Bool := false
  ready : Option Ready := none
  delivery : Option Delivery := none
  /-- Scaled feedback of the last evaluation (R93). -/
  y : Int := 0
  /-- Instant of the latest trigger sample seen, and the periods counted for the divider (R91). -/
  seen : Tick := 0
  periods : Nat := 0
  uHold : Int := 0
  preset : Bool := false
  /-- Hold timer (R115): steps counted, and the time up to which they are counted. -/
  holdSteps : Nat := 0
  holdAt : Tick := 0
  /-- The hold overrun of this hold has been raised. -/
  overrun : Bool := false
  skipRun : Nat := 0
  deriving DecidableEq, Repr

/-- The states of a group (Table 05-5). -/
inductive GroupState where
  | stopped | starting | run | stopping | mainsWait | waitUpstream
  deriving DecidableEq, Repr

/-- A running classification of a quiet unit (R165): the cell that raised 0x1204, the periods left, and for each other
active unit's sensing cell the sum and the number of its mean period codes, from the zero code, in the window. -/
structure Classify where
  cell : Nat
  left : Nat
  others : List (Nat × Int × Nat) := []
  deriving DecidableEq, Repr

/-- A BRIDGE_HOLD pin (R14, R456): high-impedance, static low, or the 125 kHz square. -/
inductive HoldPin where
  | z | low | square
  deriving DecidableEq, Repr

/-- One group slot beside its dictionary objects. -/
structure Group where
  state : GroupState := .stopped
  runRequest : Bool := false
  powerGood : Bool := false
  /-- Setpoint in force in µV (R126). -/
  forceMicro : Int := 0
  /-- Start timeout (R132): steps counted, and the time up to which they are counted. -/
  startSteps : Nat := 0
  startAt : Tick := 0
  inBandSince : Option Tick := none
  outBandSince : Option Tick := none
  bulkLowSince : Option Tick := none
  /-- The group's period reference (R146). -/
  reference : Option Tick := none
  /-- PFC: the orderly stop waits for the linked ISO group (R134). -/
  stopWaits : Bool := false
  /-- BAT: direction in force, first BRIDGE_HOLD edge, relay-open confirmed, start of the 25 ms of R141. -/
  discharge : Bool := false
  relayEdge : Option Tick := none
  relayOpen : Bool := false
  stopHold : Option Tick := none
  /-- BAT: the relays have still to be opened after a start; ISO: the stop that runs ends in WAIT UPSTREAM. -/
  relayWait : Bool := false
  toWait : Bool := false
  /-- Power-good has not been set since the accepted start (R132). -/
  awaitGood : Bool := false
  /-- A load step waits at the block arbiter (R155): 0 none, 1 of the group's own, 2 sent on by its pool. -/
  stepOffered : Nat := 0
  /-- BST: filtered feed current in µA, target in force in mV, last update. -/
  feedMicroAmp : Int := 0
  bstTarget : Int := 0
  bstAt : Option Tick := none
  /-- SYS cycle and rank of the group command that the block arbiter accepted last (R34). -/
  cmdAt : Option (Nat × Nat) := none
  /-- The latest load step accepted in RUN, and how many more units its step 3 may bring back (R156, R157). -/
  stepAt : Option Tick := none
  stepLeft : Nat := 0
  /-- Filtered load ℓ̄ in 2⁻³¹ (R152) and the time of its last sample; the next sample is taken directly. -/
  load : Int := 0
  loadAt : Tick := 0
  loadFresh : Bool := false
  addSince : Option Tick := none
  shedSince : Option Tick := none
  recovering : Bool := false
  poolParked : Bool := false
  devSince : Option Tick := none
  devRaised : Bool := false
  lastCurrent : Option Int := none
  rho : Int := 0
  rhoCount : Nat := 0
  classify : Option Classify := none
  deriving DecidableEq, Repr

/-- A brick pool beside its objects (R158 to R162). -/
structure Pool where
  addSince : Option Tick := none
  shedSince : Option Tick := none
  rotateFrom : Tick := 0
  /-- The member that a rotation added, and the time since which it runs at weight 1. -/
  rotating : Option Nat := none
  fullSince : Option Tick := none
  rampMember : Option Nat := none
  deriving DecidableEq, Repr

/-- The states of a feed channel (Table 08-1). -/
inductive FeedState where
  | off | inrush | on | cooldown | latched | welded
  deriving DecidableEq, Repr

/-- What drives GATE(f) (R202, R206, R456): nothing, 0 V, the inrush ramp, a step to 1.8 V under the amplifier, 1.8 V,
or 1.8 V pulled down by the current-limit amplifier. -/
inductive GateDrive where
  | z | zero | ramp | step | full | limiting
  deriving DecidableEq, Repr

/-- One feed channel beside its objects. -/
structure FeedCh where
  state : FeedState := .off
  gate : GateDrive := .z
  /-- Entry to the present state. -/
  entered : Tick := 0
  powerGood : Bool := false
  retries : Nat := 0
  /-- Latest ADC codes (R199). -/
  gsns : Nat := 0
  vds : Nat := 0
  isns : Nat := 0
  /-- Times since which a condition holds: VDS below the on-threshold, the power-good conditions, power-good set,
  the gate-source voltage below the gate-rise threshold from an on command or a retry on, and below 1 V (R203 to R210). -/
  belowOn : Option Tick := none
  goodCond : Option Tick := none
  goodSince : Option Tick := none
  belowRise : Option Tick := none
  belowVolt : Option Tick := none
  /-- Foster model: pole temperatures in µK (R208), and lost readings. -/
  dT1 : Int := 0
  dT2 : Int := 0
  dT3 : Int := 0
  dT4 : Int := 0
  tj : Int := 0
  vdsLost : Bool := false
  isnsLost : Bool := false
  /-- Welded test (R209): the off command, and the drain current at it in mA. -/
  weldFrom : Option Tick := none
  weldCurrent : Int := 0
  /-- The time of the latest leaving of LATCHED or WELDED: no feed is good before it (R216). -/
  freedAt : Tick := 0
  /-- Input feed conditions (R216): input at or above the good threshold, below the drop threshold, reverse current,
  and drain current near zero, each since a time. -/
  inGood : Option Tick := none
  inLow : Option Tick := none
  reverse : Option Tick := none
  quiet : Option Tick := none
  deriving DecidableEq, Repr

/-- The input selector (R216 to R219). `closed` is the feed it keeps closed or closes, 0 A or 1 B; `opened` the feed it
opened and has not yet found confirmed off; `transfer` the start of a running transfer; `force` 0 none, 1 A, 2 B. -/
structure Selector where
  closed : Option Nat := none
  opened : Option (Nat × Tick) := none
  transfer : Option Tick := none
  /-- The transfer time has been taken (R219). -/
  timed : Bool := false
  noneGood : Bool := false
  blocked : Bool := false
  force : Nat := 0
  pendingForce : Option Nat := none
  deriving DecidableEq, Repr

/-- One sequencer channel beside its objects (R266 to R270): the state its owner commands, held released by an isolation
(R209), the level of PG and since when, the flag, and whether the flag was set since the latest assertion; the EN mode, PG mode and
debounce in force, which follow their objects at each turn (R288). -/
structure SeqCh where
  mode : Nat := 0
  pgMode : Nat := 0
  debounce : Nat := 100
  commanded : Bool := false
  held : Bool := false
  pgHigh : Bool := false
  pgSince : Tick := 0
  flag : Bool := false
  flagSeen : Bool := false
  deriving DecidableEq, Repr

/-- One mains tracker beside its objects (R177 to R180). `zeroAt` is a time at which MA was 0 and `period` the period of
the NCO; `opened` the crossing that opened the running half cycle, and whether it rose; `cycle` is the cycle at
`zeroAt`, counted by passes of MA through 0. -/
structure MainsT where
  zeroAt : Tick := 0
  period : Nat := 512000000
  opened : Option (Tick × Bool) := none
  lastRise : Option Tick := none
  lastFall : Option Tick := none
  lastPeriod : Option Nat := none
  firstHalf : Bool := false
  good : Nat := 0
  goodPeriod : Option Nat := none
  entered : Tick := 0
  cycle : Nat := 0
  deriving DecidableEq, Repr

/-- The frame tracker beside its objects (R181 to R188). `alignAt` is the time at which FP was `alignFp`; `expect` the
number of periods after it at which the next strobe is due; `stab` the stability in 1/65,536 ppb. -/
structure FrameT where
  alignAt : Tick := 0
  alignFp : Nat := 0
  expect : Nat := 1
  edge : Option Tick := none
  interval : Option Nat := none
  lastStrobe : Tick := 0
  stab : Nat := 65536000
  blockStart : Option Tick := none
  blockCount : Nat := 0
  prevBlock : Option Nat := none
  /-- STEP: the candidate edge, the state left, the edges judged. -/
  candidate : Tick := 0
  returnTo : Nat := 2
  stepEdges : Nat := 0
  /-- Forecasts are discarded, the frames still to come before they may run, the frames before the map learns again,
  suspended by the guard, interrupted since they last ran. -/
  discarded : Bool := false
  discardLeft : Option Nat := none
  learnWait : Nat := 0
  suspended : Bool := false
  interrupted : Bool := false
  /-- The frame at the latest alignment, counted by passes of FP through 0, and the one whose start was worked off last. -/
  boundaryCycle : Nat := 0
  cycle : Nat := 0
  /-- Values of 0x2210.05, .07 and .08 in force (R198). -/
  floor : Nat := 10
  guard0 : Nat := 2000
  offset : Nat := 0
  /-- PPS_IN (R189): its latest edge, whether that waits for a strobe, the start of the 3 s without an edge, and whether their end
  has been journalled. -/
  ppsAt : Option Tick := none
  ppsWaits : Bool := false
  ppsFrom : Option Tick := none
  ppsNoted : Bool := false
  deriving DecidableEq, Repr

/-- One bin of the load map (R194): samples of this frame and their number, and the mean in 1/65,536 mA. -/
structure MapBin where
  sum : Int := 0
  count : Nat := 0
  mean : Int := 0
  deriving DecidableEq, Repr

/-- What a move holds beside its objects (R180, R187, R192): enabled at, the cycles of its time base in which it first
and last ran, its latest run, and a run that waits past the 32 of its turn. -/
structure MoveT where
  enabledAt : Tick := 0
  firstCycle : Option Nat := none
  lastCycle : Option Nat := none
  lastRun : Option Tick := none
  waits : Bool := false
  deriving DecidableEq, Repr

/-- An anchor of capacity learning (R232): SoC_v in millionths, time, the charge counter then, and whether no string
reset, table commit or change of c has occurred since. -/
structure Anchor where
  soc : Int
  time : Tick
  charge : Int
  fresh : Bool
  deriving DecidableEq, Repr

/-- One battery string beside its objects. Charge is counted in thousandths of a mA for one PWM step. -/
structure Str where
  qRem : Int := 0
  qAbs : Int := 0
  /-- Voltage mV, current mA, SoC_v in millionths, temperatures in 0.1 °C, and the latest sample time. -/
  volt : Int := 0
  amp : Int := 0
  socV : Int := 0
  temp : Int := 0
  tMin : Int := 250
  tMax : Int := 250
  sampleAt : Option Tick := none
  firstSample : Option Tick := none
  /-- Whether the charge has been set from a record or from the voltage (R236). -/
  started : Bool := false
  fast : Bool := false
  belowFast : Option Tick := none
  /-- Chain offset in 1/65,536 of a code (R228), filtered discharge rate in 1/65,536 mA (R229). -/
  offset : Int := 0
  rate : Int := 0
  restSince : Option Tick := none
  restTaken : Bool := false
  low : Option Anchor := none
  high : Option Anchor := none
  countState : Nat := 3
  permitted : Bool := false
  permitSince : Option Tick := none
  tempLost : Bool := false
  allow : Int := 0
  /-- The charge current has stayed below the tail since then, and taper is below 1 (R242). -/
  tailSince : Option Tick := none
  tapering : Bool := false
  full : Bool := false
  lvdSince : Option Tick := none
  reconnectSince : Option Tick := none
  lowDisconnected : Bool := false
  /-- Hold or test (R237, R239): code of 0x7121.01, its start, a top hold since the SoC last fell below the high band. -/
  hold : Nat := 0
  holdAt : Tick := 0
  topDone : Bool := false
  /-- The day count of R234 and the latest state record (R236). -/
  dayAt : Tick := 0
  recordAt : Tick := 0
  deriving DecidableEq, Repr

/-- One temperature input beside its objects (R250, R252): consecutive samples open, shorted and in range, and the time
since which it deviates. -/
structure TempIn where
  openRun : Nat := 0
  shortRun : Nat := 0
  validRun : Nat := 0
  deviates : Option Tick := none
  deriving DecidableEq, Repr

/-- One heatsink group beside its objects (R253 to R258): the latest values of T, newest first, what stands, and the stops
that wait for their deadline with the cells that received them; `reached` the cells that the present stop cause, or the
present lack of a valid sensor (`lost`), has stopped. -/
structure Sink where
  history : List Int := []
  throttling : Bool := false
  stopActive : Bool := false
  latched : Bool := false
  few : Bool := false
  unmonitored : Bool := false
  stops : List (Tick × List Nat) := []
  lost : Bool := false
  reached : List Nat := []
  deriving DecidableEq, Repr

/-- The driver supply and the driver fault input of a block (R260, R261, R315). -/
structure Driver where
  low : Nat := 0
  offSince : Option Tick := none
  goodSince : Option Tick := none
  reported : Bool := false
  deriving DecidableEq, Repr

/-- One program slot of a sequencer engine (R276): the program, its step address, the steps executed in this turn, and a
wait with its end. -/
structure SlotT where
  program : Option Nat := none
  addr : Nat := 0
  steps : Nat := 0
  waitEnd : Option Tick := none
  /-- The turn in which the slot runs no further step (R276). -/
  doneTurn : Option Nat := none
  deriving DecidableEq, Repr

/-- What a source holds beside the default authority (R380 to R383): a raised authority, the time of its latest
request, a vendor token's expiry in FT minutes, its wrong keys of the past minute, and the end of its lock-out. -/
structure AuthRec where
  raised : Option Nat := none
  lastRequest : Tick := 0
  expiry : Nat := 0
  wrongKeys : List Tick := []
  lockedUntil : Tick := 0
  deriving DecidableEq, Repr

/-- The lockstep state that a synchronising standby takes from the active (R339): that of every cell, context, group, pool,
BRIDGE_HOLD pin, feed channel, the input selector, every sequencer channel and program slot, tracker, move, string,
temperature input, heatsink group and driver supply, the battery tables, the fault states that these set (R335), and the
authority that the active has granted (R383). -/
structure Lockstep where
  cells : Bank Nat Cell := []
  ctxs : Bank Nat Ctx := []
  groups : Bank Nat Group := []
  pools : Bank Nat Pool := []
  bridge : Bank Nat HoldPin := []
  feeds : Bank Nat FeedCh := []
  selector : Selector := {}
  seqs : Bank Nat SeqCh := []
  progSlots : Bank Nat SlotT := []
  mains : Bank Nat MainsT := []
  frame : FrameT := {}
  loadMap : Bank Nat MapBin := []
  moves : Bank Nat MoveT := []
  strings : Bank Nat Str := []
  tables : Bank Addr Int := []
  tableClass : Nat := 0
  temps : Bank Nat TempIn := []
  sinks : Bank Nat Sink := []
  drivers : Bank Nat Driver := []
  faults : Bank Elem FaultRec := []
  auth : Bank Nat AuthRec := []
  deriving DecidableEq, Repr

end Sys2Proof.Machine
end

