-- ==== Sys2Proof/Syntax.lean ====
section
/-! DEFINITION. The commands of the KM8128 block: one constructor of `Instr` for each row of
spec/opcode_table.json, in the table's order. The table gives its rows no operands; the operands here are the
element a step acts on, the value a write carries, and the reading an outside part gives. The first operand `t` of
every constructor is the time at which the step happens (R43), or the moment `At` that holds it. `src` is the node that sent a dictionary write
(0x00 the maintenance port, R380). -/

namespace Sys2Proof

/-- One temperature input's 1 ms sample (R249, R250). -/
inductive TempReading where
  /-- NTC mode: x = V(TIN)/VDDA in parts per million. -/
  | ntc (ppm : Nat)
  /-- Diode mode: forward voltage at 100 µA and the difference ΔV, both in µV. -/
  | diode (forwardMicroVolt deltaMicroVolt : Nat)
  deriving DecidableEq, Repr

/-- One converted value of an analogue or digital input, as an ADC code, a level or a reading (R335 lists the inputs), or an
edge at the test port. -/
inductive Sample where
  /-- Voltage input v, 14-bit code (R13). -/
  | volt (v : VoltId) (code : Nat)
  /-- GSNS(f), 12-bit code (R199). -/
  | gsns (f : FeedId) (code : Nat)
  /-- VDS(f), 12-bit code. -/
  | vds (f : FeedId) (code : Nat)
  /-- ISNS(f), 12-bit code. -/
  | isns (f : FeedId) (code : Nat)
  /-- ACS(ph), signed 12-bit code. -/
  | acs (ph : PhaseId) (code : Int)
  /-- Level at PG(s). -/
  | pg (s : SeqId) (high : Bool)
  /-- Level at DRVFLT_N(b). -/
  | drvflt (b : BlockId) (high : Bool)
  /-- A cell ADC conversion, 12-bit code (R62). -/
  | cellAdc (c : CellId) (code : Nat)
  /-- TIN(t). -/
  | tin (i : TempId) (r : TempReading)
  /-- VDRV(b) in mV at the pin (R260). -/
  | vdrv (b : BlockId) (pinMilliVolt : Nat)
  /-- An edge of TCK at the test port (R441). -/
  | tck
  deriving DecidableEq, Repr

/-- One entry of a request (Table 15-4); a write carries its value, an OCTET_STRING as its octets. -/
structure Entry where
  write : Bool
  index : Nat
  sub : Nat
  inst : Nat
  length : Nat
  value : Int
  octets : List Nat
  deriving DecidableEq, Repr

/-- An input of an arbiter (R35 to R37): cell 0 to 7 or the block's own sources (8); region inputs 0 to 5; chip
inputs 0 to 14 in the order of R37. -/
inductive ArbInput where
  | block (b : BlockId) (input : Fin 9)
  | region (r : RegionId) (input : Fin 6)
  | chip (input : Fin 15)
  deriving DecidableEq, Repr

/-- What the outside shows a start: the clocks, strap pin voltages in µV, REFIN, the journal store, the sideband inputs and the
TEST pin. -/
structure StartInputs where
  /-- The reference has edges and both PLLs have locked (R322, R453 step 1). -/
  clocksGood : Bool
  strapMicroVolt : List Nat
  refin : Bool
  storePresent : Bool
  /-- The store passes its identification (R303). -/
  storeIdentified : Bool
  /-- The boot ROM's check of the slot it is about to boot (R431), slot A then slot B. -/
  slotCheckA : Bool
  slotCheckB : Bool
  /-- Lines of the embedded flash that failed their check in the scan, each with whether its margin re-read passed (R402). -/
  flashReads : List (Nat × Bool)
  test : Bool
  /-- The levels at the strap point: TWIN_PRES_N(in) is low, TOKEN_STATE(in) is high (R332). -/
  partnerPresent : Bool
  partnerToken : Bool
  /-- The first conversions of the shared inputs. -/
  samples : List Sample
  deriving DecidableEq, Repr

/-- A moment, and what the outside shows at it. -/
structure At (α : Type) where
  time : Tick
  brings : α
  deriving DecidableEq, Repr

/-- The levels at the sideband inputs of a pair: TWIN_PRES_N(in) is low, TOKEN_STATE(in) is high (R332). -/
structure TwinPins where
  present : Bool
  tokenHigh : Bool
  deriving DecidableEq, Repr

/-- A low level at a reset input: for how long it has been low, and whether it is low still (R331, R451). -/
structure LowLevel where
  nanoSeconds : Nat
  still : Bool
  deriving DecidableEq, Repr

/-- A cell at its period start, and the latest conversions of its slope sources (R71). -/
structure PeriodCall where
  cell : CellId
  samples : List Sample
  deriving DecidableEq, Repr

/-- The means of a current input's conversions, as codes: since the previous estimator sample, and over the latest 250 µs
(R227). -/
structure CurrentCodes where
  mean : Nat
  latest : Nat
  deriving DecidableEq, Repr

/-- The key of a restore, and the flash lines that failed their check while it read, each with whether its margin re-read
passed (R402). -/
structure RestoreCall where
  key : Nat
  flashReads : List (Nat × Bool)
  deriving DecidableEq, Repr

/-- What synchronisation copies to a standby: the dictionary contents and the lockstep state (R339). -/
structure MirrorCopy where
  entries : List Entry
  lockstep : Machine.Lockstep
  deriving DecidableEq, Repr

/-- A request to a line of the SRAM, and what its repair reads from the line's source (R419, R420). -/
structure LineCall where
  request : MemRequest
  source : LineRead
  deriving DecidableEq, Repr

/-- The commands: one constructor per row of spec/opcode_table.json. -/
inductive Instr where
  | registerWrite (t : Tick) (src : NodeId) (index sub inst : Nat) (value : Int) (length : Nat)
  | blockArbiterAccept (t : Tick) (b : BlockId)
  | regionArbiterAccept (t : Tick) (r : RegionId)
  | chipArbiterAccept (t : Tick)
  | eventsMerged (t : Tick) (input : ArbInput)
  | cellReset (t : Tick) (src : NodeId) (c : CellId) (key : Nat)
  | blockReset (t : Tick) (src : NodeId) (b : BlockId) (key : Nat)
  | regionReset (t : Tick) (src : NodeId) (r : RegionId) (key : Nat)
  | chipReset (t : Tick) (src : NodeId) (key : Nat)
  | controlSampleReady (t : Tick) (k : CtxId)
  | engineSlotStart (t : Tick) (b : BlockId)
  | contextSkip (t : Tick) (k : CtxId)
  | commandDelivery (t : Tick) (k : CtxId)
  | contextEnable (t : Tick) (src : NodeId) (k : CtxId) (value : Nat)
  | contextHold (t : Tick) (src : NodeId) (k : CtxId)
  | releaseWithSwap (t : Tick) (src : NodeId) (k : CtxId)
  | releaseWithoutSwap (t : Tick) (src : NodeId) (k : CtxId)
  | holdOverrun (t : Tick) (k : CtxId)
  | cellPeriodStart (t : Tick) (call : PeriodCall)
  | cellAdcConversion (t : Tick) (c : CellId) (nanoVolt : Int)
  | cellOffsetCheckEnd (t : Tick) (c : CellId)
  | peakComparatorTrip (t : Tick) (c : CellId) (nanoVolt : Int)
  | leadingEdgeBlankingEnd (t : Tick) (c : CellId) (nanoVolt : Int)
  | maximumOnTimeEnd (t : Tick) (c : CellId)
  | ceilingTrip (t : Tick) (c : CellId) (nanoVolt : Int)
  | pwmNetMismatch (t : Tick) (c : CellId) (net : Net)
  | groupStart (t : Tick) (src : NodeId) (g : GroupId)
  | groupOrderlyStop (t : Tick) (src : NodeId) (g : GroupId)
  | groupImmediateStop (t : Tick) (src : NodeId) (g : GroupId)
  | setpointTargetWrite (t : Tick) (src : NodeId) (g : GroupId) (milliVolt : Nat)
  | turnStart (t : Tick) (samples : List Sample)
  | groupPowerGood (t : Tick) (g : GroupId)
  | groupPowerGoodLoss (t : Tick) (g : GroupId)
  | groupStartTimeout (t : Tick) (g : GroupId)
  | mainsWaitExit (t : Tick) (g : GroupId)
  | isoBulkUndervoltage (t : Tick) (g : GroupId)
  | relayOpenConfirmed (t : Tick) (g : GroupId)
  | batStopRelayDelayEnd (t : Tick) (g : GroupId)
  | bstTargetUpdate (t : Tick) (g : GroupId)
  | phaseAddDecision (t : Tick) (g : GroupId)
  | phaseShedDecision (t : Tick) (g : GroupId)
  | deviationLoadStep (t : Tick) (g : GroupId)
  | loadStep (t : Tick) (g : GroupId)
  | senseRatioUpdate (t : Tick) (g : GroupId) (senseCode : Nat)
  | noRippleClassification (t : Tick) (c : CellId) (senseCode : Nat)
  | shareLimitActive (t : Tick) (g : GroupId)
  | poolMemberAdd (t : Tick) (p : PoolId)
  | poolMemberPark (t : Tick) (p : PoolId)
  | poolRotation (t : Tick) (p : PoolId)
  | poolRotationPark (t : Tick) (p : PoolId)
  | doublesWrite (t : Tick) (src : NodeId) (b : BlockId) (value : Nat)
  | runTimeSave (t : Tick)
  | mainsZeroCrossing (t : Tick) (ph : PhaseId) (rising : Bool) (rmsDeciVolt : Nat)
  | halfCycleEnd (t : Tick) (ph : PhaseId) (rmsDeciVolt : Nat)
  | mainsLost (t : Tick) (ph : PhaseId)
  | frameStrobe (t : Tick)
  | strobeMiss (t : Tick)
  | forecastSuspend (t : Tick)
  | ppsEdge (t : Tick)
  | ppsAbsent (t : Tick)
  | frameBoundary (t : Tick)
  | mapClear (t : Tick) (src : NodeId) (value : Nat)
  | channelOn (t : Tick) (src : NodeId) (f : FeedId)
  | channelOff (t : Tick) (src : NodeId) (f : FeedId)
  | inrushComplete (t : Tick) (f : FeedId)
  | inrushTimeout (t : Tick) (f : FeedId)
  | thermalModelUpdate (t : Tick) (f : FeedId) (vdsCode isnsCode gsnsCode : Nat)
  | shortCircuitTrip (t : Tick) (f : FeedId) (isnsCode : Nat)
  | currentLimitEngaged (t : Tick) (f : FeedId) (isnsCode : Nat)
  | gateFail (t : Tick) (f : FeedId)
  | weldedTest (t : Tick) (f : FeedId)
  | cooldownEnd (t : Tick) (f : FeedId)
  | channelPowerGood (t : Tick) (f : FeedId)
  | retryCountReset (t : Tick) (f : FeedId)
  | channelReset (t : Tick) (src : NodeId) (f : FeedId) (key : Nat)
  | feedDropped (t : Tick) (x : Feed)
  | feedGood (t : Tick) (x : Feed)
  | feedConfirmedOff (t : Tick) (x : Feed)
  | transferBlocked (t : Tick)
  | returnDwellEnd (t : Tick)
  | forceSelectA (t : Tick) (src : NodeId)
  | forceSelectB (t : Tick) (src : NodeId)
  | forceAutomatic (t : Tick) (src : NodeId)
  | estimatorSample (t : Tick) (n : StringId) (voltCode : Nat) (current : CurrentCodes) (shortedCode : Nat)
  | restPoint (t : Tick) (n : StringId)
  | confidenceDecay (t : Tick) (n : StringId)
  | batteryStateRecord (t : Tick) (n : StringId)
  | tableCommit (t : Tick) (src : NodeId) (value : Nat)
  | restHoldStart (t : Tick) (src : NodeId) (n : StringId)
  | restHoldAbort (t : Tick) (src : NodeId) (n : StringId)
  | restHoldEnd (t : Tick) (n : StringId)
  | capacityTestStart (t : Tick) (src : NodeId) (n : StringId)
  | capacityTestAbort (t : Tick) (src : NodeId) (n : StringId)
  | chargePermit (t : Tick) (n : StringId)
  | fullCharge (t : Tick) (n : StringId)
  | batLimitUpdate (t : Tick) (g : GroupId)
  | lowVoltageDisconnect (t : Tick) (n : StringId)
  | stringReconnect (t : Tick) (n : StringId)
  | stringReset (t : Tick) (src : NodeId) (n : StringId) (key : Nat)
  | temperatureSample (t : Tick) (readings : List (TempId × TempReading))
  | sensorSuspect (t : Tick) (i : TempId)
  | stopDeadlineCheck (t : Tick) (h : SinkId) (netsHigh : List CellId)
  | driverSupplySample (t : Tick) (b : BlockId) (pinMilliVolt : Nat)
  | thermalLatchClear (t : Tick) (b : BlockId)
  | dieTemperatureSample (t : Tick) (deciCelsius : List Int)
  | dieSensorsDisagree (t : Tick) (r : RegionId)
  | stepEnd (t : Tick) (e : SlotId)
  | stepEnable (t : Tick) (e : SlotId)
  | stepRelease (t : Tick) (e : SlotId)
  | stepWait (t : Tick) (e : SlotId)
  | stepWaitpg (t : Tick) (e : SlotId)
  | stepCheck (t : Tick) (e : SlotId)
  | stepJump (t : Tick) (e : SlotId)
  | stepMark (t : Tick) (e : SlotId)
  | waitComplete (t : Tick) (e : SlotId)
  | waitpgLevelReached (t : Tick) (e : SlotId)
  | waitpgTimeout (t : Tick) (e : SlotId)
  | enAssertCommand (t : Tick) (src : NodeId) (n : SeqId)
  | enReleaseCommand (t : Tick) (src : NodeId) (n : SeqId)
  | pgFlagSet (t : Tick) (n : SeqId)
  | pgFlagClear (t : Tick) (n : SeqId)
  | inputGoodSet (t : Tick)
  | inputGoodClear (t : Tick)
  | programStartCommand (t : Tick) (src : NodeId) (p : ProgId)
  | programAbort (t : Tick) (src : NodeId) (p : ProgId)
  | supplyCollapse (t : Tick) (vauxMilliVolt : Nat)
  | telemetryWindowEnd (t : Tick) (w : WindowId)
  | heldReadAndClear (t : Tick) (src : NodeId) (kind : TeleKind) (q w : Fin 4) (inst : Nat) (maximum : Bool)
  | heldClear (t : Tick) (src : NodeId) (kind : TeleKind) (q w : Fin 4) (inst : Nat) (value : Nat)
  | clearAllHeld (t : Tick) (src : NodeId) (value : Nat)
  | captureArm (t : Tick) (src : NodeId) (x : TrigId)
  | captureTrigger (t : Tick) (src : NodeId) (x : TrigId)
  | captureDisarm (t : Tick) (src : NodeId) (x : TrigId)
  | captureRecordingEnd (t : Tick) (x : TrigId)
  | captureFlushComplete (t : Tick) (x : TrigId)
  | journalPageWrite (t : Tick)
  | journalPageWritten (t : Tick) (ok : Bool)
  | sequenceSearch (t : Tick) (src : NodeId) (seq : Nat)
  | sequenceSearchComplete (t : Tick)
  | injectExecute (t : Tick) (src : NodeId) (value : Nat)
  | serviceReset (t : Tick) (src : NodeId) (svc : SvcId) (key : Nat)
  | autoRestart (t : Tick)
  | processorWatchdog (t : Tick) (processor : Fin 2)
  | referenceLost (t : Tick)
  | pllUnlock (t : Tick) (which : Pll)
  | driverFault (t : Tick) (b : BlockId)
  | testKey (t : Tick) (valid : Bool)
  | testKeyTimeout (t : Tick)
  | partnerResetIn (t : Tick) (low : LowLevel)
  | twinPresenceTimeout (highSince : At Tick)
  | electionWaitEnd (pins : At TwinPins)
  | tokenStateRise (t : Tick)
  | tokenCollisionCheck (t : Tick) (tokenIn : Bool)
  | driveRightTaken (t : Tick) (samples : List Sample)
  | twinIdentityExchange (t : Tick) (linkUp : Bool) (partnerNode partnerPreference partnerLevel : Nat)
  | twinJoinRetry (pins : At TwinPins)
  | twinSampleReceive (t : Tick) (received own : Sample)
  | plausibilityRestored (t : Tick)
  | turnCrcCompare (t : Tick) (partnerCrc : Nat)
  | heartbeat (t : Tick) (turn : Nat)
  | forwardedWriteApply (t : Tick) (src : NodeId) (entries : List Entry) (transaction : Bool)
  | partnerEventReceive (t : Tick) (record : List Nat)
  | synchronisationComplete (t : Tick) (freeTime : Nat) (copy : MirrorCopy)
  | twinLinkDown (t : Tick)
  | handoverProposal (t : Tick) (boundary : Tick) (cause : Nat)
  | handoverBoundary (t : Tick)
  | cellHandoverInstant (t : Tick) (c : CellId)
  | handoverComplete (t : Tick)
  | hardHandover (t : Tick)
  | twinSwap (t : Tick) (src : NodeId)
  | twinForcedSwap (t : Tick) (src : NodeId)
  | twinHoldPartner (t : Tick) (src : NodeId)
  | twinReleasePartner (t : Tick) (src : NodeId)
  | twinDrillNow (t : Tick) (src : NodeId)
  | heartbeatHang (t : Tick)
  | loudFailure (t : Tick) (net : Nat) (differNanoSeconds : Nat) (crcAgrees : Bool)
  | heartbeatSilent (t : Tick) (idleConsistent : Bool)
  | linkLossJudgement (t : Tick) (idleConsistent : Bool)
  | coldTakeover (t : Tick)
  | partnerResetPulseEnd (t : Tick)
  | drillDue (t : Tick)
  | drillSkip (t : Tick)
  | portLinkDown (t : Tick) (port : Port)
  | ringUnwrap (t : Tick)
  | nodeIsolated (t : Tick)
  | cycleStartFrame (t : Tick) (node : NodeId) (cycle lengthMicroSeconds : Nat) (turned : Bool)
  | cycleStartSend (t : Tick)
  | masterTakeover (t : Tick)
  | cyclicImageFrame (t : Tick) (node : NodeId) (octets : List Nat)
  | imageTimeout (t : Tick) (node : NodeId)
  | ringCheckFrame (t : Tick) (node : NodeId) (cycle : Nat)
  | crcFailedFrame (t : Tick) (port : Port)
  | requestFrame (t : Tick) (node : NodeId) (sequence flags : Nat) (mask : List NodeId) (parses : Bool) (entries : List Entry)
  | transactionCommit (t : Tick)
  | responseFrame (t : Tick) (node : NodeId) (sequence result : Nat)
  | segmentFrame (t : Tick) (node : NodeId) (sequence offset : Nat) (octets : List Nat)
  | segmentAcknowledgement (t : Tick) (node : NodeId) (sequence next : Nat)
  | transferAbort (t : Tick) (node : NodeId) (sequence code : Nat)
  | segmentResendTimeout (t : Tick) (node : NodeId) (sequence : Nat)
  | integratorLogin (t : Tick) (src : NodeId) (key : List Nat)
  | integratorKeySet (t : Tick) (src : NodeId) (key : List Nat)
  | vendorToken (t : Tick) (src : NodeId) (expiryMinutes : Nat) (tokenNode : NodeId) (signatureValid : Bool)
  | dropAuthority (t : Tick) (src : NodeId) (value : Nat)
  | authorityIdleTimeout (t : Tick) (src : NodeId)
  | fanOutExecute (t : Tick) (src : NodeId) (value : Nat)
  | fanOutTimeout (t : Tick) (node : NodeId)
  | store (t : Tick) (src : NodeId) (key : Nat)
  | storeComplete (rewritten : At Bool)
  | storeAbort (t : Tick) (src : NodeId) (value : Nat)
  | restoreStored (t : Tick) (src : NodeId) (call : RestoreCall)
  | restoreFactory (t : Tick) (src : NodeId) (key : Nat)
  | compactionStep (flashReads : At (List (Nat × Bool)))
  | sramRepair (t : Tick) (line : Nat) (call : LineCall)
  | scrubRead (t : Tick) (failed : Bool) (source : LineRead)
  | imageTransfer (t : Tick) (src : NodeId) (sequence length : Nat) (header : List Nat)
  | installComplete (t : Tick) (flashReads : List (Nat × Bool)) (signatureGood : Bool)
  | installAbort (t : Tick) (src : NodeId) (value : Nat)
  | confirm (t : Tick) (src : NodeId) (key : Nat)
  | selfCheckEvaluation (t : Tick)
  | trialExpiry (t : Tick)
  | powerOn (t : Tick)
  | supplyOutOfRange (t : Tick) (supply : Supply) (milliVolt : Nat)
  | rstNLow (t : Tick) (low : LowLevel)
  | chipStart (t : Tick) (inputs : StartInputs)
  | crossingTimeout (t : Tick) (loopBlock : Option BlockId)
  | halfPeriodStart (t : Tick) (c : CellId)
  | deadTimeEnd (t : Tick) (c : CellId) (net : Net)
  | pwmbProgrammedEdge (t : Tick) (c : CellId) (rise : Bool)
  | ringPhyReady (t : Tick)
  | ringPortLinkUp (t : Tick) (port : Port)
  | twinLinkUp (t : Tick)
  | twinPresenceFall (tokenHigh : At Bool)
  | handoverDeferralTimeout (t : Tick)
  | yieldHandoverTimeout (t : Tick)
  | journalBlockErased (t : Tick) (ok : Bool)
  | storeFailed (t : Tick)
  | installFlashWriteFailed (t : Tick)
  | channelPowerGoodLoss (t : Tick) (f : FeedId)
  | feedSenseOverRange (t : Tick) (f : FeedId) (isns : Bool) (code : Nat)
  | gateRiseThresholdReached (t : Tick)
  deriving DecidableEq, Repr

end Sys2Proof
end

