-- ==== Sys2Proof/WellFormed.lean ====
section
/-! DEFINITION. Which commands are well formed: the operands that a Lean type does not already bound lie in the range
that the spec gives the thing they stand for. -/

namespace Sys2Proof

/-- A converted value lies in the range of its converter: 14 bits at a voltage input, 12 bits at a feed sense (R13,
R199). -/
def Sample.wf : Sample → Bool
  | .volt _ code => decide (code < 16384)
  | .gsns _ code => decide (code < 4096)
  | .vds _ code => decide (code < 4096)
  | .isns _ code => decide (code < 4096)
  | .acs _ c => decide (-2048 ≤ c ∧ c ≤ 2047)
  | .pg _ _ => true
  | .drvflt _ _ => true
  | .cellAdc _ code => decide (code < 4096)
  | .tin _ (.ntc ppm) => decide (ppm ≤ 1000000)
  | .tin _ (.diode _ _) => true
  | .vdrv _ _ => true
  | .tck => true

/-- An entry of a request (Table 15-4): a 16-bit index and 8-bit sub-index, a 32-bit instance and a 16-bit length. -/
def Entry.wf (e : Entry) : Bool :=
  decide (e.index < 0x10000) && decide (e.sub < 0x100) && decide (e.inst < 0x100000000) && decide (e.length < 0x10000) &&
    e.octets.all (fun o => decide (o < 256))

/-- Whether the operands of a command are values that the thing named can have. -/
def Instr.wf : Instr → Bool
  | .registerWrite _ _ index sub inst _ length =>
    decide (index < 0x10000) && decide (sub < 0x100) && decide (inst < 0x100000000) && decide (length < 0x10000)
  | .cellPeriodStart _ call => call.samples.all Sample.wf
  | .turnStart _ samples => samples.all Sample.wf
  | .driveRightTaken _ samples => samples.all Sample.wf
  | .twinSampleReceive _ received own => received.wf && own.wf
  | .thermalModelUpdate _ _ v i g => decide (v < 4096) && decide (i < 4096) && decide (g < 4096)
  | .shortCircuitTrip _ _ i => decide (i < 4096)
  | .currentLimitEngaged _ _ i => decide (i < 4096)
  | .feedSenseOverRange _ _ _ code => decide (code < 4096)
  | .estimatorSample _ _ v i sh =>
    decide (v < 16384) && decide (i.mean < 16384) && decide (i.latest < 16384) && decide (sh < 16384)
  | .temperatureSample _ rs => rs.all fun r =>
      match r.2 with
      | .ntc ppm => decide (ppm ≤ 1000000)
      | .diode _ _ => true
  | .cyclicImageFrame _ _ octets => octets.all fun o => decide (o < 256)
  | .segmentFrame _ _ _ _ octets => octets.all fun o => decide (o < 256)
  | .requestFrame _ _ sequence flags _ _ entries =>
    decide (sequence < 0x10000) && decide (flags < 256) && entries.all Entry.wf
  | .forwardedWriteApply _ _ entries _ => entries.all Entry.wf
  | .chipStart _ inputs => inputs.samples.all Sample.wf && inputs.flashReads.all fun p => decide (p.1 < 131072)
  | .synchronisationComplete _ freeTime copy => decide (freeTime < 2 ^ 48) && copy.entries.all Entry.wf
  | .restoreStored _ _ call => call.flashReads.all fun p => decide (p.1 < 131072)
  | .compactionStep reads => reads.brings.all fun p => decide (p.1 < 131072)
  | .installComplete _ reads _ => reads.all fun p => decide (p.1 < 131072)
  | .partnerEventReceive _ record => decide (record.length = 64) && record.all fun o => decide (o < 256)
  | _ => true

end Sys2Proof
end

