-- ==== Sys2Proof/Config.lean ====
section
/-! DEFINITION. What one implementation fixes and what the spec leaves open. Every constant is opaque: no statement can
rest on a value of it. -/

namespace Sys2Proof.Config

/-- A value that the spec leaves open, drawn by its number (assumption 7). -/
opaque freeValue : Nat → Nat

/-- An octet of a capture buffer that the spec does not state: the layout of the descriptor area, by its content and
offset (R297), and what an instant holds that was never recorded, by trigger and offset (R299). -/
opaque descriptorOctet : List (Nat × Nat × Int × Nat) → List (Nat × Int) → Nat → Nat
opaque staleOctet : Nat → Nat → Nat

/-- How many settings parts a set fills beyond the first (R409): the spec gives no encoding of a set; by the numbers of
objects, table entries and banks that it holds. -/
opaque settingsParts : Nat → Nat → Nat → Nat

/-- A payload octet of a flash record whose encoding the spec does not give, by kind, instance, record sequence and offset
(Table 17-3). -/
opaque payloadOctet : Nat → Nat → Nat → Nat → Nat

/-- 0x1000.03, hardware revision 0 to 15 (R396). -/
opaque hardwareRevision : Nat
/-- 0x1000.04, the 16 octets of the chip identity (R396). -/
opaque chipIdentity : List Nat
/-- 0x1000.05 and .06, version and build of the image in a firmware slot at manufacture (R396). -/
opaque firmwareVersion : Nat
opaque firmwareBuild : Nat
/-- 0x1000.08, boot ROM version (R396). -/
opaque bootRomVersion : Nat
/-- 0x1200.06, the compatibility level of the running image (R333). -/
opaque twinLevel : Nat

end Sys2Proof.Config
end

