-- ==== Sys2Proof/Machine/ObjectTable.lean ====
section
/-! DEFINITION. The directory of the parameter dictionary (R391 to R398): one row for each row of the object tables of
the chapters, with its type, access class, instance kind, default, range and authority. Defaults that depend on the
role, the straps or the battery class are worked out in Machine/Ops.lean; ranges that relate several objects are judged
in Machine/WriteRules.lean. -/

namespace Sys2Proof.Machine

/-- The types of Table 15-5 that the tables use. -/
inductive ObjType where
  | bool | u8 | u16 | u32 | u64 | i8 | i16 | i32 | i64 | octets
  deriving DecidableEq, Repr

/-- The access classes of Table 15-6. -/
inductive Access where
  | ro | rw | rws | wo | rwh
  deriving DecidableEq, Repr

/-- The instance kinds of Table 16-2. -/
inductive InstKind where
  | none | cell | block | ctx | region | group | feed | string | move | seq | slot | temp | trig | volt | step | mirror
  | prog | svc | node | fwSlot
  deriving DecidableEq, Repr

/-- One row of an object table. It covers `count` consecutive indices from `base` and the sub-indices `lo` to `hi`.
`range` is the range the row gives, `orFF` says that 0xFF is accepted beside it, `clears` that only a write of 0 is
accepted ("write 0 to clear"), and `role` the role that gives a row of 0x6210 or a window of 0x6200 (0 for every other row). -/
structure ObjRow where
  base : Nat
  count : Nat
  lo : Nat
  hi : Nat
  type : ObjType
  access : Access
  kind : InstKind
  default : Int
  range : Option (Int × Int)
  authority : Nat
  orFF : Bool := false
  clears : Bool := false
  role : Nat := 0
  deriving DecidableEq, Repr

/-- A row without the less common fields. -/
def row (base count lo hi : Nat) (type : ObjType) (access : Access) (kind : InstKind) (default : Int)
    (range : Option (Int × Int)) (authority : Nat) : ObjRow :=
  { base, count, lo, hi, type, access, kind, default, range, authority }

/-- The number of instances of a kind (Table 16-2). -/
def InstKind.count : InstKind → Nat
  | .none => 1 | .cell => 128 | .block => 16 | .ctx => 256 | .region => 4 | .group => 64 | .feed => 24 | .string => 4
  | .move => 1024 | .seq => 64 | .slot => 33554432 | .temp => 48 | .trig => 4 | .volt => 48 | .step => 2048
  | .mirror => 1024 | .prog => 32 | .svc => 4 | .node => 255 | .fwSlot => 2

/-- The octets of a type (Table 15-5); an OCTET_STRING has the length its object gives. -/
def ObjType.size : ObjType → Nat
  | .bool => 1 | .u8 => 1 | .i8 => 1 | .u16 => 2 | .i16 => 2 | .u32 => 4 | .i32 => 4 | .u64 => 8 | .i64 => 8
  | .octets => 0

/-- Whether a value is one that the type encodes (R375). -/
def ObjType.holds (t : ObjType) (v : Int) : Bool :=
  match t with
  | .bool => decide (v = 0 ∨ v = 1)
  | .u8 => decide (0 ≤ v ∧ v < 0x100)
  | .u16 => decide (0 ≤ v ∧ v < 0x10000)
  | .u32 => decide (0 ≤ v ∧ v < 0x100000000)
  | .u64 => decide (0 ≤ v ∧ v < 0x10000000000000000)
  | .i8 => decide (-0x80 ≤ v ∧ v < 0x80)
  | .i16 => decide (-0x8000 ≤ v ∧ v < 0x8000)
  | .i32 => decide (-0x80000000 ≤ v ∧ v < 0x80000000)
  | .i64 => decide (-0x8000000000000000 ≤ v ∧ v < 0x8000000000000000)
  | .octets => true

/-- Rows of the tables that define the indices 0x1000 to 0x1FFF, part 1. -/
def rows1a : List ObjRow :=
  [row 0x1000 1 0x01 0x01 .u32 .ro .none 1263370536 none 2,
   row 0x1000 1 0x02 0x02 .u16 .ro .none 33064 none 2,
   row 0x1000 1 0x03 0x03 .u8 .ro .none 0 none 2,
   row 0x1000 1 0x04 0x04 .octets .ro .none 0 none 2,
   row 0x1000 1 0x05 0x05 .u32 .ro .none 0 none 2,
   row 0x1000 1 0x06 0x06 .u32 .ro .none 0 none 2,
   row 0x1000 1 0x07 0x07 .u8 .ro .none 0 none 2,
   row 0x1000 1 0x08 0x08 .u16 .ro .none 0 none 2,
   row 0x1100 1 0x01 0x01 .u8 .ro .none 0 none 2,
   row 0x1100 1 0x02 0x02 .bool .ro .none 0 none 2,
   row 0x1100 1 0x03 0x03 .bool .ro .none 0 none 2,
   row 0x1100 1 0x04 0x04 .u8 .ro .none 0 none 2,
   row 0x1100 1 0x05 0x05 .u32 .ro .none 0 none 2,
   { row 0x1100 1 0x06 0x06 .u32 .rw .none 0 none 1 with clears := true },
   { row 0x1100 1 0x07 0x07 .u32 .rw .none 0 none 1 with clears := true },
   row 0x1100 1 0x08 0x08 .u8 .ro .none 0 none 2,
   row 0x1101 1 0x01 0x01 .u32 .rws .none 1000 (some (250, 10000)) 2,
   row 0x1101 1 0x02 0x02 .bool .rws .none 1 none 2,
   row 0x1101 1 0x03 0x03 .u16 .rws .none 10 (some (2, 1000)) 2,
   row 0x1101 1 0x04 0x04 .u32 .rws .none 600 (some (10, 86400)) 2,
   row 0x1101 1 0x05 0x05 .u8 .rws .none 1 (some (0, 1)) 2,
   row 0x1110 1 0x01 0x01 .octets .wo .none 0 none 0,
   row 0x1110 1 0x02 0x02 .u32 .ro .none 0 none 2,
   row 0x1110 1 0x03 0x03 .octets .wo .none 0 none 0,
   row 0x1110 1 0x04 0x04 .octets .wo .none 0 none 2,
   row 0x1110 1 0x05 0x05 .u8 .wo .none 0 none 0,
   row 0x1111 1 0x01 0x01 .u8 .ro .node 1 none 2,
   row 0x1200 1 0x01 0x01 .u8 .ro .none 0 none 2,
   row 0x1200 1 0x02 0x02 .u8 .ro .none 255 none 2,
   row 0x1200 1 0x03 0x03 .u8 .ro .none 0 none 2,
   row 0x1200 1 0x04 0x04 .u8 .ro .none 0 none 2,
   row 0x1200 1 0x05 0x05 .u16 .ro .none 0 none 2,
   row 0x1200 1 0x06 0x06 .u16 .ro .none 0 none 2,
   row 0x1200 1 0x07 0x07 .u16 .ro .none 0 none 2,
   row 0x1200 1 0x08 0x08 .u8 .ro .none 0 none 2,
   row 0x1200 1 0x0A 0x0A .u8 .ro .none 0 none 2,
   { row 0x1200 1 0x0B 0x0B .u32 .rw .none 0 none 1 with clears := true },
   { row 0x1200 1 0x0C 0x0C .u32 .rw .none 0 none 1 with clears := true },
   { row 0x1200 1 0x0D 0x0D .u32 .rw .none 0 none 1 with clears := true },
   row 0x1200 1 0x0E 0x0E .u8 .ro .none 0 none 2]

/-- Rows of the tables that define the indices 0x1000 to 0x1FFF, part 2. -/
def rows1b : List ObjRow :=
  [row 0x1200 1 0x0F 0x0F .u32 .ro .none 0 none 2,
   row 0x1200 1 0x10 0x10 .u16 .ro .none 65535 none 2,
   row 0x1200 1 0x11 0x11 .u8 .ro .none 0 none 2,
   row 0x1210 1 0x01 0x01 .u32 .rws .none 100 (some (10, 10000)) 2,
   row 0x1210 1 0x02 0x02 .u8 .rws .none 3 (some (1, 20)) 2,
   row 0x1230 1 0x01 0x01 .bool .rws .none 1 none 2,
   row 0x1230 1 0x02 0x02 .u16 .rws .none 24 (some (1, 8760)) 2,
   row 0x1230 1 0x03 0x03 .u8 .rws .none 2 none 2,
   row 0x1230 1 0x04 0x04 .u32 .rws .none 0 none 2,
   { row 0x1230 1 0x05 0x05 .bool .rw .none 0 none 1 with clears := true },
   row 0x1230 1 0x06 0x06 .u64 .ro .none 0 none 2,
   row 0x1230 1 0x07 0x07 .u8 .ro .none 0 none 2,
   row 0x1400 1 0x01 0x40 .u32 .rws .none 0 none 2,
   row 0x1401 1 0x01 0x40 .u32 .rws .none 0 none 2,
   row 0x1402 1 0x01 0x01 .u16 .ro .none 0 none 2,
   row 0x1600 1 0x01 0x40 .u32 .rws .none 0 none 2,
   row 0x1601 1 0x01 0x40 .u32 .rws .none 0 none 2,
   row 0x1602 1 0x01 0x40 .u32 .rws .none 0 none 2,
   row 0x1603 1 0x01 0x40 .u64 .rws .none 0 none 2,
   { row 0x1604 1 0x01 0x01 .u32 .rw .none 0 none 1 with clears := true },
   { row 0x1604 1 0x02 0x02 .u32 .rw .none 0 none 1 with clears := true }]

/-- Rows of the tables that define the indices 0x2000 to 0x2FFF, part 1. -/
def rows2a : List ObjRow :=
  [row 0x2000 1 0x01 0x01 .u8 .ro .none 0 none 2,
   row 0x2000 1 0x02 0x02 .u32 .ro .none 0 none 2,
   row 0x2000 1 0x03 0x03 .u8 .ro .none 0 none 2,
   row 0x2000 1 0x04 0x04 .u16 .ro .none 0 none 2,
   row 0x2000 1 0x05 0x05 .u32 .ro .none 0 none 2,
   row 0x2010 1 0x01 0x08 .u8 .ro .none 0 none 2,
   row 0x2011 1 0x01 0x01 .u8 .ro .none 0 none 2,
   row 0x2011 1 0x02 0x02 .u8 .ro .none 0 none 2,
   row 0x2011 1 0x03 0x03 .u32 .ro .none 0 none 2,
   row 0x2011 1 0x04 0x04 .u32 .ro .none 0 none 2,
   row 0x2011 1 0x05 0x05 .u8 .ro .none 0 none 2,
   row 0x2011 1 0x06 0x06 .u8 .ro .none 0 none 2,
   row 0x2011 1 0x07 0x07 .u32 .ro .none 0 none 2,
   row 0x2011 1 0x08 0x08 .u8 .ro .none 0 none 2,
   row 0x2011 1 0x09 0x09 .u16 .ro .none 0 none 2,
   { row 0x2100 4 0x01 0x10 .u8 .rws .none 255 (some (0, 63)) 2 with orFF := true },
   row 0x2100 4 0x11 0x11 .u8 .rws .none 2 (some (1, 16)) 2,
   row 0x2100 4 0x12 0x12 .u16 .rws .none 850 none 2,
   row 0x2100 4 0x13 0x13 .u16 .rws .none 600 none 2,
   row 0x2100 4 0x14 0x14 .u32 .rws .none 200 none 2,
   row 0x2100 4 0x15 0x15 .u32 .rws .none 60000 none 2,
   row 0x2100 4 0x16 0x16 .u16 .rws .none 24 none 2,
   row 0x2100 4 0x17 0x17 .u8 .ro .none 0 none 2,
   row 0x2100 4 0x18 0x18 .i32 .ro .none 0 none 2,
   row 0x2100 4 0x19 0x19 .u32 .ro .none 0 none 2,
   row 0x2100 4 0x1A 0x1A .bool .rws .none 0 none 2,
   row 0x2200 3 0x01 0x01 .u8 .ro .none 0 none 2,
   row 0x2200 3 0x02 0x02 .u16 .ro .none 0 none 2,
   row 0x2200 3 0x03 0x03 .u32 .ro .none 0 none 2,
   row 0x2200 3 0x04 0x04 .u16 .ro .none 0 none 2,
   row 0x2200 3 0x05 0x05 .u16 .rws .none 500 (some (200, 2000)) 2,
   row 0x2200 3 0x06 0x06 .u32 .ro .none 0 none 2,
   row 0x2200 3 0x07 0x07 .u16 .rws .none 4500 none 2,
   row 0x2210 1 0x01 0x01 .u8 .ro .none 0 none 2,
   row 0x2210 1 0x02 0x02 .u16 .ro .none 0 none 2,
   row 0x2210 1 0x03 0x03 .u64 .ro .none 0 none 2,
   row 0x2210 1 0x04 0x04 .u32 .ro .none 1000 none 2,
   row 0x2210 1 0x05 0x05 .u32 .rws .none 10 (some (1, 1000)) 2,
   row 0x2210 1 0x06 0x06 .u32 .ro .none 2000 none 2,
   row 0x2210 1 0x07 0x07 .u32 .rws .none 2000 (some (500, 50000)) 2]

/-- Rows of the tables that define the indices 0x2000 to 0x2FFF, part 2. -/
def rows2b : List ObjRow :=
  [row 0x2210 1 0x08 0x08 .u16 .rws .none 0 none 2,
   row 0x2210 1 0x09 0x09 .u8 .rws .none 3 (some (1, 255)) 2,
   row 0x2210 1 0x0A 0x0A .u32 .ro .none 0 none 2,
   row 0x2210 1 0x0B 0x0B .u32 .ro .none 0 none 2,
   { row 0x2210 1 0x0C 0x0C .u32 .rw .none 0 none 1 with clears := true },
   row 0x2210 1 0x0D 0x0D .u8 .ro .none 0 none 2,
   row 0x2211 1 0x01 0x01 .bool .rws .none 0 none 2,
   row 0x2211 1 0x02 0x02 .i32 .ro .none 0 none 2,
   row 0x2211 1 0x03 0x03 .u32 .ro .none 0 none 2,
   row 0x2211 1 0x04 0x04 .bool .ro .none 0 none 2,
   row 0x2220 1 0x01 0x01 .u64 .ro .none 0 none 2,
   { row 0x2220 1 0x02 0x02 .u32 .rw .none 0 none 1 with clears := true },
   { row 0x2220 1 0x03 0x03 .u8 .rw .none 0 none 1 with clears := true },
   row 0x2230 1 0x01 0x01 .u8 .rws .none 255 none 2,
   row 0x2230 1 0x02 0x02 .u32 .rws .none 0 none 2,
   row 0x2230 1 0x03 0x03 .u8 .rws .none 4 (some (1, 8)) 2,
   row 0x2230 1 0x04 0x04 .u32 .rws .none 20000 none 2,
   row 0x2230 1 0x05 0x05 .bool .ro .none 0 none 2,
   row 0x2230 1 0x06 0x06 .u32 .ro .none 0 none 2,
   row 0x2230 1 0x07 0x07 .bool .rws .none 0 none 2,
   row 0x2230 1 0x08 0x08 .u8 .wo .none 0 none 2,
   row 0x2231 1 0x01 0x40 .u32 .ro .none 0 none 2,
   row 0x2232 1 0x01 0x10 .u8 .rws .none 255 none 2,
   row 0x2233 1 0x01 0x10 .u32 .rws .none 200 (some (10, 10000)) 2,
   row 0x2300 1 0x01 0x01 .u32 .rws .move 0 none 2,
   row 0x2300 1 0x02 0x02 .u32 .rws .move 0 none 2,
   row 0x2300 1 0x03 0x03 .u32 .rws .move 0 none 2,
   row 0x2300 1 0x04 0x04 .u32 .rws .move 0 none 2,
   row 0x2300 1 0x05 0x05 .u32 .rws .move 0 none 2,
   row 0x2300 1 0x06 0x06 .u32 .rws .move 0 none 2,
   { row 0x2300 1 0x07 0x07 .u32 .rw .move 0 none 1 with clears := true },
   row 0x2300 1 0x08 0x08 .u64 .ro .move 0 none 2,
   row 0x2300 1 0x09 0x09 .u8 .ro .move 0 none 2,
   { row 0x2400 12 0x01 0x08 .u8 .rws .none 255 (some (0, 47)) 2 with orFF := true },
   row 0x2400 12 0x09 0x09 .u8 .rws .none 0 (some (0, 3)) 2,
   row 0x2400 12 0x0A 0x0D .u32 .rws .none 0 none 2,
   row 0x2400 12 0x0E 0x0E .i16 .rws .none 850 none 2,
   row 0x2400 12 0x0F 0x0F .u16 .rws .none 50 none 2,
   row 0x2400 12 0x10 0x10 .u16 .rws .none 400 none 2,
   row 0x2400 12 0x11 0x11 .i16 .rws .none 1000 none 2]

/-- Rows of the tables that define the indices 0x2000 to 0x2FFF, part 3. -/
def rows2c : List ObjRow :=
  [row 0x2400 12 0x12 0x12 .i16 .rws .none 1100 none 2,
   row 0x2400 12 0x13 0x13 .u16 .rws .none 50 none 2,
   row 0x2400 12 0x14 0x14 .u16 .rws .none 80 none 2,
   row 0x2400 12 0x15 0x15 .u16 .rws .none 10 none 2,
   row 0x2400 12 0x16 0x16 .u16 .rws .none 5000 none 2,
   row 0x2400 12 0x17 0x17 .bool .rws .none 0 none 2,
   row 0x2400 12 0x18 0x18 .i16 .ro .none 0 none 2,
   row 0x2400 12 0x19 0x19 .i16 .ro .none 0 none 2,
   row 0x2400 12 0x1A 0x1A .u32 .ro .none 65536 none 2,
   row 0x2400 12 0x1B 0x1B .u8 .ro .none 0 none 2,
   row 0x2400 12 0x1C 0x1C .u8 .ro .none 0 none 2,
   row 0x2410 1 0x01 0x01 .u8 .rws .temp 0 (some (0, 2)) 2,
   row 0x2410 1 0x02 0x02 .u32 .rws .temp 10000 none 2,
   row 0x2410 1 0x03 0x03 .u32 .rws .temp 10000 none 2,
   row 0x2410 1 0x04 0x04 .u16 .rws .temp 3435 none 2,
   row 0x2410 1 0x05 0x05 .u16 .rws .temp 1008 none 2,
   row 0x2410 1 0x06 0x06 .i16 .rws .temp 0 none 2,
   row 0x2411 1 0x01 0x01 .i16 .ro .temp 32767 none 2,
   row 0x2411 1 0x02 0x02 .i16 .ro .temp 32767 none 2,
   row 0x2411 1 0x03 0x03 .u8 .ro .temp 4 none 2,
   { row 0x2411 1 0x04 0x04 .bool .rw .temp 0 none 1 with clears := true },
   row 0x2411 1 0x05 0x05 .u8 .ro .temp 255 none 2,
   row 0x2420 1 0x01 0x01 .i16 .rws .none 1100 none 2,
   row 0x2420 1 0x02 0x02 .i16 .ro .none 0 none 2,
   row 0x2500 1 0x01 0x01 .u8 .rws .seq 0 none 2,
   row 0x2500 1 0x02 0x02 .u8 .rws .seq 0 none 2,
   row 0x2500 1 0x03 0x03 .u16 .rws .seq 100 (some (1, 10000)) 2,
   row 0x2500 1 0x04 0x04 .u8 .ro .seq 0 none 2,
   row 0x2500 1 0x05 0x05 .bool .ro .seq 0 none 2,
   row 0x2500 1 0x06 0x06 .u8 .wo .seq 0 none 1,
   row 0x2510 1 0x01 0x01 .u8 .rws .none 7 none 2,
   row 0x2510 1 0x02 0x02 .u8 .rws .none 1 (some (1, 3)) 2,
   row 0x2510 1 0x03 0x03 .bool .rws .none 0 none 2,
   row 0x2510 1 0x04 0x04 .u32 .rws .none 100 (some (1, 600000)) 2,
   row 0x2510 1 0x05 0x05 .u32 .rws .none 5000 (some (1, 600000)) 2,
   row 0x2510 1 0x06 0x06 .bool .ro .none 1 none 2,
   row 0x2520 1 0x01 0x01 .u16 .rw .none 0 none 1,
   row 0x2530 1 0x01 0x10 .u32 .rws .none 0 none 2,
   row 0x2531 1 0x01 0x10 .u32 .rws .none 0 none 2,
   row 0x2600 1 0x01 0x01 .u32 .rws .step 0 none 2]

/-- Rows of the tables that define the indices 0x2000 to 0x2FFF, part 4. -/
def rows2d : List ObjRow :=
  [row 0x2610 1 0x01 0x01 .u16 .rws .prog 0 (some (0, 2047)) 2,
   row 0x2610 1 0x02 0x02 .u16 .rws .prog 0 none 2,
   row 0x2610 1 0x03 0x03 .u8 .rws .prog 0 none 2,
   row 0x2610 1 0x04 0x04 .u16 .rws .prog 0 none 2,
   { row 0x2610 1 0x05 0x05 .u8 .rws .prog 255 (some (0, 3)) 2 with orFF := true },
   row 0x2620 1 0x01 0x01 .u8 .ro .prog 0 none 2,
   row 0x2620 1 0x02 0x02 .u16 .ro .prog 0 none 2,
   row 0x2620 1 0x03 0x03 .u8 .ro .prog 255 none 2,
   row 0x2620 1 0x04 0x04 .u8 .ro .prog 0 none 2,
   { row 0x2620 1 0x05 0x05 .u32 .rw .prog 0 none 1 with clears := true },
   row 0x2620 1 0x06 0x06 .u8 .ro .prog 0 none 2,
   row 0x2620 1 0x07 0x07 .u16 .ro .prog 0 none 2,
   row 0x2700 1 0x01 0x01 .bool .rws .none 1 none 2,
   row 0x2700 1 0x02 0x02 .u32 .rws .none 5000 (some (100, 3600000)) 2,
   row 0x2700 1 0x03 0x03 .u8 .rws .none 3 (some (0, 20)) 2,
   row 0x2700 1 0x04 0x04 .u8 .ro .none 0 none 2]

/-- Rows of the tables that define the indices 0x3000 to 0x3FFF, part 1. -/
def rows3a : List ObjRow :=
  [row 0x3001 1 0x01 0x01 .bool .ro .region 0 none 2,
   row 0x3001 1 0x02 0x02 .u16 .ro .region 0 none 2,
   row 0x3001 1 0x03 0x03 .u32 .ro .region 0 none 2,
   row 0x3002 1 0x01 0x01 .u16 .ro .region 0 none 2,
   row 0x3010 1 0x01 0x02 .i16 .ro .region 0 none 2,
   row 0x3020 1 0x01 0x01 .u8 .ro .region 0 none 2]

/-- Rows of the tables that define the indices 0x4000 to 0x4FFF, part 1. -/
def rows4a : List ObjRow :=
  [row 0x4001 1 0x01 0x01 .bool .ro .block 0 none 2,
   row 0x4001 1 0x02 0x02 .u16 .ro .block 0 none 2,
   row 0x4001 1 0x03 0x03 .u32 .ro .block 0 none 2,
   row 0x4010 1 0x01 0x01 .u32 .ro .block 0 none 2,
   row 0x4010 1 0x02 0x02 .u32 .ro .block 0 none 2,
   { row 0x4010 1 0x03 0x03 .u32 .rw .block 0 none 1 with clears := true },
   row 0x4020 1 0x01 0x04 .u16 .rws .block 65535 none 2,
   row 0x4030 1 0x01 0x01 .bool .ro .block 0 none 2,
   { row 0x4030 1 0x02 0x02 .u8 .rws .block 255 (some (0, 63)) 2 with orFF := true },
   row 0x4030 1 0x03 0x03 .u32 .ro .block 0 none 2,
   row 0x4030 1 0x04 0x04 .u32 .rws .block 10000 none 2,
   row 0x4030 1 0x05 0x05 .u32 .rws .block 11000 none 2,
   row 0x4030 1 0x06 0x06 .u8 .ro .block 0 none 2,
   row 0x4030 1 0x07 0x07 .u8 .ro .block 0 none 2]

/-- Rows of the tables that define the indices 0x5000 to 0x5FFF, part 1. -/
def rows5a : List ObjRow :=
  [row 0x5001 1 0x01 0x01 .bool .ro .cell 0 none 2,
   row 0x5001 1 0x02 0x02 .u16 .ro .cell 0 none 2,
   row 0x5001 1 0x03 0x03 .u32 .ro .cell 0 none 2,
   row 0x5002 1 0x01 0x01 .u8 .ro .cell 0 none 2,
   row 0x5002 1 0x02 0x02 .u16 .ro .cell 2048 none 2,
   { row 0x5003 1 0x01 0x01 .u32 .rw .cell 0 none 1 with clears := true },
   { row 0x5003 1 0x02 0x02 .u32 .rw .cell 0 none 1 with clears := true },
   { row 0x5003 1 0x03 0x03 .u32 .rw .cell 0 none 1 with clears := true },
   { row 0x5003 1 0x04 0x04 .u32 .rw .cell 0 none 1 with clears := true },
   row 0x5004 1 0x01 0x01 .u32 .ro .cell 0 none 2,
   row 0x5005 1 0x01 0x01 .bool .ro .cell 0 none 2,
   row 0x5010 1 0x01 0x01 .u8 .rws .cell 0 (some (0, 4)) 2,
   row 0x5010 1 0x02 0x02 .u32 .rws .cell 256000 (some (12800, 1280000)) 2,
   row 0x5010 1 0x03 0x03 .u32 .rw .cell 0 none 2,
   row 0x5010 1 0x04 0x04 .u16 .rws .cell 2560 (some (0, 25600)) 2,
   row 0x5010 1 0x05 0x05 .u16 .rws .cell 2560 (some (0, 25600)) 2,
   row 0x5010 1 0x06 0x06 .u16 .rws .cell 58982 none 2,
   row 0x5010 1 0x08 0x08 .u8 .rws .cell 0 (some (0, 1)) 2,
   row 0x5010 1 0x09 0x09 .u32 .rws .cell 0 none 2,
   row 0x5010 1 0x0A 0x0A .u32 .rws .cell 0 none 2,
   row 0x5011 1 0x01 0x01 .u8 .rws .cell 0 (some (0, 1)) 2,
   row 0x5011 1 0x02 0x02 .u16 .rws .cell 2048 none 2,
   row 0x5011 1 0x03 0x03 .u16 .rws .cell 32 none 2,
   row 0x5011 1 0x04 0x04 .u8 .rws .cell 128 none 2,
   row 0x5011 1 0x05 0x05 .u32 .rws .cell 0 none 2,
   row 0x5012 1 0x01 0x01 .u8 .rws .cell 0 (some (0, 1)) 2,
   row 0x5012 1 0x02 0x02 .u8 .rws .cell 8 (some (0, 29)) 2,
   row 0x5012 1 0x03 0x03 .u16 .rws .cell 3686 none 2,
   row 0x5012 1 0x04 0x04 .u16 .rws .cell 0 none 2,
   row 0x5012 1 0x05 0x05 .u8 .rws .cell 3 (some (0, 29)) 2,
   row 0x5012 1 0x06 0x06 .u8 .rws .cell 8 (some (1, 255)) 2,
   row 0x5012 1 0x07 0x07 .u16 .rws .cell 8 none 2,
   row 0x5013 1 0x01 0x01 .u8 .rws .cell 0 (some (0, 2)) 2,
   row 0x5013 1 0x02 0x02 .u32 .rws .cell 0 none 2,
   row 0x5013 1 0x03 0x03 .u32 .rws .cell 0 none 2,
   row 0x5013 1 0x04 0x04 .u8 .rws .cell 255 none 2,
   row 0x5013 1 0x05 0x05 .u8 .rws .cell 255 none 2,
   row 0x5013 1 0x06 0x06 .u32 .rws .cell 0 none 2,
   row 0x5013 1 0x07 0x07 .u32 .rws .cell 4194304 none 2,
   row 0x5013 1 0x08 0x08 .u32 .ro .cell 0 none 2]

/-- Rows of the tables that define the indices 0x5000 to 0x5FFF, part 2. -/
def rows5b : List ObjRow :=
  [row 0x5014 1 0x01 0x01 .u16 .ro .cell 0 none 2,
   row 0x5014 1 0x02 0x02 .u16 .ro .cell 0 none 2,
   row 0x5014 1 0x03 0x03 .u16 .rws .cell 16 none 2,
   row 0x5014 1 0x04 0x04 .u8 .rws .cell 8 (some (1, 255)) 2,
   row 0x5014 1 0x05 0x05 .bool .ro .cell 0 none 2,
   row 0x5015 1 0x01 0x01 .u8 .rws .cell 2 (some (0, 15)) 2,
   row 0x5015 1 0x02 0x02 .u16 .rws .cell 256 none 2]

/-- Rows of the tables that define the indices 0x6000 to 0x6FFF, part 1. -/
def rows6a : List ObjRow :=
  [row 0x6000 4 0x01 0x01 .u8 .rws .block 0 none 2,
   row 0x6000 4 0x02 0x02 .u8 .rws .block 0 (some (0, 5)) 2,
   row 0x6000 1 0x03 0x03 .bool .rws .block 0 none 2,
   row 0x6000 4 0x04 0x04 .bool .ro .block 0 none 2,
   row 0x6100 1 0x01 0x01 .bool .rws .ctx 0 none 2,
   row 0x6100 1 0x02 0x02 .u8 .rws .ctx 3 (some (0, 3)) 2,
   row 0x6100 1 0x03 0x03 .u8 .rws .ctx 0 (some (0, 15)) 2,
   row 0x6100 1 0x04 0x04 .u16 .rws .ctx 1 (some (1, 1024)) 2,
   row 0x6100 1 0x05 0x05 .u8 .rws .ctx 255 none 2,
   row 0x6100 1 0x06 0x06 .i32 .rws .ctx 268435456 none 2,
   row 0x6100 1 0x07 0x07 .u8 .rws .ctx 0 (some (0, 2)) 2,
   row 0x6100 1 0x08 0x08 .i32 .rws .ctx 0 (some (-8388608, 8388607)) 1,
   row 0x6100 1 0x09 0x09 .u8 .rws .ctx 255 none 2,
   row 0x6100 1 0x0A 0x0A .u32 .rws .ctx 1000 (some (250, 500000)) 2,
   row 0x6100 1 0x0B 0x0B .u8 .rws .ctx 3 (some (1, 255)) 2,
   row 0x6100 1 0x0C 0x0C .u32 .rws .ctx 2000 (some (10, 100000)) 2,
   row 0x6110 1 0x01 0x01 .u8 .rwh .ctx 0 none 2,
   row 0x6110 1 0x02 0x05 .i32 .rwh .ctx 0 none 2,
   row 0x6110 1 0x06 0x08 .i32 .rwh .ctx 0 none 2,
   row 0x6110 1 0x09 0x09 .i32 .rwh .ctx 0 none 2,
   row 0x6110 1 0x0A 0x0B .i32 .rwh .ctx 0 (some (-8388608, 8388607)) 2,
   row 0x6111 1 0x01 0x01 .u8 .ro .ctx 0 none 2,
   row 0x6111 1 0x02 0x0B .i32 .ro .ctx 0 none 2,
   row 0x6120 1 0x01 0x01 .u8 .ro .ctx 0 none 2,
   row 0x6120 1 0x02 0x02 .i32 .ro .ctx 0 none 2,
   row 0x6120 1 0x03 0x03 .i64 .ro .ctx 0 none 2,
   row 0x6120 1 0x04 0x04 .i32 .ro .ctx 0 none 2,
   row 0x6120 1 0x05 0x05 .i32 .ro .ctx 0 none 2,
   { row 0x6120 1 0x06 0x06 .u32 .rw .ctx 0 none 1 with clears := true },
   { row 0x6120 1 0x07 0x07 .u32 .rw .ctx 0 none 1 with clears := true },
   row 0x6120 1 0x08 0x08 .bool .ro .ctx 0 none 2,
   row 0x6120 1 0x09 0x09 .u32 .ro .ctx 0 none 2,
   row 0x6120 1 0x0A 0x0A .u8 .ro .ctx 0 none 2,
   row 0x6130 1 0x01 0x01 .u8 .wo .ctx 0 none 2,
   row 0x6140 1 0x01 0x01 .u8 .rws .ctx 0 none 2,
   row 0x6200 4 0x01 0x01 .u8 .wo .block 0 none 1,
   row 0x6200 4 0x02 0x02 .u8 .ro .block 0 none 2,
   row 0x6200 4 0x03 0x03 .u32 .rws .block 0 none 1,
   row 0x6200 4 0x04 0x04 .u32 .ro .block 0 none 2]

/-- Rows of the tables that define the indices 0x6000 to 0x6FFF, part 2. -/
def rows6b : List ObjRow :=
  [row 0x6200 4 0x05 0x05 .u32 .rws .block 2000 (some (100, 50000)) 2,
   { row 0x6200 4 0x06 0x07 .u32 .rws .block 0 (some (300000, 440000)) 2 with role := 1 },
   { row 0x6200 4 0x06 0x07 .u32 .rws .block 0 (some (3000, 30000)) 2 with role := 5 },
   row 0x6200 4 0x06 0x07 .u32 .ro .block 0 none 2,
   { row 0x6200 4 0x08 0x08 .bool .rw .block 0 none 1 with clears := true },
   row 0x6200 4 0x09 0x09 .bool .ro .block 0 none 2,
   row 0x6200 4 0x0A 0x0A .u16 .rws .block 20 (some (1, 200)) 2,
   row 0x6200 4 0x0B 0x0B .u16 .rws .block 200 (some (10, 10000)) 2,
   row 0x6200 4 0x0C 0x0C .u8 .ro .block 0 none 2,
   row 0x6200 4 0x0D 0x0D .bool .ro .block 0 none 2,
   { row 0x6200 4 0x0E 0x0E .u8 .rws .block 255 (some (0, 47)) 2 with orFF := true },
   { row 0x6210 4 0x01 0x01 .u8 .rws .block 0 (some (0, 2)) 2 with role := 1 },
   { row 0x6210 4 0x02 0x02 .u16 .rws .block 2300 none 2 with role := 1 },
   { row 0x6210 4 0x03 0x03 .u16 .rws .block 800 none 2 with role := 1 },
   { row 0x6210 4 0x04 0x04 .u8 .rws .block 255 (some (0, 3)) 2 with orFF := true, role := 1 },
   { row 0x6210 4 0x01 0x01 .u8 .rws .block 255 (some (0, 3)) 2 with orFF := true, role := 2 },
   { row 0x6210 4 0x02 0x02 .u8 .rws .block 255 (some (0, 47)) 2 with orFF := true, role := 2 },
   { row 0x6210 4 0x03 0x03 .u16 .rws .block 3000 none 2 with role := 2 },
   { row 0x6210 4 0x01 0x01 .i32 .rw .block 0 none 2 with role := 3 },
   { row 0x6210 4 0x02 0x02 .i32 .rw .block 0 none 2 with role := 3 },
   { row 0x6210 4 0x03 0x03 .u16 .rws .block 16 none 2 with role := 3 },
   { row 0x6210 4 0x04 0x04 .u8 .ro .block 0 none 2 with role := 3 },
   { row 0x6210 4 0x05 0x05 .u8 .rws .block 0 none 2 with role := 3 },
   { row 0x6210 4 0x07 0x07 .bool .ro .block 0 none 2 with role := 3 },
   { row 0x6210 4 0x01 0x01 .u8 .rws .block 255 (some (0, 23)) 2 with orFF := true, role := 4 },
   { row 0x6210 4 0x02 0x02 .u16 .rws .block 0 (some (0, 1000)) 2 with role := 4 },
   { row 0x6210 4 0x03 0x03 .u16 .rws .block 1000 (some (100, 50000)) 2 with role := 4 },
   { row 0x6210 4 0x04 0x04 .u32 .ro .block 0 none 2 with role := 4 },
   { row 0x6210 4 0x05 0x05 .u32 .ro .block 0 none 2 with role := 4 },
   row 0x6300 4 0x01 0x01 .u8 .rws .block 255 none 2,
   row 0x6300 4 0x02 0x02 .u8 .rws .block 1 (some (1, 16)) 2,
   row 0x6300 4 0x03 0x03 .i32 .rws .block 0 none 2,
   row 0x6300 4 0x04 0x04 .u16 .rws .block 850 none 2,
   row 0x6300 4 0x05 0x05 .u16 .rws .block 600 none 2,
   row 0x6300 4 0x06 0x06 .u32 .rws .block 50 none 2,
   row 0x6300 4 0x07 0x07 .u32 .rws .block 20 none 2,
   row 0x6300 4 0x08 0x08 .u32 .rws .block 1000 none 2,
   row 0x6300 4 0x09 0x09 .u16 .rws .block 0 none 2,
   row 0x6300 4 0x0A 0x0A .u16 .rws .block 30 none 2,
   row 0x6300 4 0x0B 0x0B .u8 .rws .block 255 none 2,
   row 0x6300 4 0x0C 0x0C .u16 .rws .block 4095 none 2]

/-- Rows of the tables that define the indices 0x6000 to 0x6FFF, part 3. -/
def rows6c : List ObjRow :=
  [row 0x6300 4 0x0D 0x0D .u16 .rws .block 256 none 2,
   row 0x6300 4 0x0E 0x0E .u32 .rws .block 256000 (some (12800, 1280000)) 2,
   row 0x6300 4 0x0F 0x0F .u32 .rws .block 0 none 2,
   row 0x6300 4 0x10 0x10 .u8 .rws .block 4 (some (1, 64)) 2,
   row 0x6310 4 0x01 0x01 .u8 .ro .block 0 none 2,
   row 0x6310 4 0x02 0x02 .u8 .ro .block 0 none 2,
   row 0x6310 4 0x03 0x03 .i32 .ro .block 0 none 2,
   row 0x6310 4 0x04 0x04 .u8 .ro .block 0 none 2,
   { row 0x6310 4 0x05 0x05 .u32 .rw .block 0 none 1 with clears := true },
   { row 0x6310 4 0x06 0x06 .u32 .rw .block 0 none 1 with clears := true },
   { row 0x6310 4 0x07 0x07 .u32 .rw .block 0 none 1 with clears := true },
   row 0x6310 4 0x08 0x08 .i32 .ro .block 0 none 2,
   row 0x6310 4 0x09 0x09 .u32 .ro .block 0 none 2,
   row 0x6310 4 0x0A 0x0A .u8 .ro .block 0 none 2,
   row 0x6800 1 0x01 0x01 .u8 .rws .feed 0 (some (0, 5)) 2,
   { row 0x6800 1 0x02 0x02 .u8 .rws .feed 255 (some (0, 47)) 2 with orFF := true },
   row 0x6800 1 0x03 0x03 .u8 .rws .feed 0 (some (0, 1)) 2,
   row 0x6800 1 0x04 0x04 .u16 .rws .feed 0 none 2,
   row 0x6800 1 0x05 0x05 .u32 .rws .feed 32000 none 2,
   row 0x6800 1 0x06 0x06 .u16 .rws .feed 0 none 2,
   row 0x6800 1 0x07 0x07 .u32 .rws .feed 62500 none 2,
   row 0x6800 1 0x08 0x08 .u32 .rws .feed 8000 none 2,
   row 0x6800 1 0x09 0x09 .u16 .rws .feed 10000 none 2,
   row 0x6800 1 0x0A 0x0A .u16 .rws .feed 3000 none 2,
   row 0x6800 1 0x0B 0x0B .u16 .rws .feed 200 none 2,
   row 0x6800 1 0x0C 0x0C .u32 .rws .feed 10000 none 2,
   row 0x6800 1 0x0D 0x0D .u32 .rws .feed 60000 none 2,
   row 0x6800 1 0x0E 0x0E .u32 .rws .feed 100000 none 2,
   row 0x6800 1 0x0F 0x0F .u16 .rws .feed 20 (some (1, 1000)) 2,
   row 0x6800 1 0x10 0x10 .u8 .rws .feed 1 none 2,
   row 0x6800 1 0x11 0x11 .u32 .rws .feed 10000 none 2,
   row 0x6800 1 0x12 0x12 .u32 .rws .feed 500 none 2,
   { row 0x6800 1 0x13 0x13 .u8 .rws .feed 255 (some (0, 63)) 2 with orFF := true },
   row 0x6800 1 0x14 0x14 .u8 .rws .feed 3 none 2,
   row 0x6800 1 0x15 0x15 .u32 .rws .feed 1000 none 2,
   row 0x6800 1 0x16 0x16 .u32 .rws .feed 60 none 2,
   row 0x6800 1 0x17 0x17 .bool .rws .feed 0 none 2,
   row 0x6800 1 0x18 0x18 .u8 .rws .feed 0 none 2,
   row 0x6800 1 0x19 0x19 .u8 .rws .feed 0 (some (0, 3)) 2,
   { row 0x6810 1 0x01 0x01 .u8 .rws .feed 255 (some (0, 47)) 2 with orFF := true }]

/-- Rows of the tables that define the indices 0x6000 to 0x6FFF, part 4. -/
def rows6d : List ObjRow :=
  [row 0x6810 1 0x02 0x02 .i16 .rws .feed 850 none 2,
   row 0x6810 1 0x03 0x03 .u32 .rws .feed 20 none 2,
   row 0x6810 1 0x04 0x04 .u32 .rws .feed 80 none 2,
   row 0x6810 1 0x05 0x05 .u32 .rws .feed 300 none 2,
   row 0x6810 1 0x06 0x06 .u32 .rws .feed 600 none 2,
   row 0x6810 1 0x07 0x07 .u32 .rws .feed 100 (some (10, 10000000)) 2,
   row 0x6810 1 0x08 0x08 .u32 .rws .feed 1000 (some (10, 10000000)) 2,
   row 0x6810 1 0x09 0x09 .u32 .rws .feed 10000 (some (10, 10000000)) 2,
   row 0x6810 1 0x0A 0x0A .u32 .rws .feed 200000 (some (10, 10000000)) 2,
   row 0x6810 1 0x0B 0x0B .i16 .rws .feed 1500 none 2,
   row 0x6810 1 0x0C 0x0C .i16 .rws .feed 1200 none 2,
   row 0x6820 1 0x01 0x01 .u8 .ro .feed 0 none 2,
   row 0x6820 1 0x02 0x02 .bool .ro .feed 0 none 2,
   row 0x6820 1 0x03 0x03 .i16 .ro .feed 0 none 2,
   row 0x6820 1 0x04 0x04 .i32 .ro .feed 0 none 2,
   row 0x6820 1 0x05 0x05 .i32 .ro .feed 0 none 2,
   row 0x6820 1 0x06 0x06 .u32 .ro .feed 0 none 2,
   row 0x6820 1 0x07 0x07 .u32 .ro .feed 0 none 2,
   row 0x6820 1 0x08 0x08 .u8 .ro .feed 0 none 2,
   { row 0x6820 1 0x09 0x09 .u32 .rw .feed 0 none 1 with clears := true },
   row 0x6820 1 0x0A 0x0A .u16 .ro .feed 0 none 2,
   row 0x6820 1 0x0B 0x0B .u32 .ro .feed 0 none 2,
   row 0x6820 1 0x0C 0x0C .bool .ro .feed 0 none 2,
   row 0x6830 1 0x01 0x01 .u8 .wo .feed 0 none 1,
   row 0x6830 1 0x02 0x02 .u8 .ro .feed 0 none 2,
   row 0x6840 1 0x01 0x01 .bool .rws .none 0 none 2,
   row 0x6840 1 0x02 0x02 .u8 .rws .none 0 (some (0, 1)) 2,
   row 0x6840 1 0x03 0x03 .u32 .rws .none 42000 none 2,
   row 0x6840 1 0x04 0x04 .u32 .rws .none 44000 none 2,
   row 0x6840 1 0x05 0x05 .u16 .rws .none 5 (some (1, 1000)) 2,
   row 0x6840 1 0x06 0x06 .u32 .rws .none 100 none 2,
   row 0x6840 1 0x07 0x07 .u32 .rws .none 10 none 2,
   row 0x6840 1 0x08 0x08 .u32 .rws .none 200000 none 2,
   row 0x6840 1 0x09 0x09 .u8 .ro .none 0 none 2,
   { row 0x6840 1 0x0A 0x0A .u32 .rw .none 0 none 1 with clears := true },
   row 0x6840 1 0x0B 0x0B .u32 .ro .none 0 none 2,
   row 0x6840 1 0x0C 0x0C .u8 .wo .none 0 none 1,
   row 0x6840 1 0x0D 0x0D .u32 .rws .none 20000 none 2]

/-- Rows of the tables that define the indices 0x7000 to 0x7FFF, part 1. -/
def rows7a : List ObjRow :=
  [row 0x7000 1 0x01 0x01 .bool .rws .string 0 none 2,
   { row 0x7000 1 0x02 0x02 .u8 .rws .string 255 (some (0, 47)) 2 with orFF := true },
   { row 0x7000 1 0x03 0x03 .u8 .rws .string 255 (some (0, 47)) 2 with orFF := true },
   row 0x7000 1 0x04 0x04 .u16 .rws .string 1000 none 2,
   row 0x7000 1 0x05 0x05 .u32 .rws .string 500000 none 2,
   { row 0x7000 1 0x06 0x07 .u8 .rws .string 255 (some (0, 47)) 2 with orFF := true },
   row 0x7000 1 0x08 0x08 .u32 .rws .string 0 none 2,
   { row 0x7000 1 0x09 0x09 .u8 .rws .string 255 (some (0, 63)) 2 with orFF := true },
   { row 0x7000 1 0x0A 0x0A .u8 .rws .string 255 (some (0, 3)) 2 with orFF := true },
   { row 0x7000 1 0x0B 0x0B .u8 .rws .string 255 (some (0, 23)) 2 with orFF := true },
   row 0x7000 1 0x0C 0x0C .u16 .rws .string 100 none 2,
   row 0x7000 1 0x0D 0x0D .u32 .rws .string 20000 none 2,
   row 0x7000 1 0x0E 0x0E .u32 .rws .string 200000 none 2,
   row 0x7010 1 0x01 0x02 .i16 .rws .string 0 none 2,
   row 0x7010 1 0x03 0x03 .u16 .rws .string 0 none 2,
   row 0x7010 1 0x04 0x04 .u16 .rws .string 500 none 2,
   row 0x7010 1 0x05 0x05 .u16 .rws .string 20 none 2,
   row 0x7010 1 0x06 0x06 .u16 .rws .string 10 none 2,
   row 0x7010 1 0x07 0x07 .u16 .rws .string 0 none 2,
   row 0x7010 1 0x08 0x08 .u32 .rws .string 10000 none 2,
   row 0x7010 1 0x09 0x09 .u32 .rws .string 50000 none 2,
   row 0x7010 1 0x0A 0x0A .bool .rws .string 1 none 2,
   row 0x7020 1 0x01 0x01 .u8 .ro .string 0 none 2,
   row 0x7020 1 0x02 0x02 .u32 .ro .string 0 none 2,
   row 0x7020 1 0x03 0x03 .i32 .ro .string 0 none 2,
   row 0x7020 1 0x04 0x04 .i16 .ro .string 0 none 2,
   row 0x7020 1 0x05 0x05 .u16 .ro .string 0 none 2,
   row 0x7020 1 0x06 0x06 .u16 .ro .string 0 none 2,
   row 0x7020 1 0x07 0x07 .i32 .ro .string 0 none 2,
   row 0x7020 1 0x08 0x08 .u32 .ro .string 0 none 2,
   row 0x7020 1 0x0A 0x0A .u8 .ro .string 0 none 2,
   row 0x7020 1 0x0B 0x0B .i32 .ro .string 0 none 2,
   row 0x7020 1 0x0C 0x0C .u8 .ro .string 3 none 2,
   row 0x7020 1 0x0D 0x0D .bool .ro .string 0 none 2,
   row 0x7020 1 0x0E 0x0E .u32 .ro .string 0 none 2,
   row 0x7020 1 0x0F 0x0F .u32 .ro .string 0 none 2,
   row 0x7020 1 0x10 0x10 .bool .ro .string 0 none 2,
   row 0x7030 1 0x01 0x01 .u32 .ro .string 0 none 2,
   row 0x7030 1 0x02 0x02 .u16 .ro .string 0 none 2,
   row 0x7030 1 0x03 0x03 .u16 .ro .string 0 none 2]

/-- Rows of the tables that define the indices 0x7000 to 0x7FFF, part 2. -/
def rows7b : List ObjRow :=
  [row 0x7030 1 0x04 0x04 .bool .ro .string 0 none 2,
   row 0x7030 1 0x05 0x05 .bool .ro .string 0 none 2,
   row 0x7030 1 0x06 0x06 .u16 .ro .string 0 none 2,
   row 0x7030 1 0x07 0x07 .u64 .ro .string 0 none 2,
   row 0x7030 1 0x08 0x08 .i64 .ro .string 0 none 2,
   row 0x7030 1 0x09 0x09 .u16 .ro .string 0 none 2,
   row 0x7030 1 0x0A 0x0A .u64 .ro .string 0 none 2,
   row 0x7030 1 0x0B 0x0B .i64 .ro .string 0 none 2,
   row 0x7030 1 0x0C 0x0C .i64 .ro .string 0 none 2,
   row 0x7030 1 0x0D 0x0D .u32 .ro .string 0 none 2,
   row 0x7100 1 0x01 0xA8 .u16 .rws .none 0 none 2,
   row 0x7101 1 0x01 0x08 .i16 .rws .none 0 none 2,
   row 0x7102 1 0x01 0x40 .u16 .rws .none 0 none 2,
   row 0x7103 1 0x01 0x08 .u16 .rws .none 0 none 2,
   row 0x7104 1 0x01 0x01 .u8 .ro .none 0 none 2,
   row 0x7104 1 0x02 0x02 .u16 .ro .none 0 none 2,
   row 0x7104 1 0x03 0x03 .u8 .wo .none 0 none 2,
   row 0x7110 1 0x01 0x02 .u16 .rws .none 0 none 2,
   row 0x7110 1 0x03 0x03 .u16 .rws .none 5 none 2,
   row 0x7110 1 0x04 0x04 .u16 .rws .none 30 none 2,
   row 0x7110 1 0x05 0x05 .u16 .rws .none 500 none 2,
   row 0x7110 1 0x06 0x06 .u16 .rws .none 720 none 2,
   row 0x7110 1 0x07 0x07 .u16 .rws .none 10 none 2,
   row 0x7110 1 0x08 0x08 .u16 .rws .none 90 none 2,
   row 0x7110 1 0x09 0x09 .u16 .rws .none 100 none 2,
   row 0x7110 1 0x0A 0x0A .u16 .rws .none 10 none 2,
   row 0x7110 1 0x0B 0x0B .u16 .rws .none 0 none 2,
   row 0x7110 1 0x0C 0x0C .u8 .rws .none 1 (some (0, 4)) 2,
   row 0x7120 1 0x01 0x01 .bool .rws .none 1 none 2,
   row 0x7120 1 0x02 0x02 .u16 .rws .none 45 none 2,
   row 0x7120 1 0x03 0x03 .bool .rws .none 1 none 2,
   row 0x7120 1 0x04 0x04 .u16 .rws .none 35 none 2,
   row 0x7120 1 0x05 0x05 .u16 .rws .none 300 none 2,
   row 0x7120 1 0x07 0x07 .u32 .rws .none 3000 none 2,
   { row 0x7120 1 0x08 0x08 .u8 .rws .none 255 (some (0, 3)) 2 with orFF := true },
   row 0x7120 1 0x09 0x09 .u8 .rws .none 7 none 2,
   row 0x7121 1 0x01 0x01 .u8 .ro .string 0 none 2,
   row 0x7121 1 0x02 0x02 .u8 .ro .string 0 none 2,
   row 0x7130 1 0x01 0x01 .i32 .rws .none 2048 none 2,
   row 0x7130 1 0x02 0x03 .i32 .rws .none 1048576 none 2,
   row 0x7800 1 0x01 0x01 .u32 .rws .volt 2000 none 2,
   row 0x7800 1 0x02 0x02 .i32 .ro .volt 0 none 2]

/-- Rows of the tables that define the indices 0x7000 to 0x7FFF, part 3. -/
def rows7c : List ObjRow :=
  [row 0x7E00 1 0x01 0x01 .u8 .wo .none 0 none 1]

/-- Rows of the tables that define the indices 0x8000 to 0x8FFF, part 1. -/
def rows8a : List ObjRow :=
  [row 0x8001 1 0x01 0x01 .bool .ro .none 0 none 2,
   row 0x8001 1 0x02 0x02 .u16 .ro .none 0 none 2,
   row 0x8001 1 0x03 0x03 .u32 .ro .none 0 none 2,
   row 0x8002 1 0x01 0x01 .u32 .ro .none 0 none 2,
   row 0x8003 1 0x01 0x01 .bool .ro .svc 0 none 2,
   row 0x8003 1 0x02 0x02 .u16 .ro .svc 0 none 2,
   row 0x8003 1 0x03 0x03 .u32 .ro .svc 0 none 2,
   { row 0x8004 1 0x01 0x01 .u16 .rw .none 0 none 1 with clears := true },
   row 0x8004 1 0x02 0x02 .u16 .ro .none 0 none 2,
   { row 0x8004 1 0x03 0x03 .u32 .rw .none 0 none 1 with clears := true },
   row 0x8005 1 0x01 0x01 .u16 .ro .none 0 none 2,
   row 0x8005 1 0x02 0x02 .u16 .ro .none 0 none 2,
   { row 0x8006 1 0x01 0x01 .u32 .rw .none 0 none 1 with clears := true },
   row 0x8007 1 0x01 0x01 .bool .ro .none 0 none 2,
   row 0x8010 1 0x01 0x01 .u32 .ro .none 0 none 2,
   row 0x8010 1 0x02 0x02 .u32 .ro .none 0 none 2,
   row 0x8010 1 0x03 0x03 .u32 .ro .none 0 none 2,
   row 0x8010 1 0x04 0x04 .u16 .ro .none 0 none 2,
   { row 0x8010 1 0x05 0x05 .u32 .rw .none 0 none 1 with clears := true },
   row 0x8010 1 0x06 0x06 .u8 .ro .none 0 none 2,
   row 0x8010 1 0x07 0x07 .u16 .ro .none 0 none 2,
   row 0x8011 1 0x01 0x01 .u32 .rw .none 0 none 1,
   row 0x8011 1 0x02 0x02 .u32 .ro .none 4294967295 none 2,
   row 0x8020 1 0x01 0x40 .u32 .rws .none 0 none 2,
   row 0x8021 1 0x01 0x40 .u32 .rws .none 0 none 2,
   row 0x8030 4 0x01 0x10 .u8 .rws .none 255 none 2,
   row 0x8030 4 0x11 0x20 .u8 .rws .none 0 none 2,
   row 0x8030 4 0x21 0x30 .u16 .rws .none 0 none 2,
   row 0x8030 4 0x31 0x40 .u8 .rws .none 4 (some (0, 7)) 2,
   row 0x8040 4 0x01 0x01 .u16 .rws .none 0 none 2,
   row 0x8040 4 0x02 0x02 .u16 .rws .none 0 none 2,
   row 0x8040 4 0x03 0x03 .u8 .rws .none 3 (some (1, 6)) 2,
   row 0x8040 4 0x04 0x04 .u8 .rws .none 0 (some (0, 2)) 2,
   row 0x8040 4 0x05 0x05 .bool .rws .none 0 none 2,
   row 0x8040 4 0x06 0x06 .u8 .ro .none 0 none 2,
   row 0x8040 4 0x07 0x07 .u32 .ro .none 0 none 2,
   { row 0x8040 4 0x08 0x08 .u32 .rw .none 0 none 1 with clears := true },
   row 0x8050 1 0x01 0x01 .octets .ro .trig 0 none 2,
   row 0x8100 1 0x01 0x10 .u32 .ro .slot 0 none 2,
   row 0x8100 1 0x11 0x11 .octets .ro .slot 0 none 2]

/-- Rows of the tables that define the indices 0x8000 to 0x8FFF, part 2. -/
def rows8b : List ObjRow :=
  [row 0x8120 1 0x01 0x10 .u32 .ro .mirror 0 none 2,
   row 0x8121 1 0x01 0x01 .u16 .ro .none 0 none 2,
   row 0x8200 1 0x01 0x10 .u32 .ro .none 0 none 2]

/-- Rows of the tables that define the indices 0x9000 to 0x9FFF, part 1. -/
def rows9a : List ObjRow :=
  [row 0x9000 1 0x01 0x01 .u8 .ro .fwSlot 0 none 2,
   row 0x9000 1 0x02 0x02 .u32 .ro .fwSlot 0 none 2,
   row 0x9000 1 0x03 0x03 .u32 .ro .fwSlot 0 none 2,
   row 0x9000 1 0x04 0x04 .u16 .ro .fwSlot 0 none 2,
   row 0x9000 1 0x05 0x05 .u32 .ro .fwSlot 0 none 2,
   row 0x9010 1 0x01 0x01 .octets .wo .none 0 none 2,
   row 0x9010 1 0x02 0x02 .u8 .ro .none 0 none 2,
   row 0x9010 1 0x03 0x03 .u32 .ro .none 0 none 2,
   row 0x9010 1 0x04 0x04 .u8 .wo .none 0 none 2,
   row 0x9011 1 0x01 0x01 .u32 .wo .none 0 none 2,
   row 0x9011 1 0x02 0x02 .u16 .ro .none 0 none 2,
   row 0x9011 1 0x03 0x03 .u16 .ro .none 0 none 2,
   row 0x9020 1 0x01 0x01 .u8 .ro .none 0 none 2,
   row 0x9020 1 0x02 0x02 .u32 .ro .none 0 none 2,
   row 0x9020 1 0x03 0x03 .u32 .ro .none 0 none 2,
   { row 0x9030 1 0x01 0x01 .u32 .rw .none 0 none 1 with clears := true },
   { row 0x9030 1 0x02 0x02 .u32 .rw .none 0 none 1 with clears := true },
   { row 0x9030 1 0x03 0x03 .u32 .rw .none 0 none 1 with clears := true }]

/-- Rows of the tables that define the indices 0xF000 to 0xFFFF, part 1. -/
def rowsFa : List ObjRow :=
  [row 0xF010 1 0x01 0x01 .u32 .wo .none 0 none 2,
   row 0xF010 1 0x02 0x02 .u8 .ro .none 0 none 2,
   row 0xF010 1 0x03 0x03 .u8 .wo .none 0 none 2,
   row 0xF011 1 0x01 0x01 .u32 .wo .none 0 none 2,
   row 0xF011 1 0x02 0x02 .u32 .wo .none 0 none 2,
   row 0xF011 1 0x03 0x03 .u8 .ro .none 0 none 2,
   row 0xF011 1 0x04 0x04 .u16 .ro .none 0 none 2,
   row 0xF020 1 0x01 0x01 .u32 .wo .cell 0 none 1,
   row 0xF020 1 0x02 0x02 .u32 .wo .block 0 none 1,
   row 0xF020 1 0x03 0x03 .u32 .wo .region 0 none 2,
   row 0xF020 1 0x04 0x04 .u32 .wo .none 0 none 2,
   row 0xF020 1 0x05 0x05 .u32 .wo .feed 0 none 1,
   row 0xF020 1 0x06 0x06 .u32 .wo .string 0 none 1,
   row 0xF020 1 0x07 0x07 .u32 .wo .svc 0 none 1,
   row 0xF030 1 0x01 0x01 .u8 .wo .string 0 none 1,
   row 0xF030 1 0x02 0x02 .u8 .wo .string 0 none 1,
   row 0xF040 1 0x01 0x01 .u8 .wo .prog 0 none 1,
   row 0xF050 1 0x01 0x01 .u8 .wo .trig 0 none 1,
   row 0xF060 1 0x01 0x01 .u16 .rw .none 0 none 3,
   row 0xF060 1 0x02 0x02 .u32 .rw .none 0 none 3,
   row 0xF060 1 0x03 0x03 .u32 .rw .none 0 none 3,
   row 0xF060 1 0x04 0x04 .u8 .wo .none 0 none 3,
   row 0xF060 1 0x05 0x05 .u8 .ro .none 0 none 2,
   row 0xF070 1 0x01 0x01 .u8 .wo .none 0 none 2,
   row 0xF070 1 0x02 0x02 .u8 .ro .none 0 none 2,
   row 0xF080 1 0x01 0x08 .u32 .rw .none 0 none 1,
   row 0xF080 1 0x09 0x09 .u32 .rw .none 0 none 1,
   row 0xF080 1 0x0A 0x0A .u32 .rw .none 0 none 1,
   row 0xF080 1 0x0B 0x0B .u64 .rw .none 0 none 1,
   row 0xF080 1 0x0C 0x0C .u8 .wo .none 0 none 1,
   row 0xF081 1 0x01 0x01 .u8 .ro .node 255 none 2,
   row 0xF081 1 0x02 0x02 .u8 .ro .none 0 none 2]

/-- The rows of the telemetry indices base + 0x10·q + w (Table 12-2, R393). -/
def rowsTelemetry (index : Nat) : List ObjRow :=
  let kind : InstKind :=
    if index / 0x100 = 0x7A then .cell else if index / 0x100 = 0x7B then .group
    else if index / 0x100 = 0x7C then .feed else .string
  [row index 1 1 3 .i32 .ro kind 0x7FFFFFFF none 2,
   row index 1 4 5 .i32 .ro kind 0 none 2,
   row index 1 6 6 .i32 .wo kind 0 none 1]

/-- Whether an index is one of the telemetry indices. -/
def isTelemetry (index : Nat) : Bool :=
  decide (0x7A00 ≤ index ∧ index < 0x7E00 ∧ index % 0x100 / 0x10 < 4 ∧ index % 0x10 < 4)

/-- The rows that may describe an index, found by its first digit. -/
def rowsFor (index : Nat) : List ObjRow :=
  if isTelemetry index then rowsTelemetry index else
  match index / 0x1000 with
  | 0x1 => rows1a ++ rows1b
  | 0x2 => rows2a ++ rows2b ++ rows2c ++ rows2d
  | 0x3 => rows3a
  | 0x4 => rows4a
  | 0x5 => rows5a ++ rows5b
  | 0x6 => rows6a ++ rows6b ++ rows6c ++ rows6d
  | 0x7 => rows7a ++ rows7b ++ rows7c
  | 0x8 => rows8a ++ rows8b
  | 0x9 => rows9a
  | 0xF => rowsFa
  | _ => []

/-- Whether a row covers an index. -/
def ObjRow.covers (r : ObjRow) (index : Nat) : Bool := decide (r.base ≤ index ∧ index < r.base + r.count)

/-- Whether an index stands in the directory (R391). -/
def indexExists (index : Nat) : Bool := (rowsFor index).any fun r => r.covers index

/-- The row of a sub-index while the slot holds a role (R391); the role matters only for 0x6210 and for the windows of 0x6200,
which are writable in the roles that Table 05-9 names. -/
def findRow (role index sub : Nat) : Option ObjRow :=
  (rowsFor index).find? fun r =>
    r.covers index && decide (r.lo ≤ sub ∧ sub ≤ r.hi) && (decide (r.role = 0) || decide (r.role = role))

/-- The highest sub-index in use (R391). -/
def highestSub (role index : Nat) : Nat :=
  ((rowsFor index).filter fun r => r.covers index && (decide (r.role = 0) || decide (r.role = role))).foldl
    (fun m r => max m r.hi) 0

end Sys2Proof.Machine
end

