-- ==== Sys2Proof/Machine/State.lean ====
section
/-! DEFINITION. The state of the KM8128 block as plain data, its state after reset, and the reasons a step can stop.
Dictionary objects that hold a number live in one store keyed by their address (R3); what the chapters give the
machine beside the dictionary (state machines, timers, queues, latches) has a structure per element. A structure per
numbered element is kept in a bank: a list of the elements that differ from the reset value of the structure. -/

namespace Sys2Proof.Machine

/-- An event on its way from its source to the journal (R313, R316). `area` is the whole data area of the codes that
Table 13-6 gives one to, else empty. -/
structure Event where
  code : Nat
  inst : Nat
  time : Tick := 0
  value : Int := 0
  limit : Int := 0
  stateCode : Nat := 0xFF
  second : Nat := 0xFFFFFFFF
  w4 : Int := 0
  w5 : Int := 0
  w6 : Int := 0
  w7 : Int := 0
  injected : Bool := false
  area : List Int := []
  owners : List Elem := []
  region : Nat := 0xFF
  rseq : Nat := 0
  deriving DecidableEq, Repr

/-- A request that waits for its commit turn (R384 to R386). -/
structure Staged where
  src : Nat
  sequence : Nat
  transaction : Bool
  entries : List Entry
  due : Tick
  /-- The local part of a fan-out of this chip (R388). -/
  fanOut : Bool := false
  deriving DecidableEq, Repr

/-- A command at an arbiter input (R474): a dictionary write as the row that brought it, a request at its commit, a request that
the active partner forwarded, an image of a node, a move with whether it is late, a sequencer step with its slot, its program
and its word, and the completion of a store or of an install. -/
inductive Cmd where
  | write (i : Instr)
  | request (x : Staged)
  | forwarded (src : Nat) (entries : List Entry) (transaction : Bool)
  | image (node : Nat) (octets : List Nat)
  | move (n : Nat) (late : Bool)
  | step (e p word : Nat)
  | completion (install : Bool)
  deriving DecidableEq, Repr

/-- What waits at an arbiter input: an event or a command (R40, R474). -/
inductive Payload where
  | event (e : Event)
  | command (c : Cmd)
  deriving DecidableEq, Repr

/-- A waiting item and the time at which it reached this input. -/
structure Item where
  arrived : Tick
  payload : Payload
  deriving DecidableEq, Repr

/-- One arbiter input (R40): the waiting items, oldest first; the items past the thirty-second are held by their
sources. The count of discarded events, the first of them and the time of the latest acceptance belong to it. -/
structure InQueue where
  items : List Item := []
  discarded : Nat := 0
  firstDiscarded : Nat := 0
  deriving DecidableEq, Repr

/-- The load measure of a group with its dwell timers (R152, R153), as an evaluation found them. -/
structure LoadMark where
  group : Nat
  load : Int
  loadAt : Tick
  loadFresh : Bool
  addSince : Option Tick
  shedSince : Option Tick
  deriving DecidableEq, Repr

/-- The slot that an engine started last (R88): when, the context and its sample, and what the evaluation changed as it was
before: the context, its fixed setpoint and saturation count, and the group of its load measure. A sample that becomes ready or
a hold that is accepted in the SYS cycle of the start makes the choice anew (R105, R109). -/
structure Slot where
  start : Tick
  ctx : Nat
  before : Ctx
  fixed : Int
  saturations : Int
  load : Option LoadMark
  deriving DecidableEq, Repr

/-- The latest on or off command of a channel that was accepted, with the channel as it was before (R212: a trip of the
same SYS cycle comes first). -/
structure FeedMark where
  time : Tick
  on : Bool
  before : FeedCh
  deriving DecidableEq, Repr

/-- The states of a chip in a twin (Table 14-2). -/
inductive TwinState where
  | negotiating | alone | active | activeUnpaired | syncing | inStep | suspect | detached | excluded
  deriving DecidableEq, Repr

/-- What a state record of a string holds (R236). -/
structure StrRecord where
  qRem : Int
  qAbs : Int
  capacity : Int
  confidence : Int
  days : Int
  low : Option Anchor
  high : Option Anchor
  stale : Bool
  relearn : Bool
  deriving DecidableEq, Repr

/-- The on-die sensors of a region (R263). -/
structure DieT where
  apartSince : Option Tick := none
  closeSince : Option Tick := none
  standing : Bool := false
  bothOver : Nat := 0
  firstOver : Nat := 0
  secondOver : Nat := 0
  deriving DecidableEq, Repr

/-- One window of one telemetry quantity (R291, R292): the running sum, the last mean, the held values, and whether the next
mean sets them. For the 60 s window the highest and lowest 1 s mean of the minute. -/
structure Window where
  sum : Int := 0
  count : Nat := 0
  mean : Int := 0x7FFFFFFF
  heldMax : Int := 0x7FFFFFFF
  heldMin : Int := 0x7FFFFFFF
  cleared : Bool := true
  /-- The latest end with a mean, and the held values before it (R292: a clear of that SYS cycle acts first). -/
  closedAt : Tick := 0
  oldMax : Int := 0x7FFFFFFF
  oldMin : Int := 0x7FFFFFFF
  minuteMax : Option Int := none
  minuteMin : Option Int := none
  deriving DecidableEq, Repr

/-- The states of a capture trigger (R299). -/
inductive CapState where
  | idle | armed | triggered | flushing
  deriving DecidableEq, Repr

/-- One capture (R297 to R300): the instants before the trigger turn and from it on, newest first, each of 16 octets; the
turn of the newest instant, the timestamp of the trigger turn, the cause, the event's number, the configuration in force,
the header's number once it is accepted, and the next part to be flushed. -/
structure Capture where
  state : CapState := .idle
  before : List (List Nat) := []
  after : List (List Nat) := []
  turn : Nat := 0
  trigStamp : Nat := 0
  cause : Nat := 0
  eventSeq : Nat := 0
  config : List (Nat × Nat × Int × Nat) := []
  scales : List (Nat × Int) := []
  header : Option Nat := none
  part : Nat := 0
  deriving DecidableEq, Repr

/-- A journal record (Table 12-3). -/
structure JRec where
  type : Nat
  pip : Nat
  code : Nat
  seq : Nat
  rseq : Nat
  region : Nat
  flags : Nat
  inst : Nat
  stamp : Nat
  words : List Int
  deriving DecidableEq, Repr

/-- What a journal slot holds; an erased slot is not listed. -/
inductive SlotRec where
  | record (r : JRec)
  | part (header index : Nat) (data : List Nat)
  | filler
  deriving DecidableEq, Repr

/-- A record in the write queue with its slot and the time it entered. -/
structure QRec where
  slot : Nat
  item : JRec
  entered : Tick
  deriving DecidableEq, Repr

/-- The journal (R301 to R304). `slots` is the NAND ring; `next` the next slot to be given to a record, `write` the next slot
to be written; `page` the page being programmed, of the parts of capture `partOf` if any; `erasing` the block being erased;
`ready` the block whose successor has been erased. -/
structure Journal where
  store : Nat := 0
  slots : Bank Nat SlotRec := []
  queue : List QRec := []
  next : Nat := 0
  write : Nat := 0
  oldest : Nat := 0
  wraps : Nat := 0
  retired : List Nat := []
  page : Option (List (Nat × SlotRec)) := none
  partOf : Option Nat := none
  erasing : Option Nat := none
  ready : Option Nat := none
  discarded : Nat := 0
  firstLost : Nat := 0
  lastLost : Nat := 0
  search : Option (Nat × Tick) := none
  deriving DecidableEq, Repr

/-- A captured settings set (R408, R409): the RWS objects that differ from their defaults, the battery tables with their
class, and the active coefficient banks. A factory marker restores nothing. -/
structure SettingsSet where
  factory : Bool := false
  objs : Bank Addr Int := []
  tables : Bank Addr Int := []
  tableClass : Nat := 0
  banks : Bank Nat Coeffs := []
  deriving DecidableEq, Repr

/-- The header fields of an image that a slot holds (Table 18-1). -/
structure Image where
  version : Nat
  build : Nat
  level : Nat
  length : Nat
  format : Nat
  oldest : Nat
  deriving DecidableEq, Repr

/-- The payload of a flash record (Table 17-3). -/
inductive RecBody where
  | part (number : Nat)
  | commit (setSeq count : Nat) (set : SettingsSet) (voided : Bool)
  | battery (n : Nat) (r : StrRecord)
  | runTime (seconds : Bank Nat Nat)
  | startCount (starts floor : Nat)
  | lastGasp (r : JRec)
  | slot (n state : Nat) (image : Option Image)
  | compactionCommit (start : Nat)
  | compactionStart (source : Nat)
  | rollback (seq : Nat)
  deriving DecidableEq, Repr

/-- A record of the record area (Table 17-2), with the sequence under which it was first written: a copy that compaction
makes takes a new sequence and stays the same part of its set (R412; assumption 45). A `damaged` record has a line that no
longer reads, so that its CRC fails (R402, R407). -/
structure FlashRec where
  seq : Nat
  format : Nat
  body : RecBody
  origin : Nat
  damaged : Bool := false
  deriving DecidableEq, Repr

/-- A record sector (R404): its number in banks 6 and 7, its sequence and erase count, the records it holds, whether a line
of it needed a margin re-read, a torn record at its end, and a header that is neither erased nor a marker. -/
structure Sector where
  number : Nat
  seq : Nat
  erases : Nat
  records : List FlashRec := []
  marginRead : Bool := false
  tornRecord : Bool := false
  tornHeader : Bool := false
  deriving DecidableEq, Repr

/-- A line of the embedded flash: 32 data octets and the CRC-16 stored beside them (R402). -/
structure FlashLine where
  data : List Nat
  check : Nat
  deriving DecidableEq, Repr

/-- A line of the SRAM that its memory arbiter holds for a repair (R420): until when, whether the repair succeeds, and the
requests that wait behind it, in acceptance order. -/
structure LineHold where
  until? : Tick
  good : Bool
  waiting : List MemRequest := []
  deriving DecidableEq, Repr

/-- The image a chip comes with (assumption 40). -/
def factoryImage : Image :=
  { version := Config.firmwareVersion, build := Config.firmwareBuild, level := Config.twinLevel, length := 1572864
    format := 1, oldest := 1 }

/-- The one used sector of a chip that has never run: slot A is CONFIRMED. -/
def factorySector : Sector :=
  { number := 1, seq := 1, erases := 1, records := [⟨1, 1, .slot 0 4 (some factoryImage), 1, false⟩] }

/-- The storage controller and the record area (R401 to R415). `phase` of a store: 0 none, 1 records, parts and the
commit mark, 3 the completion waits for its acceptance. -/
structure Storage where
  /-- Used sectors, oldest first; erased sectors; the reserve; sectors retired. A chip
  comes with a CONFIRMED image in slot A (assumption 40). -/
  used : List Sector := [factorySector]
  erased : List Nat := (List.range 62).map (· + 2)
  reserve : Nat := 0
  /-- The last-gasp record in the reserve sector (R413). -/
  gasp : Option FlashRec := none
  erases : Bank Nat Nat := []
  retired : List Nat := []
  nextSeq : Nat := 2
  nextSectorSeq : Nat := 2
  phase : Nat := 0
  captured : SettingsSet := {}
  firstPart : Nat := 0
  parts : Nat := 0
  /-- The latest store and the latest install have completed (R389). -/
  storeDone : Bool := false
  /-- The running slot; an install that runs: its source, sequence and image; the slot is WRITTEN and the completion waits for its
  acceptance (R427); the latest install has completed (R389). -/
  running : Nat := 0
  install : Bool := false
  installSrc : Nat := 0
  installSeq : Nat := 0
  installImage : Option Image := none
  installWritten : Bool := false
  /-- The programmed lines of the image slots, by line number; a line that is not listed is erased (R402). -/
  slotLines : Bank Nat FlashLine := []
  installDone : Bool := false
  /-- Slots whose state changed at the last start, to be journalled; trial (R433): processor release, watchdog raised,
  repair failed since then. -/
  trialAt : Option Tick := none
  watchdogSeen : Bool := false
  repairFailed : Bool := false
  migrationOpen : Bool := false
  /-- SRAM: the lines whose stored CRC does not match, and the line the scrubber reads next (R416, R421). -/
  badLines : List Nat := []
  scrub : Nat := 0
  /-- The lines that their memory arbiters hold, with the requests behind them (R420). -/
  holds : Bank Nat LineHold := []
  deriving DecidableEq, Repr

/-- What the always-on domain keeps across a warm start (R452). -/
structure AlwaysOn where
  cause : Nat := 1
  word5 : Nat := 0
  earlier : Nat := 0
  cold : Bool := true
  lastSeq : Nat := 0
  restarts : List Tick := []
  partnerReset : Bool := false
  trialExpired : Bool := false
  deriving DecidableEq, Repr

/-- The run of the chip from a reset on (R449 to R453, R320 to R323, R326). -/
structure Run where
  /-- The time of the last reset assertion, and of the release. -/
  resetAt : Tick := 0
  releasedAt : Tick := 0
  /-- The strap point of the start (R453). -/
  strapAt : Tick := 0
  /-- Start steps 1 to 8 have run; recovery mode; step 10 has run, and inserted the node; step 11 has run. -/
  started : Bool := false
  recovery : Bool := false
  ringReady : Bool := false
  joined : Bool := false
  programsRun : Bool := false
  /-- The reset lasts while these hold (R331, R449 to R451). -/
  supplyBad : List Supply := []
  supplyGood : Option Tick := none
  partnerLow : Bool := false
  rstLow : Bool := false
  /-- TEST was high at the release, and no key has come (R326). -/
  testWait : Bool := false
  /-- The pip-6 code of the chip stop that stands and its time; after 0x4701 the steps for which the die has been cool, and
  since when it is (R320, R323). -/
  stopCode : Nat := 0
  stopAt : Option Tick := none
  coolSteps : Nat := 0
  coolSince : Option Tick := none
  /-- The latest 0x4705 (R315). -/
  watchdogAt : Option Tick := none
  /-- A cell has switched since the start (R455). -/
  switched : Bool := false
  /-- The chip drives GATE, EN and BRIDGE_HOLD, from a time on (R342, R343, R456). -/
  driving : Bool := false
  drivenFrom : Tick := 0
  /-- Injected events for the next turn (R327). -/
  injected : List Event := []
  /-- The latest edge of TCK (R442). -/
  tckAt : Option Tick := none
  highestDie : Option Int := none
  dieArmed : Bool := true
  deriving DecidableEq, Repr

/-- A handover that runs (R342, R343, R352): its boundary, cause of 0x1200.0E, whether this chip gives, whether it is hard,
whether the boundary has passed, the cells that have moved and when the last of them moved, whether it is a drill, and
whether it gives back what an abandoned handover had moved. -/
structure Handover where
  boundary : Tick
  cause : Nat
  giving : Bool
  hard : Bool
  begun : Bool
  moved : List Nat
  movedAt : Tick := 0
  drill : Bool := false
  back : Bool := false
  deriving DecidableEq, Repr

/-- The twin side of the chip beside its objects (chapter 14). -/
structure Twin where
  waitFrom : Tick := 0
  presence : Bool := false
  tokenIn : Bool := false
  presOut : Bool := false
  tokenOut : Bool := false
  raisedAt : Option Tick := none
  tokenChecked : Bool := false
  /-- Identity exchanged; the latest try to join. -/
  joined : Bool := false
  tryAt : Option Tick := none
  /-- Synchronisation (R339): turn CRCs that have agreed in a row. -/
  agreed : Nat := 0
  /-- CRC of the last turn, and of the turn that runs, formed at each turn start (R336). -/
  crc : Nat := 0
  heartbeatAt : Tick := 0
  heartbeatTurn : Nat := 0
  /-- The judgement after a silent heartbeat (R347, R348): its start and since when the nets are idle-consistent. -/
  silentAt : Option Tick := none
  idleSince : Option Tick := none
  /-- Local faults of pip 3 or above of each side, by turn (R351). -/
  ownFaults : List Nat := []
  partnerFaults : List Nat := []
  outOfWindow : Bank Nat Nat := []
  insideSince : Tick := 0
  handover : Option Handover := none
  /-- By cell, when its pins change hands with its token: driven from then on by the chip that takes it, released then by the chip
  that gives it; and whether a hard handover took it, so that it stays low up to its next commanded rise (R342, R343). -/
  pinAt : Bank Nat (Tick × Bool) := []
  /-- The reset that follows once a handover away from this chip is complete: its cause and word 5. -/
  resetAfter : Option (Nat × Nat) := none
  /-- PARTNER_RST_OUT_N low since, held by command or by the hourly limit, and the times of the resets (R344, R353). -/
  resetLow : Option Tick := none
  resetHeld : Bool := false
  resets : List Tick := []
  /-- A yield for pip 6 that waits for its proposal (R321), and an ordered handover that R215 defers: since when, and its
  cause. -/
  yieldCode : Nat := 0
  deferred : Option (Tick × Nat) := none
  /-- The drill that waits for its anchor (R356). -/
  drillSince : Option Tick := none
  mirror : Bank Nat (List Nat) := []
  mirrorNext : Nat := 0
  deriving DecidableEq, Repr

/-- What a node holds of an image source (R372): cycles since its image last came, the image that waits for its turn,
whether 0x7301 stands, and whether the fallback values have been taken. -/
structure ImageSrc where
  missed : Nat := 0
  seen : Bool := false
  waiting : Option (List Nat) := none
  raised : Bool := false
  fallen : Bool := false
  deriving DecidableEq, Repr

/-- The ring side of the chip beside its objects (chapter 15). -/
structure Ring where
  wrapped : Option Port := none
  goodSince : Option Tick := none
  checkBack : Bool := false
  bothDown : Option Tick := none
  isolated : Bool := false
  duplicate : Bool := false
  wrappedElsewhere : Bool := false
  /-- The latest cycle start and the cycle length it carried, in µs; whether this node is master; the master's own next. -/
  cycleAt : Option Tick := none
  cycleLength : Nat := 1000
  master : Bool := false
  eastFails : List Tick := []
  westFails : List Tick := []
  images : Bank Nat ImageSrc := []
  /-- The image last sent (R371), and the maps in force (R390). -/
  sent : List Nat := []
  maps : Bank Addr Int := []
  /-- The node's 12-bit frame sequence. -/
  sequence : Nat := 0
  /-- The source and sequence of the requests taken within the past 1 ms (R364). -/
  taken : List (Nat × Nat × Tick) := []
  deriving DecidableEq, Repr

/-- A response (Table 15-4): the overall result, and per entry its result and the octets of a read. -/
structure Response where
  overall : Nat
  entries : List (Nat × List Nat)
  deriving DecidableEq, Repr

/-- A segmented transfer (R379): the node at its other end, its sequence, the object and the total length; `write` receives,
else the chip sends. `next` is the next offset expected or acknowledged, `sent` the end of what was sent. -/
structure Transfer where
  node : Nat
  sequence : Nat
  write : Bool
  addr : Addr
  length : Nat
  next : Nat
  sent : Nat
  data : List Nat
  resends : Nat
  lastAt : Tick
  /-- The segments that this chip sent last, each with its offset. -/
  segments : List (Nat × List Nat) := []
  deriving DecidableEq, Repr

/-- A fan-out that this chip runs (R388): its entry, its sequence, and the sends and latest send for each node that has not
answered. -/
structure FanOut where
  sequence : Nat
  entry : Entry
  waiting : List (Nat × Nat × Tick)
  deriving DecidableEq, Repr

/-- Requests, transactions and transfers (chapter 15). `kept` holds the last 16 responses for each source. -/
structure Requests where
  staged : List Staged := []
  /-- The turn boundary at which requests were last committed (R386). -/
  commitTurn : Option Nat := none
  kept : Bank Nat (List (Nat × Response)) := []
  transfers : List Transfer := []
  fanOut : Option FanOut := none
  key : Option (List Nat) := none
  challenge : Nat := 0
  /-- What the chip sent last: the destination, and a response or an abort code. -/
  lastResponse : Option (Nat × Nat × Response) := none
  lastAbort : Option (Nat × Nat × Nat) := none
  deriving DecidableEq, Repr

/-- The state of the block. -/
structure State where
  /-- The present time; a command moves it to its own time. -/
  now : Tick := 0
  /-- FT in µs is the present time in µs plus this (R173; R339 sets it in a standby). -/
  freeBase : Int := 0
  /-- The turn whose start has been worked off (R175). -/
  turnDone : Option Nat := none
  /-- The commands that wait, first in, first out. -/
  pending : List Instr := []
  /-- The chip arbiter is running a command that it has accepted (the model's own; false between two steps). -/
  accepting : Bool := false
  /-- Dictionary objects that were ever written, by address. -/
  obj : Bank Addr Int := []
  /-- Entry result of the latest dictionary command (Table 15-7) and the value of the latest read that a command made. -/
  lastResult : Nat := 0
  lastRead : Int := 0
  /-- The model's own counter of free values drawn so far. -/
  freeCount : Nat := 0
  faults : Bank Elem FaultRec := []
  inputs : Bank ArbInput InQueue := []
  /-- The time of the latest acceptance of each arbiter: level (1 block, 2 region, 3 chip) and number. -/
  acceptAt : Bank (Nat × Nat) Tick := []
  /-- Codes of class and instance raised "at most once per second", with the time of the latest (R75, R119, R390). -/
  limited : Bank (Nat × Nat) Tick := []
  cells : Bank Nat Cell := []
  ctxs : Bank Nat Ctx := []
  /-- The time until which each engine's slot runs (R88). -/
  engineBusy : Bank Nat Tick := []
  /-- The slot each engine started last (R105, R109). -/
  engineSlot : Bank Nat Slot := []
  groups : Bank Nat Group := []
  pools : Bank Nat Pool := []
  /-- The latest code of each voltage input (R13). -/
  volts : Bank Nat Nat := []
  /-- The latest signed code of each ACS input (R71, R297). -/
  acs : Bank Nat Int := []
  bridge : Bank Nat HoldPin := []
  feeds : Bank Nat FeedCh := []
  feedMarks : Bank Nat (Option FeedMark) := []
  selector : Selector := {}
  seqs : Bank Nat SeqCh := []
  mains : Bank Nat MainsT := []
  frame : FrameT := {}
  loadMap : Bank Nat MapBin := []
  moves : Bank Nat MoveT := []
  strings : Bank Nat Str := []
  /-- When the run times were last saved (R154). -/
  runSavedAt : Tick := 0
  /-- The battery tables in use (R226), and their class. -/
  tables : Bank Addr Int := []
  tableClass : Nat := 0
  auth : Bank Nat AuthRec := []
  temps : Bank Nat TempIn := []
  sinks : Bank Nat Sink := []
  drivers : Bank Nat Driver := []
  dies : Bank Nat DieT := []
  progSlots : Bank Nat SlotT := []
  /-- The latest executed step: its time and its slot (R276). -/
  stepAt : Option (Tick × Nat) := none
  /-- Programs whose input-return trigger is deferred (R283). -/
  deferred : List Nat := []
  /-- Input good (R281): since when the mains part holds, the feed part holds, and neither holds. -/
  mainsPart : Option Tick := none
  feedPart : Option Tick := none
  noPart : Option Tick := none
  /-- Watch slots read at the latest turn (R273). -/
  watch : Bank Nat Bool := []
  /-- Telemetry by element kind and number: the windows of quantity q and length w at 4·q + w (R291). -/
  tele : Bank (Nat × Nat) (List Window) := []
  /-- FT at the latest end of each window, and the time to which the ADC of a voltage input is shorted (R228). -/
  teleEnd : Bank Nat Nat := []
  shorted : Bank Nat Tick := []
  captures : Bank Nat Capture := []
  journal : Journal := {}
  storage : Storage := {}
  always : AlwaysOn := {}
  run : Run := {}
  twin : Twin := {}
  ring : Ring := {}
  access : Requests := {}
  twinState : TwinState := .negotiating
  /-- Whether the chip is held in reset (R449). -/
  inReset : Bool := false
  /-- The sequence floor in force (R39) and the last chip sequence number issued (R38). -/
  seqFloor : Nat := 0
  chipSeq : Nat := 0
  /-- The last number of each region (R36). -/
  regionSeq : Bank Nat Nat := []
  deriving DecidableEq, Repr

/-- The reasons a command stops the machine. -/
inductive Fault where
  /-- `sramRepair` names a line that the 6 MiB SRAM does not have (R416). Raised by `execSramRepair`; safe: the
  hardware has no such line to read. -/
  | noSuchSramLine
  deriving DecidableEq, Repr

/-- The reasons a command is refused by the model. -/
inductive Refusal where
  /-- The command has no meaning in the model yet. Raised by an arm of `exec` only; safe. -/
  | notModelled (mnemonic : String)
  deriving DecidableEq, Repr

/-- The block right after a power-on reset: the reset is released, the start-up steps have not run (R452, R453). Every
field has the value of its declaration: the defaults of the object tables hold, nothing waits, and every element is in
the state with code 0. -/
def State.reset : State := {}

end Sys2Proof.Machine
end

