-- ==== Sys2Proof/Machine/Ops.lean ====
section
/-! DEFINITION. The shared operations: banks, the dictionary store, time, elements and their fault states, the way of
an event into its arbiter input, and the judgement of a dictionary command's source. -/

namespace Sys2Proof.Machine

/-- The entry of a bank, or the default. -/
def bget {κ α : Type} [DecidableEq κ] (d : α) : Bank κ α → κ → α
  | [], _ => d
  | (k, x) :: r, n => if k = n then x else bget d r n

/-- A bank with one entry changed. -/
def bset {κ α : Type} [DecidableEq κ] : Bank κ α → κ → α → Bank κ α
  | [], n, x => [(n, x)]
  | (k, y) :: r, n, x => if k = n then (k, x) :: r else (k, y) :: bset r n x

/-- Steps in a SYS cycle, a microsecond, a millisecond and a second (R51). -/
abbrev cycleTicks : Nat := 64
abbrev usTicks : Nat := 25600
abbrev msTicks : Nat := 25600000
abbrev secTicks : Nat := 25600000000

/-- Nanoseconds in steps, rounded down to a step (25.6 steps a nanosecond). -/
def nsTicks (n : Nat) : Nat := n * 128 / 5

/-- Rounding of a fraction to the nearest integer, ties towards positive infinity (R99). -/
def rndDiv (n : Int) (d : Nat) : Int := (2 * n + d) / (2 * (d : Int))

/-- A value limited to a range. -/
def limitInt (v lo hi : Int) : Int := if v < lo then lo else if hi < v then hi else v

/-- The time moves forward to the time of a command, never back (R43). -/
def State.advance (s : State) (t : Tick) : State := { s with now := max s.now t }

/-- What a command leaves: its effect, at the time of the command, and with the queue as it was. -/
def State.keep (s effect : State) : State := { effect with now := s.now, pending := s.pending, accepting := s.accepting }

/-- The effect of a command that acts in the always-on domain or on the pins of a reset: no reset holds it off (R331, R441). -/
def State.wired (s : State) (t : Tick) (f : State → State) : Host.Outcome State Fault Refusal :=
  .next ((s.advance t).keep (f (s.advance t)))

/-- The effect of a command on a chip that is not held in reset (R449): a chip in reset takes only the passage of
time from it, and so does a chip in recovery mode (R432). -/
def State.live (s : State) (t : Tick) (f : State → State) : Host.Outcome State Fault Refusal :=
  if (s.advance t).inReset || (s.advance t).run.recovery then .next (s.advance t) else s.wired t f

/-- The effect of a command that a chip in recovery mode serves from its maintenance port too (R432). -/
def State.boot (s : State) (t : Tick) (src : Nat) (f : State → State) : Host.Outcome State Fault Refusal :=
  if (s.advance t).inReset || ((s.advance t).run.recovery && decide (src ≠ 0)) then .next (s.advance t) else s.wired t f

/-- Whether at least `n` steps have passed since a time, at the present time; never since `none`. -/
def State.since (s : State) (at? : Option Tick) (n : Nat) : Bool :=
  match at? with
  | none => false
  | some a => decide (a + n ≤ s.now)

def State.cell (s : State) (c : Nat) : Cell := bget {} s.cells c
def State.setCell (s : State) (c : Nat) (x : Cell) : State := { s with cells := bset s.cells c x }
def State.ctx (s : State) (k : Nat) : Ctx := bget {} s.ctxs k
def State.setCtx (s : State) (k : Nat) (x : Ctx) : State := { s with ctxs := bset s.ctxs k x }
def State.group (s : State) (g : Nat) : Group := bget {} s.groups g
def State.setGroup (s : State) (g : Nat) (x : Group) : State := { s with groups := bset s.groups g x }
def State.pool (s : State) (p : Nat) : Pool := bget {} s.pools p
def State.setPool (s : State) (p : Nat) (x : Pool) : State := { s with pools := bset s.pools p x }

def State.driver (s : State) (b : Nat) : Driver := bget {} s.drivers b
def State.setDriver (s : State) (b : Nat) (x : Driver) : State := { s with drivers := bset s.drivers b x }

/-- A change of every cell of a list, in order. -/
def State.eachCell (s : State) (cs : List Nat) (f : State → Nat → State) : State := cs.foldl f s

/-! ### The dictionary store -/

/-- The stored value of an object, if it was ever written. -/
def State.stored (s : State) (a : Addr) : Option Int := bget none (s.obj.map fun p => (p.1, some p.2)) a

/-- The role in force of the slot that 0x6000+j, 0x6200+j, 0x6210+j or 0x6300+j names (R30). -/
def State.roleOf (s : State) (j b : Nat) : Nat :=
  (bget 0 s.obj ⟨0x6000 + j, 2, b⟩).toNat

/-- The chemistry class of KS5 (R122). -/
def State.chemClass (s : State) : Nat := (bget 0 s.obj ⟨0x2011, 5, 0⟩).toNat

/-- Bus window of KS2 and KS3 and the feed ceiling of KS4 in mV (R122). -/
def State.busMin (s : State) : Int := bget 0 s.obj ⟨0x2011, 3, 0⟩
def State.busMax (s : State) : Int := bget 0 s.obj ⟨0x2011, 4, 0⟩
def State.feedCeiling (s : State) : Int := bget 0 s.obj ⟨0x2011, 7, 0⟩

/-- Default of the window minimum of a role (Table 05-4, Table 05-9). -/
def State.windowMinDefault (s : State) (role : Nat) : Int :=
  match role with
  | 1 => 360000
  | 5 => 11400
  | _ => s.busMin

/-- Default of the window maximum of a role. -/
def State.windowMaxDefault (s : State) (role : Nat) : Int :=
  match role with
  | 1 => 420000
  | 5 => 12600
  | 4 => s.feedCeiling
  | _ => s.busMax

/-- Table 09-1 by class: charge voltage, LVD voltage, charge range low and high, limits low and high, bands low and
high, efficiency, OCV coefficient in 0.1 mV/K. -/
def classDefaults (cls : Nat) : List Int :=
  match cls with
  | 0 => [3380, 2800, 0, 450, 0, 500, 300, 800, 995, -1]
  | 1 => [2250, 1800, -100, 450, -200, 500, 1000, 0, 970, 2]
  | _ => [4100, 3000, 50, 450, 0, 450, 1000, 0, 995, -2]

/-- The 25 °C column of Table 09-2 in mV. -/
def ocv25 (cls p : Nat) : Int :=
  match cls with
  | 0 => [2800, 3100, 3200, 3230, 3250, 3260, 3270, 3280, 3285, 3290, 3292, 3294, 3296, 3300, 3310, 3320, 3325, 3330,
      3335, 3340, 3400].getD p 0
  | 1 => 1930 + 10 * (p : Int)
  | _ => [3000, 3300, 3450, 3520, 3570, 3610, 3640, 3670, 3700, 3730, 3760, 3790, 3830, 3870, 3910, 3950, 3990, 4030,
      4070, 4120, 4180].getD p 0

/-- The default temperature axis in °C, and the default rate axis in C/1,000 (R225). -/
def axisT (i : Nat) : Int := ([-20, -10, 0, 10, 25, 35, 45, 55] : List Int).getD i 0
def axisR (r : Nat) : Int := ([50, 100, 200, 300, 500, 700, 1000, 2000] : List Int).getD r 0

/-- The factors of Table 09-3. -/
def factorT (cls i : Nat) : Int :=
  (match cls with
  | 0 => ([700, 800, 880, 950, 1000, 1010, 1010, 1000] : List Int)
  | 1 => [550, 650, 750, 880, 1000, 1040, 1060, 1070]
  | _ => [750, 830, 900, 960, 1000, 1010, 1010, 1000]).getD i 0
def factorR (cls r : Nat) : Int :=
  (match cls with
  | 0 => ([1000, 1000, 995, 990, 985, 980, 970, 950] : List Int)
  | 1 => [1060, 1000, 900, 820, 720, 640, 560, 450]
  | _ => [1000, 1000, 990, 985, 975, 965, 950, 920]).getD r 0

/-- The default battery tables of a class (R225). -/
def tableDefault (cls index sub : Nat) : Int :=
  match index with
  | 0x7100 => 10 * ocv25 cls ((sub - 1) % 21) + (classDefaults cls).getD 9 0 * (axisT ((sub - 1) / 21) - 25)
  | 0x7101 => 10 * axisT (sub - 1)
  | 0x7102 => rndDiv (factorT cls ((sub - 1) / 8) * factorR cls ((sub - 1) % 8)) 1000
  | _ => axisR (sub - 1)

/-- The factory step store (Table 11-8). -/
def stepDefault (i : Nat) : Int :=
  if i < 20 then
    ([0x13C00000, 0x30040005, 0x17000000, 0x470A1000, 0x13000000, 0x13100000, 0x13200000, 0x13300000, 0x13400000,
      0x13500000, 0x13600000, 0x13700000, 0x13800000, 0x13900000, 0x13A00000, 0x13B00000, 0x30040005, 0x15800000,
      0x458A8800, 0x4A9E1038] : List Int).getD i 0
  else if i < 56 then
    (match (i - 20) % 3 with
    | 0 => 0x14000000
    | 1 => 0x440A1000
    | _ => 0x14100000) + (((i - 20) / 3 : Nat) : Int) * 0x00200000
  else if i < 72 then 0x16000000 + ((i - 56 : Nat) : Int) * 0x00100000
  else if i = 72 then 0x70000001
  else if 80 ≤ i ∧ i < 101 then
    ([0x70000002, 0x4A8FF853, 0, 0x20100000, 0x20200000, 0x4A8FF857, 0x60000060, 0x28C00000, 0x28D00000, 0x28E00000,
      0x28F00000, 0, 0x18C00000, 0x18D00000, 0x18E00000, 0x18F00000, 0x300A0001, 0x10100000, 0x10200000, 0x70000003,
      0] : List Int).getD (i - 80) 0
  else 0

/-- The factory program descriptors (Table 11-7): start, length, triggers, set mask, for programs 0 to 2. -/
def programDefault (p sub : Nat) : Int :=
  if sub = 5 then 0xFF
  else
    (match p with
    | 0 => ([0, 74, 1, 1] : List Int)
    | 1 => [80, 12, 2, 1]
    | 2 => [92, 9, 4, 1]
    | _ => [0, 0, 0, 0]).getD (sub - 1) 0

/-- The default of an object: the table's, or the value its rule works out from the role, the class or the straps. -/
def State.dflt (s : State) (index sub inst : Nat) : Int :=
  if 0x6200 ≤ index ∧ index < 0x6204 ∧ (sub = 3 ∨ sub = 6) then s.windowMinDefault (s.roleOf (index - 0x6200) inst)
  else if 0x6200 ≤ index ∧ index < 0x6204 ∧ sub = 7 then s.windowMaxDefault (s.roleOf (index - 0x6200) inst)
  else if 0x6210 ≤ index ∧ index < 0x6214 then
    match findRow (s.roleOf (index - 0x6210) inst) index sub with
    | some r => r.default
    | none => 0
  else if index = 0x2600 then stepDefault inst
  else if index = 0x2610 then programDefault inst sub
  else if 0x7100 ≤ index ∧ index ≤ 0x7103 then tableDefault s.chemClass index sub
  else if index = 0x7010 ∧ sub = 1 then (classDefaults s.chemClass).getD 2 0
  else if index = 0x7010 ∧ sub = 2 then (classDefaults s.chemClass).getD 3 0
  else if index = 0x7010 ∧ sub = 3 then (classDefaults s.chemClass).getD 0 0
  else if index = 0x7010 ∧ sub = 7 then (classDefaults s.chemClass).getD 1 0
  else if index = 0x7110 ∧ sub = 1 then (classDefaults s.chemClass).getD 6 0
  else if index = 0x7110 ∧ sub = 2 then (classDefaults s.chemClass).getD 7 0
  else if index = 0x7110 ∧ sub = 0xB then (classDefaults s.chemClass).getD 8 0
  else
    match findRow 0 index sub with
    | some r => r.default
    | none => 0

/-- The value of an object in force: what was stored, or its default. -/
def State.cfg (s : State) (index sub inst : Nat) : Int :=
  match s.stored ⟨index, sub, inst⟩ with
  | some v => v
  | none => s.dflt index sub inst

/-- The value of an unsigned object. -/
def State.nat (s : State) (index sub inst : Nat) : Nat := (s.cfg index sub inst).toNat

/-- A change of the value of an object. -/
def State.put (s : State) (index sub inst : Nat) (v : Int) : State :=
  { s with obj := bset s.obj ⟨index, sub, inst⟩ v }

/-- One more in a 32-bit counter, which wraps. -/
def State.bump (s : State) (index sub inst : Nat) : State :=
  s.put index sub inst ((s.cfg index sub inst + 1) % 0x100000000)

/-- A free value: the spec leaves it open, nothing constrains it, and every draw is a new one (assumption 7). -/
def State.draw (s : State) (width : Nat) : Nat × State :=
  (Config.freeValue s.freeCount % 2 ^ width, { s with freeCount := s.freeCount + 1 })

/-! ### Elements and events -/

/-- The codes of Table 13-3 with a pip (R314). -/
def codesOfPip : Nat → List Nat
  | 1 => [0x1204, 0x1205, 0x2104, 0x2106, 0x2402, 0x2407, 0x2504, 0x2506, 0x2507, 0x2604, 0x3111, 0x3202,
    0x3203, 0x3205, 0x3209, 0x320A, 0x4501, 0x4502, 0x4601, 0x4611, 0x4616, 0x4617, 0x4618, 0x4621,
    0x4625, 0x4709, 0x470A, 0x4810, 0x4811, 0x4812, 0x4814, 0x5303, 0x5404, 0x5502, 0x6201, 0x6202,
    0x6304, 0x6402, 0x6501, 0x6502, 0x6503, 0x6504, 0x6505, 0x6602, 0x7102, 0x7302, 0x8201, 0x8203,
    0x8205, 0x9101, 0x9103, 0x9202, 0x9303]
  | 2 => [0x1102, 0x2401, 0x2404, 0x2405, 0x2406, 0x2505, 0x2605, 0x2606, 0x3101, 0x3104, 0x3106, 0x3107,
    0x3204, 0x3206, 0x3207, 0x3208, 0x4503, 0x4602, 0x4603, 0x4612, 0x4613, 0x4614, 0x4615, 0x4622,
    0x4707, 0x4708, 0x4813, 0x4815, 0x5101, 0x5103, 0x5201, 0x5401, 0x6101, 0x6102, 0x6103, 0x6203,
    0x6205, 0x6302, 0x7101, 0x7201, 0x7301, 0x8202, 0x8204, 0x9201, 0x9301]
  | 3 => [0x1203, 0x2102, 0x3102, 0x3103, 0x3110, 0x3201, 0x4101, 0x4704, 0x4705, 0x4816, 0x5402, 0x5403,
    0x5501, 0x6301, 0x6303, 0x6401, 0x6403, 0x7103, 0x7202, 0x8101, 0x8102, 0x8103, 0x8104, 0x8105,
    0x8106, 0x9102, 0x9104, 0x9203, 0x9302]
  | 4 => [0x1101, 0x1201, 0x1202, 0x1301, 0x2101, 0x2103, 0x2105, 0x2403, 0x2501, 0x2502, 0x2503, 0x3105,
    0x3112, 0x3113, 0x5102, 0x5202, 0x5203, 0x5302]
  | 5 => [0x2107, 0x2601, 0x2602, 0x2603, 0x5301]
  | 6 => [0x4701, 0x4702, 0x4703, 0x4706, 0x4801]
  | _ => []

/-- The pip of a code (Table 13-3); 0 for a code that the table does not list. -/
def pipOf (code : Nat) : Nat :=
  if (codesOfPip 1).contains code then 1
  else if (codesOfPip 2).contains code then 2
  else if (codesOfPip 3).contains code then 3
  else if (codesOfPip 4).contains code then 4
  else if (codesOfPip 5).contains code then 5
  else if (codesOfPip 6).contains code then 6
  else 0

/-- The owning element of a fault whose source does not name cells (Table 13-2). -/
def ownerOf (code inst : Nat) : Elem :=
  match code / 0x1000 with
  | 1 => .cell inst
  | 2 => .block inst
  | 3 => .region inst
  | 4 => if code = 0x4816 then .service 3 else .chip
  | 5 => if 4 ≤ pipOf code then .feed inst else .service 0
  | 6 => .string inst
  | 7 => .service 1
  | 8 => .service 2
  | _ => .service 3

/-- The arbiter input at which an event of a source enters (R35 to R37). DESIGN CHOICE (assumption 173): R37 names no input for
0x7302, and the model lets it enter where the refused access arrives, at the dictionary server. -/
def inputOf (code inst : Nat) : ArbInput :=
  match code / 0x1000 with
  | 1 => .block (Fin.ofNat 16 (inst / 8)) (Fin.ofNat 9 (inst % 8))
  | 2 => .block (Fin.ofNat 16 inst) 8
  | 3 => .region (Fin.ofNat 4 inst) (if code / 0x100 = 0x32 then 4 else 5)
  | 4 =>
    match code / 0x100 with
    | 0x45 => .chip 8
    | 0x46 => .chip 9
    | 0x48 => if code = 0x4801 then .chip 4 else .chip 14
    | _ => .chip 4
  | 5 => .chip 6
  | 6 => .chip 7
  | 7 => if code = 0x7302 then .chip 12 else .chip 11
  | 8 => .chip 5
  | _ => .chip 10

/-- The instances that a code's source level allows (R327). -/
def instanceLimit (code : Nat) : Nat :=
  match code / 0x1000 with
  | 1 => 128
  | 2 => 16
  | 3 => 4
  | 5 => 24
  | 6 => 4
  | _ => 1

def State.fault (s : State) (e : Elem) : FaultRec := bget {} s.faults e
def State.setFault (s : State) (e : Elem) (r : FaultRec) : State := { s with faults := bset s.faults e r }
def State.inFault (s : State) (e : Elem) : Bool := (s.fault e).inFault

/-- The fault state of an element is set by a code of an instance (R41, R317). -/
def State.markFault (s : State) (code inst : Nat) (e : Elem) : State :=
  let r := s.fault e
  let cycle := s.now / cycleTicks
  s.setFault e { r with
    inFault := true, raised := if r.raised.contains (code, inst) then r.raised else (code, inst) :: r.raised
    freshAt := cycle, fresh := if r.freshAt = cycle then (code, inst) :: r.fresh else [(code, inst)] }

/-- Whether a fault of an element was detected in the present SYS cycle (R45). -/
def State.justFaulted (s : State) (e : Elem) : Bool :=
  let r := s.fault e
  r.inFault && decide (r.freshAt = s.now / cycleTicks) && !r.fresh.isEmpty

/-- The fault state of an element ends and its codes are re-armed (R44, R317); a fault detected in this SYS cycle stands
(R45). -/
def State.endFault (s : State) (e : Elem) : State :=
  if s.justFaulted e then
    let r := s.fault e
    s.setFault e { inFault := true, endedAt := s.now / cycleTicks * cycleTicks, raised := r.fresh, freshAt := r.freshAt, fresh := r.fresh }
  else s.setFault e { endedAt := s.now }

/-- Whether any fault state of the chip is set; FAULT_N is low while it is (R318). -/
def State.anyFault (s : State) : Bool := s.faults.any fun p => p.2.inFault

def State.input (s : State) (i : ArbInput) : InQueue := bget {} s.inputs i
def State.setInput (s : State) (i : ArbInput) (q : InQueue) : State := { s with inputs := bset s.inputs i q }

/-- The code of a waiting event, 0 for a command. -/
def Payload.code : Payload → Nat
  | .event e => e.code
  | .command _ => 0

def Payload.isCommand : Payload → Bool
  | .event _ => false
  | .command _ => true

/-- The pip at which a waiting item competes: a command as a pip-2 event (R474). -/
def Payload.pip : Payload → Nat
  | .event e => pipOf e.code
  | .command _ => 2

/-- An item reaches an arbiter input: 32 places; a full input makes its source discard pip-1 and pip-2 events and hold
everything else (R40). -/
def State.offer (s : State) (i : ArbInput) (p : Payload) : State :=
  let q := s.input i
  if 32 ≤ q.items.length ∧ !p.isCommand ∧ p.pip ≤ 2 then
    s.setInput i { q with
      discarded := min 65535 (q.discarded + 1)
      firstDiscarded := if q.discarded = 0 then p.code else q.firstDiscarded }
  else s.setInput i { q with items := q.items ++ [⟨s.now, p⟩] }

/-- A code whose events every named cell owns (Table 13-2). -/
def ownedByCells (code : Nat) : Bool :=
  ([0x21, 0x24, 0x25].contains (code / 0x100) && decide (code ≠ 0x2107)) || [0x3105, 0x3112, 0x3113].contains code

/-- The elements whose fault state an event sets. -/
def Event.faultOwners (e : Event) : List Elem :=
  if pipOf e.code < 3 then []
  else if e.owners.isEmpty && !ownedByCells e.code then [ownerOf e.code e.inst]
  else e.owners

/-- The instance that a repeat is judged by (R317): the source's, and for 0x4101 the strap pin, each of which raises its own
(R123). -/
def Event.raisedAs (e : Event) : Nat := if e.code = 0x4101 then e.second else e.inst

/-- Whether an event repeats a code that every owner raised since its fault state was last ended (R317). -/
def State.repeats (s : State) (e : Event) : Bool :=
  !e.faultOwners.isEmpty &&
    e.faultOwners.all fun o => (s.fault o).inFault && (s.fault o).raised.contains (e.code, e.raisedAs)

/-- The events of one chip alone (R338): its straps, supply, clocks, memory, link, die sensors and journal store, and a
mismatch at the pins it drives. -/
def localCode (code : Nat) : Bool :=
  [0x1301, 0x3106, 0x3107].contains code || [0x41, 0x47, 0x48, 0x71, 0x72, 0x73, 0x81, 0x82, 0x91, 0x92, 0x93].contains (code / 0x100)

/-- The local faults that R351 weighs: pip 3 or above, the divergence itself apart (assumption 47). -/
def weighed (code : Nat) : Bool := localCode code && decide (3 ≤ pipOf code) && decide (code ≠ 0x8103)

/-- The turn of a local fault of pip 3 or above is kept for R351. -/
def State.noteLocal (s : State) (e : Event) : State :=
  if weighed e.code then
    { s with twin := { s.twin with ownFaults := (s.now / usTicks :: s.twin.ownFaults).take 32 } }
  else s

/-- The code of a twin state (Table 14-2). -/
def TwinState.code : TwinState → Nat
  | .negotiating => 0 | .alone => 1 | .active => 2 | .activeUnpaired => 3 | .syncing => 4 | .inStep => 5 | .suspect => 6
  | .detached => 7 | .excluded => 8

/-- Word 2 of an event's record (Table 13-5): an event of the twin has the twin state at its detection. -/
def State.stateWord (s : State) (e : Event) : Nat := if e.code / 0x1000 = 8 then s.twinState.code else e.stateCode

/-- An event is detected: its fault states are set in the same cycle (R41), and it goes to the arbiter input of its
source, unless it is a suppressed repeat (R317). -/
def State.raise (s : State) (e : Event) : State :=
  if s.repeats e then s.bump 0x8006 1 0
  else
    let ev := { e with time := s.now, owners := e.faultOwners, stateCode := s.stateWord e }
    (ev.owners.foldl (fun s o => s.markFault e.code e.raisedAs o) (s.noteLocal e)).offer (inputOf e.code e.inst) (.event ev)

/-- Whether an event that meets a condition waits at an arbiter input. -/
def State.waits (s : State) (i : ArbInput) (f : Event → Bool) : Bool :=
  (s.input i).items.any fun x =>
    match x.payload with
    | .event e => f e
    | .command _ => false

/-- The waiting events of an input that meet a condition are changed (R389: an abort that wins over a completion). -/
def State.amend (s : State) (i : ArbInput) (f : Event → Bool) (g : Event → Event) : State :=
  let q := s.input i
  s.setInput i { q with
    items := q.items.map fun x =>
      match x.payload with
      | .event e => if f e then { x with payload := .event (g e) } else x
      | .command _ => x }

/-- An event of a code and source instance without further words. -/
def ev (code inst : Nat) : Event := { code, inst }

/-- An event that is raised at most once per second for an instance. -/
def State.raiseLimited (s : State) (key : Nat) (e : Event) : State :=
  match bget none (s.limited.map fun p => (p.1, some p.2)) (e.code, key) with
  | some at? =>
    if s.now < at? + secTicks then s
    else { s with limited := bset s.limited (e.code, key) s.now }.raise e
  | none => { s with limited := bset s.limited (e.code, key) s.now }.raise e

/-! ### The choice of an arbiter (R35 to R37, R474) -/

/-- An item may be accepted: three SYS cycles have passed since it reached the input. -/
def State.mature (s : State) (x : Item) : Bool := decide (x.arrived / cycleTicks + 3 ≤ s.now / cycleTicks)

/-- Whether an item goes before one that stands ahead of it: at a block arbiter (level 1) the earlier SYS cycle of arrival, then
the higher pip (R35); at a region or chip arbiter the higher pip among the items present (R36, R37, R474). -/
def outranks (level : Nat) (y x : Item) : Bool :=
  let a := if level = 1 then x.arrived / cycleTicks else 0
  let b := if level = 1 then y.arrived / cycleTicks else 0
  decide (b < a ∨ (a = b ∧ x.payload.pip < y.payload.pip))

/-- The item of an input that goes first, by rank and then by place. -/
def firstItem (level : Nat) : List (Nat × Item) → Option (Nat × Item)
  | [] => none
  | x :: r =>
    match firstItem level r with
    | none => some x
    | some y => if outranks level y.2 x.2 then some y else some x

/-- The places of a list with their items. -/
def numbered : List Item → Nat → List (Nat × Item)
  | [], _ => []
  | x :: r, n => (n, x) :: numbered r (n + 1)

/-- The item of an input that competes; where only commands may be accepted, its first command. -/
def State.candidate (s : State) (level : Nat) (i : ArbInput) (commandsOnly : Bool) : Option (Nat × Item) :=
  firstItem level ((numbered ((s.input i).items.take 32) 0).filter fun x =>
    s.mature x.2 && (!commandsOnly || x.2.payload.isCommand))

/-- The winner among inputs in their fixed order: the first rank, then the earlier input (R35 to R37). -/
def winner (level : Nat) : List (ArbInput × Nat × Item) → Option (ArbInput × Nat × Item)
  | [] => none
  | x :: r =>
    match winner level r with
    | none => some x
    | some y => if outranks level y.2.2 x.2.2 then some y else some x

/-- Whether the input that an arbiter passes its items to has a place (R41): block arbiters are level 1, regions 2, the chip
3. -/
def State.roomBeyond (s : State) (level num : Nat) : Bool :=
  match level with
  | 1 => decide ((s.input (.region (Fin.ofNat 4 (num / 4)) (Fin.ofNat 6 (num % 4)))).items.length < 32)
  | 2 => decide ((s.input (.chip (Fin.ofNat 15 num))).items.length < 32)
  | _ => true

/-- An arbiter has accepted nothing in this SYS cycle. -/
def State.arbiterFree (s : State) (level num : Nat) : Bool :=
  match bget none (s.acceptAt.map fun p => (p.1, some p.2)) (level, num) with
  | some a => decide (a / cycleTicks < s.now / cycleTicks)
  | none => true

/-- An arbiter accepts now. -/
def State.markAccept (s : State) (level num : Nat) : State := { s with acceptAt := bset s.acceptAt (level, num) s.now }

/-- The inputs of a block arbiter in their order: the block's own sources, then the cells (R35). -/
def blockInputs (b : BlockId) : List ArbInput :=
  .block b 8 :: (List.range 8).map fun m => .block b (Fin.ofNat 9 m)

/-- The inputs of a region fault arbiter in their order (R36). -/
def regionInputs (r : RegionId) : List ArbInput := (List.range 6).map fun m => .region r (Fin.ofNat 6 m)

/-- The inputs of the chip arbiter in their order (R37). -/
def chipInputs : List ArbInput := (List.range 15).map fun m => .chip (Fin.ofNat 15 m)

/-- The journal write queue is full (R302). -/
def State.journalFull (s : State) : Bool := decide (s.journal.store = 1) && decide (2048 ≤ s.journal.queue.length)

/-- Whether a command at the input of a place would win against what waits at an arbiter: its input has a place, and nothing
waits of a higher pip, nor of pip 2 at its own input or at an earlier one (R474). -/
def State.nothingBefore (s : State) (level : Nat) (inputs : List ArbInput) (commandsOnly : Bool) (i : ArbInput) : Bool :=
  decide ((s.input i).items.length < 32) &&
    (inputs.zipIdx).all fun (j, n) =>
      match s.candidate level j commandsOnly with
      | some (_, x) => decide (x.payload.pip < 2) || (decide (x.payload.pip = 2) && decide (inputs.idxOf i < n))
      | none => true

/-- Whether the chip arbiter accepts a command at one of its inputs in this SYS cycle. A chip in recovery mode has no arbiters
(R432). -/
def State.chipTakes (s : State) (n : Fin 15) : Bool :=
  s.accepting || s.run.recovery || (s.arbiterFree 3 0 && s.nothingBefore 3 chipInputs s.journalFull (.chip n))

/-- A command reaches an input of the chip arbiter (R45, R474). Its step stands for its acceptance where the arbiter accepts it
in this SYS cycle; else it waits at the input and acts once it is accepted (assumption 6). -/
def State.place (s : State) (n : Fin 15) (c : Cmd) (f : State → State) : State :=
  if s.chipTakes n then { f { s.markAccept 3 0 with accepting := true } with accepting := s.accepting }
  else
    let q := s.input (.chip n)
    s.setInput (.chip n) { q with items := q.items ++ [⟨s.now - 3 * cycleTicks, .command c⟩] }

/-! ### The source of a dictionary command -/

def State.authRec (s : State) (src : Nat) : AuthRec := bget {} s.auth src
def State.setAuth (s : State) (src : Nat) (r : AuthRec) : State := { s with auth := bset s.auth src r }

/-- A write of the chip itself, judged at a fixed authority: an image entry (R372), a move (R191), or a write that the active
partner has accepted (R337). It stands for a source number of 256 or more. -/
def innerSource (authority node : Nat) : Nat := 256 * (authority + 1) + node % 256

/-- The authority a source holds: integrator for the maintenance port, else what was granted, else the default
(R380). -/
def State.authorityOf (s : State) (src : Nat) : Nat :=
  if 256 ≤ src then src / 256 - 1
  else if src = 0 then 2
  else
    match (s.authRec src).raised with
    | some a => a
    | none => s.nat 0x1101 5 0

/-- Whether the chip is the standby of a pair (R337). -/
def State.standby (s : State) : Bool :=
  match s.twinState with
  | .syncing | .inStep | .suspect | .detached => true
  | _ => false

def State.result (s : State) (r : Nat) : State := { s with lastResult := r }

/-- A source has sent a request (R383). -/
def State.noteRequest (s : State) (src : Nat) : State :=
  if 256 ≤ src then s else s.setAuth src { s.authRec src with lastRequest := s.now }

/-- A refusal for want of authority, with 0x7302 at most once per second for each source (Table 13-4). -/
def State.refuseAuthority (s : State) (src : Nat) : State :=
  (if 256 ≤ src then s else s.raiseLimited src (ev 0x7302 0)).result 0x30

/-- Strap bits of 0x2011.09 (R123). -/
def State.strapBad (s : State) (bits : List Nat) : Bool := bits.any fun i => (s.nat 0x2011 9 0).testBit i

/-- The node ID is valid (R123). -/
def State.nodeValid (s : State) : Bool := !s.strapBad [0, 1, 8]

/-- A source can reach the dictionary: without a valid node ID the maintenance port alone (Table 05-3). -/
def State.hears (s : State) (src : Nat) : Bool := s.nodeValid || decide (src = 0 ∨ 256 ≤ src)

/-- A dictionary command is judged: a standby refuses it with 0x31 unless it is addressed to the chip itself (R337); too little
authority refuses it with 0x30 and 0x7302 (R378, R390); else it runs. -/
def State.judge (s : State) (src need : Nat) (localObject : Bool) (f : State → State) : State :=
  if s.standby && !localObject && decide (src < 256) then s.result 0x31
  else if s.authorityOf src < need then s.refuseAuthority src
  else f (s.result 0)

/-- A request of a source reaches the dictionary server (R383); one that is accepted now was noted when it came. -/
def State.received (s : State) (src : Nat) : State := if s.accepting then s else s.noteRequest src

/-- A dictionary command of a source that the chip hears: it counts as a request of its source, enters the chip arbiter at the dictionary server's
input, and is judged and run in the SYS cycle of its acceptance (R37, R45, R474). `c` is the row that brought it. -/
def State.dict (s : State) (c : Instr) (src need : Nat) (localObject : Bool) (f : State → State) : State :=
  if s.hears src then (s.received src).place 12 (.write c) fun s => s.judge src need localObject f else s

/-- The node of a source number. -/
def nodeOf (src : Nat) : NodeId := Fin.ofNat 256 src

end Sys2Proof.Machine
end

