-- ==== Sys2Proof/Machine/Flash.lean ====
section
/-! DEFINITION. The record area of the embedded flash (R404 to R408): records are appended at the head, and the newest
valid record of a kind and instance is in force. -/

namespace Sys2Proof.Machine

/-- Payload octets of a record (Table 17-3); the battery state and slot state lengths are the model's (assumption 41). -/
def RecBody.payload : RecBody → Nat
  | .part _ => 2028
  | .commit _ _ _ _ => 12
  | .battery _ _ => 100
  | .runTime _ => 512
  | .startCount _ _ => 8
  | .lastGasp _ => 64
  | .slot _ _ _ => 24
  | .compactionCommit _ => 4
  | .compactionStart _ => 2
  | .rollback _ => 4

/-- Lines a record occupies (R405); an erased void line follows a commit mark (Table 17-3). -/
def RecBody.lines (b : RecBody) : Nat :=
  (20 + b.payload + 31) / 32 + (match b with
    | .commit _ _ _ _ => 1
    | _ => 0)

/-- Lines of a sector in use: its header and its records. -/
def Sector.lines (x : Sector) : Nat := x.records.foldl (fun n r => n + r.body.lines) 1

/-- `a` comes before `b` in a 32-bit count that wraps (R38, R407). -/
def seqBefore (a b : Nat) : Bool :=
  let d := (b + 0x100000000 - a % 0x100000000) % 0x100000000
  decide (1 ≤ d ∧ d ≤ 0x7FFFFFFF)

/-- Every record of the record area, oldest first. -/
def Storage.records (x : Storage) : List FlashRec := x.used.flatMap fun u => u.records

/-- A settings part, or a copy that compaction made. -/
def FlashRec.partOrCopy (r : FlashRec) : Bool :=
  match r.body with
  | .part _ => true
  | _ => decide (r.origin ≠ r.seq)

/-- A record lies in a span that a rollback mark voids (R407, Table 17-4): the start mark or first part that it names, and the parts
or copies after that up to the mark. A last-gasp record of the collapse between them stands. -/
def voidedBy (rs : List FlashRec) (r : FlashRec) : Bool :=
  rs.any fun m =>
    match m.body with
    | .rollback from? =>
      !seqBefore r.seq from? && seqBefore r.seq m.seq && (decide (r.seq = from?) || r.partOrCopy)
    | _ => false

/-- The valid records, oldest first. -/
def Storage.valid (x : Storage) : List FlashRec := x.records.filter fun r => !r.damaged && !voidedBy x.records r

/-- The newest valid record that a function reads. -/
def Storage.newest {α : Type} (x : Storage) (f : FlashRec → Option α) : Option α := x.valid.reverse.findSome? f

/-- A settings set is complete (R408): its commit mark stands and every part that it counts is valid. -/
def Storage.complete (x : Storage) (setSeq count : Nat) (voided : Bool) : Bool :=
  !voided && (List.range count).all fun i =>
    x.valid.any fun r => decide (r.origin = (setSeq + i) % 0x100000000) && decide (r.body = .part i)

/-- A complete settings set: its set sequence, part count and format. -/
structure StoredSet where
  setSeq : Nat
  count : Nat
  format : Nat
  set : SettingsSet
  deriving DecidableEq, Repr

/-- A set enters a list in which a newer set sequence comes first. -/
def insertSet (x : StoredSet) : List StoredSet → List StoredSet
  | [] => [x]
  | y :: r => if seqBefore x.setSeq y.setSeq then y :: insertSet x r else x :: y :: r

/-- The complete settings sets, newest first (R408). -/
def Storage.sets (x : Storage) : List StoredSet :=
  (x.valid.filterMap fun r =>
    match r.body with
    | .commit setSeq count set voided =>
      if x.complete setSeq count voided then some { setSeq, count, format := r.format, set } else none
    | _ => none).foldl (fun l y => insertSet y l) []

/-- The state of an image slot (R431) and the image it holds: the newest slot state record, else EMPTY. -/
def Storage.slot (x : Storage) (n : Nat) : Nat × Option Image :=
  (x.newest fun r =>
    match r.body with
    | .slot m st img => if m = n then some (st, img) else none
    | _ => none).getD (0, none)

/-- The settings format that an image writes. -/
def Storage.format (x : Storage) : Nat :=
  match (x.slot x.running).2 with
  | some i => i.format
  | none => 0

def State.setStorage (s : State) (x : Storage) : State := { s with storage := x }

/-- A new head sector: the next erased one, with its header. -/
def Storage.openSector (x : Storage) : Option Storage :=
  match x.erased with
  | [] => none
  | n :: r =>
    some { x with
      erased := r
      used := x.used ++ [{ number := n, seq := x.nextSectorSeq, erases := bget 0 x.erases n + 1 }]
      nextSectorSeq := x.nextSectorSeq + 1 }

/-- A record goes to a sector that has room for it. -/
def Storage.place (x : Storage) (r : FlashRec) : Storage :=
  match x.used.reverse with
  | h :: older =>
    { x with
      used := (({ h with records := h.records ++ [r] } : Sector) :: older).reverse
      nextSeq := (x.nextSeq + 1) % 0x100000000 }
  | [] => x

/-- A record is appended at the head with the next record sequence (R404, R407); `none` where no sector has room. -/
def Storage.append (x : Storage) (b : RecBody) : Option Storage :=
  let r : FlashRec := { seq := x.nextSeq, format := x.format, body := b, origin := x.nextSeq }
  match x.used.getLast? with
  | some h => if h.lines + b.lines ≤ 512 ∧ !x.retired.contains h.number then some (x.place r) else (x.openSector).map fun y => y.place r
  | none => (x.openSector).map fun y => y.place r

/-- A record is written to the record area; one for which no sector has room is not written. -/
def State.appendRecord (s : State) (b : RecBody) : State :=
  match s.storage.append b with
  | some x => s.setStorage x
  | none => s

end Sys2Proof.Machine
end

