-- ==== Sys2Proof/Machine/Codec.lean ====
section
/-! DEFINITION. Octets: little-endian fields, the check codes of Table 00-4, and the 64 octets of a journal slot (Table
12-3, R300, R302). -/

namespace Sys2Proof.Machine

/-- `n` octets of a number in two's complement, least significant first. -/
def leOctets : Nat → Int → List Nat
  | 0, _ => []
  | n + 1, v => (v % 256).toNat :: leOctets n (v / 256)

/-- The unsigned number of little-endian octets. -/
def leValue : List Nat → Nat
  | [] => 0
  | o :: r => o + 256 * leValue r

/-- One bit of CRC-16, polynomial 0x1021, not reflected. -/
def crc16Bit (c : Nat) : Nat := if 0x8000 ≤ c then Nat.xor (2 * c % 0x10000) 0x1021 else 2 * c

def crc16Bits : Nat → Nat → Nat
  | 0, c => c
  | n + 1, c => crc16Bits n (crc16Bit c)

/-- CRC-16 of Table 00-4: initial value 0xFFFF. -/
def crc16 (os : List Nat) : Nat := os.foldl (fun c o => crc16Bits 8 (Nat.xor c (o * 256))) 0xFFFF

/-- One bit of CRC-32, reflected. -/
def crc32Bit (c : Nat) : Nat := if c % 2 = 1 then Nat.xor (c / 2) 0xEDB88320 else c / 2

def crc32Bits : Nat → Nat → Nat
  | 0, c => c
  | n + 1, c => crc32Bits n (crc32Bit c)

/-- CRC-32 of Table 00-4: initial value and final XOR 0xFFFF_FFFF. -/
def crc32 (os : List Nat) : Nat := Nat.xor (os.foldl (fun c o => crc32Bits 8 (Nat.xor c o)) 0xFFFFFFFF) 0xFFFFFFFF

/-- Octets with their CRC-16 at the end. -/
def withCrc16 (os : List Nat) : List Nat := os ++ leOctets 2 (crc16 os)

/-- The 64 octets of a record (Table 12-3). -/
def JRec.octets (r : JRec) : List Nat :=
  withCrc16 ([r.type, r.pip] ++ leOctets 2 r.code ++ leOctets 4 r.seq ++ leOctets 2 r.rseq ++ [r.region % 256, r.flags] ++
    leOctets 4 r.inst ++ leOctets 8 r.stamp ++
    ((List.range 9).flatMap fun i => leOctets 4 (r.words.getD i 0)) ++ [0, 0])

/-- The 64 octets of a slot: a record, a capture part (R300), or a filler (R302). -/
def SlotRec.octets : SlotRec → List Nat
  | .record r => r.octets
  | .part header index data => withCrc16 ([4, 0] ++ leOctets 2 index ++ leOctets 4 header ++ data)
  | .filler => withCrc16 (0xFE :: List.replicate 61 0)

/-- A timestamp read as two 32-bit words. -/
def stampWords (n : Nat) : List Int := [((n % 0x100000000 : Nat) : Int), ((n / 0x100000000 : Nat) : Int)]

end Sys2Proof.Machine
end

