-- ==== Sys2Proof/Machine/FlashLines.lean ====
section
/-! DEFINITION. The lines of the embedded flash (R401, R402): what a line holds, how the records of the record area fill lines
(R404 to R406), the lines of the image slots, and what a line that fails its check does to its reader. -/

namespace Sys2Proof.Machine

/-! ### One line (R402) -/

/-- An erased line reads as 0xFF with a check of 0xFFFF. -/
def erasedLine : FlashLine := ⟨List.replicate 32 0xFF, 0xFFFF⟩

/-- A line that is programmed with 32 octets stores their CRC-16. -/
def programmedLine (os : List Nat) : FlashLine := ⟨os, crc16 os⟩

/-- A line passes its check; an erased one counts as valid. -/
def FlashLine.valid (x : FlashLine) : Bool := decide (x = erasedLine) || decide (x.data.length = 32 ∧ x.check = crc16 x.data)

/-- A line can be programmed only once after an erase. -/
def FlashLine.program (x : FlashLine) (os : List Nat) : Option FlashLine :=
  if x = erasedLine ∧ os.length = 32 then some (programmedLine os) else none

/-- Octets in whole lines, the rest of the last left erased. -/
def lineOctets (os : List Nat) : List (List Nat) :=
  (List.range ((os.length + 31) / 32)).map fun i =>
    let l := (os.drop (32 * i)).take 32
    l ++ List.replicate (32 - l.length) 0xFF

/-! ### Records in lines (R404 to R406) -/

/-- Kind and instance of a record (Table 17-3). -/
def RecBody.typeWord : RecBody → Nat × Nat
  | .part n => (0x01, n)
  | .commit _ _ _ _ => (0x02, 0)
  | .battery n _ => (0x10, n)
  | .runTime _ => (0x11, 0)
  | .startCount _ _ => (0x12, 0)
  | .lastGasp _ => (0x20, 0)
  | .slot n _ _ => (0x30, n)
  | .compactionCommit _ => (0x40, 0)
  | .compactionStart _ => (0x41, 0)
  | .rollback _ => (0x42, 0)

/-- The payload octets of a record (Table 17-3); those of a settings part, a battery state and a slot state are left open. -/
def FlashRec.payloadOctets (r : FlashRec) (crcs : List Nat) : List Nat :=
  match r.body with
  | .commit setSeq count _ _ =>
    leOctets 4 setSeq ++ leOctets 2 count ++ leOctets 2 r.format ++ leOctets 4 (crc32 (crcs.flatMap fun c => leOctets 4 c))
  | .runTime l => (List.range 128).flatMap fun c => leOctets 4 (bget 0 l c : Nat)
  | .startCount n f => leOctets 4 n ++ leOctets 4 f
  | .lastGasp j => j.octets
  | .compactionCommit a => leOctets 4 a
  | .compactionStart k => [1, k]
  | .rollback q => leOctets 4 q
  | b => (List.range b.payload).map fun i => Config.payloadOctet b.typeWord.1 b.typeWord.2 r.seq i % 256

/-- The octets of a record before its CRC-32 (Table 17-2). -/
def FlashRec.bodyOctets (r : FlashRec) (crcs : List Nat) : List Nat :=
  let p := r.payloadOctets crcs
  leOctets 2 (256 * r.body.typeWord.1 + r.body.typeWord.2 : Nat) ++ leOctets 2 r.format ++ leOctets 4 r.seq ++
    leOctets 4 (p.length : Nat) ++ List.replicate 4 0xFF ++ p

/-- The CRC-32 values of the parts of a set, in part order (Table 17-3). -/
def Storage.partCrcs (x : Storage) (setSeq count : Nat) : List Nat :=
  (List.range count).filterMap fun i =>
    (x.records.find? fun r => decide (r.origin = (setSeq + i) % 0x100000000) && decide (r.body = .part i)).map fun r =>
      crc32 (r.bodyOctets [])

/-- The lines of a record; the void line of a commit mark is erased until it is programmed to zeros (R410). -/
def Storage.recordLines (x : Storage) (r : FlashRec) : List FlashLine :=
  let crcs := match r.body with
    | .commit setSeq count _ _ => x.partCrcs setSeq count
    | _ => []
  let os := r.bodyOctets crcs
  (lineOctets (os ++ leOctets 4 (crc32 os))).map programmedLine ++
    match r.body with
    | .commit _ _ _ true => [programmedLine (List.replicate 32 0)]
    | .commit _ _ _ false => [erasedLine]
    | _ => []

/-- The header line of a sector: marker, sector sequence and erase count, 0 for a retired one (R404, R411). -/
def headerLine (seq erases : Nat) : FlashLine :=
  programmedLine (leOctets 4 0x53454354 ++ leOctets 4 seq ++ leOctets 4 erases ++ List.replicate 20 0xFF)

/-- The lines of a sector of the record area, in order; those past the last are erased. -/
def Storage.sectorLines (x : Storage) (k : Nat) : List FlashLine :=
  match x.used.find? fun u => decide (u.number = k) with
  | some u => headerLine u.seq (if x.retired.contains k then 0 else u.erases) :: u.records.flatMap x.recordLines
  | none =>
    if k = x.reserve then
      headerLine x.nextSectorSeq (bget 0 x.erases k) :: (match x.gasp with
        | some r => x.recordLines r
        | none => [])
    else []

/-- A line of the flash by its number: 16,384 in each bank, and 512 in each sector (Table 17-1). -/
def Storage.flashLine (x : Storage) (n : Nat) : FlashLine :=
  if n < 98304 then bget erasedLine x.slotLines n
  else (x.sectorLines ((n - 98304) / 512)).getD (n % 512) erasedLine

/-! ### Image slots (R427) -/

/-- The slot's 96 sectors are erased. -/
def Storage.eraseSlot (x : Storage) (slot : Nat) : Storage :=
  { x with slotLines := x.slotLines.filter fun p => decide (p.1 / 49152 ≠ slot) }

/-- Whole lines of a slot are programmed from an offset on; a line that is not erased keeps what it holds. -/
def Storage.programSlot (x : Storage) (slot offset : Nat) (os : List Nat) : Storage :=
  (List.range (os.length / 32)).foldl (fun x i =>
    let n := 49152 * slot + offset / 32 + i
    match (bget erasedLine x.slotLines n).program ((os.drop (32 * i)).take 32) with
    | some l => { x with slotLines := bset x.slotLines n l }
    | none => x) x

/-- The octets of a slot from line `a` on, `count` lines. -/
def Storage.slotOctets (x : Storage) (slot a count : Nat) : List Nat :=
  (List.range count).flatMap fun i => (bget erasedLine x.slotLines (49152 * slot + a + i)).data

/-- The payload CRC of the image in a slot agrees with its header (Table 18-1). -/
def Storage.payloadGood (x : Storage) (slot length : Nat) : Bool :=
  decide (leValue (((x.slotOctets slot 0 8).drop 184).take 4) = crc32 (x.slotOctets slot 8 (length / 32 - 8)))

/-! ### Lines that fail their check (R402, R407) -/

/-- The sequence of the record that a line of a sector belongs to. -/
def Sector.recordAt (u : Sector) (line : Nat) : Option Nat :=
  ((u.records.foldl (fun (p : Nat × Option Nat) r =>
    let e := p.1 + r.body.lines
    (e, if p.1 ≤ line ∧ line < e then some r.seq else p.2)) (1, none))).2

/-- A sector needed a margin re-read, or a record of it no longer reads. -/
def Sector.noteRead (u : Sector) (line : Nat) (passed : Bool) : Sector :=
  if passed then { u with marginRead := true }
  else
    match u.recordAt line with
    | some q => { u with records := u.records.map fun r => if r.seq = q then { r with damaged := true } else r }
    | none => u

/-- A line fails its check, with whether the margin re-read passed: the record area that is left, and the codes that are
journalled, 0x9103 for a good re-read and 0x9201 for a record with an older valid one of its kind (R402, R407). -/
def Storage.readLine (x : Storage) (n : Nat) (passed : Bool) : Storage × List Nat :=
  let k := (n - 98304) / 512
  let hit (u : Sector) : Bool := decide (98304 ≤ n) && decide (u.number = k)
  let y := { x with used := x.used.map fun u => if hit u then u.noteRead (n % 512) passed else u }
  if passed then (y, [0x9103])
  else
    let lost := ((x.used.filter hit).filterMap fun u => u.recordAt (n % 512)).head?
    match lost.bind fun q => x.valid.find? fun r => decide (r.seq = q) with
    | some r =>
      (y, if r.body.typeWord.1 ≠ 1 ∧ r.body.typeWord.1 ≠ 2 ∧
          y.valid.any (fun o => decide (o.body.typeWord = r.body.typeWord) && seqBefore o.seq r.seq) then [0x9201] else [])
    | none => (y, [])

def Storage.readLines (x : Storage) : List (Nat × Bool) → Storage × List Nat
  | [] => (x, [])
  | p :: rest =>
    let (y, a) := x.readLine p.1 p.2
    let (z, b) := y.readLines rest
    (z, a ++ b)

/-- What a flash read journals; each good margin re-read counts in 0x9030.03. -/
def State.noteFlash (s : State) (codes : List Nat) : State :=
  codes.foldl (fun s c => (if c = 0x9103 then s.bump 0x9030 3 0 else s).raise (ev c 0)) s

/-- The lines that failed their check while a command read the flash. -/
def State.readFlash (s : State) (reads : List (Nat × Bool)) : State :=
  let (x, codes) := s.storage.readLines reads
  (s.setStorage x).noteFlash codes

/-- A line of the running slot is read for a refetch (R419): whether the data is good. -/
def State.refetch (s : State) (source : LineRead) : State × Bool :=
  match source with
  | .good => (s, true)
  | .margin => (s.noteFlash [0x9103], true)
  | .failed => (s, false)

end Sys2Proof.Machine
end

