-- ==== Sys2Proof/Machine/Arith.lean ====
section
/-! DEFINITION. Fixed-point evaluation, with 60 fraction bits, of the three real functions that the rules name: the
sine of R135, the exponential of first-order low-passes (R152, R142, R208) and the logarithm of R249 (assumption 9). -/

namespace Sys2Proof.Machine

/-- 1.0 with 60 fraction bits. -/
abbrev fxOne : Int := 1152921504606846976

/-- π with 60 fraction bits. -/
abbrev fxPi : Int := 3622009729038561421

def fxMul (a b : Int) : Int := a * b / fxOne

/-- `n` further terms of the sine series after the term `term` of order `k`. -/
def sinTerms (x2 : Int) : Nat → Nat → Int → Int → Int
  | 0, _, _, sum => sum
  | n + 1, k, term, sum =>
    let next := -(fxMul term x2) / (((k + 1) * (k + 2) : Nat) : Int)
    sinTerms x2 n (k + 2) next (sum + next)

/-- |sin(2π·ma/65,536)| with 60 fraction bits. -/
def absSin (ma : Nat) : Int :=
  let h := ma % 32768
  let q := if 16384 < h then 32768 - h else h
  if q = 16384 then fxOne
  else
    let x := (q : Int) * fxPi / 32768
    sinTerms (fxMul x x) 12 1 x x

/-- `n` further terms of the series of exp(−x). -/
def expTerms (x : Int) : Nat → Nat → Int → Int → Int
  | 0, _, _, sum => sum
  | n + 1, k, term, sum =>
    let next := -(fxMul term x) / ((k + 1 : Nat) : Int)
    expTerms x n (k + 1) next (sum + next)

def fxSquare : Nat → Int → Int
  | 0, x => x
  | n + 1, x => fxSquare n (fxMul x x)

/-- exp(−num/den) with 60 fraction bits; 0 where it is below 2⁻⁶⁰. -/
def expNeg (num den : Nat) : Int :=
  if den = 0 then 0
  else if 42 * den ≤ num then 0
  else fxSquare 6 (expTerms ((num : Int) * fxOne / ((den * 64 : Nat) : Int)) 12 0 fxOne fxOne)

/-- The fraction 1 − exp(−num/den) by which a first-order low-pass moves. -/
def lowPass (num den : Nat) : Int := fxOne - expNeg num den

/-- `n` further terms of y + y³/3 + y⁵/5 + …. -/
def atanhTerms (y2 : Int) : Nat → Nat → Int → Int → Int
  | 0, _, _, sum => sum
  | n + 1, k, power, sum =>
    let next := fxMul power y2
    atanhTerms y2 n (k + 2) next (sum + next / ((k + 2 : Nat) : Int))

/-- ln 2 with 60 fraction bits. -/
abbrev fxLn2 : Int := 799144290325165978

/-- ln(num/den) with 60 fraction bits, for positive numbers. -/
def fxLn (num den : Nat) : Int :=
  let e : Int := (Nat.log2 num : Int) - (Nat.log2 den : Int)
  let m : Int :=
    if 0 ≤ e then (num : Int) * fxOne / ((den * 2 ^ e.toNat : Nat) : Int)
    else (num : Int) * fxOne * 2 ^ (-e).toNat / (den : Int)
  let y := (m - fxOne) * fxOne / (m + fxOne)
  e * fxLn2 + 2 * atanhTerms (fxMul y y) 30 1 y y

end Sys2Proof.Machine
end

