-- ==== Sys2Proof/Machine/FeedRead.lean ====
section
/-! DEFINITION. A feed channel's readings and conditions (chapter 08), and the readings of the voltage inputs. -/

namespace Sys2Proof.Machine

def State.feed (s : State) (f : Nat) : FeedCh := bget {} s.feeds f
def State.setFeed (s : State) (f : Nat) (x : FeedCh) : State := { s with feeds := bset s.feeds f x }
def State.seq (s : State) (n : Nat) : SeqCh := bget {} s.seqs n
def State.setSeq (s : State) (n : Nat) (x : SeqCh) : State := { s with seqs := bset s.seqs n x }
def State.setSelector (s : State) (x : Selector) : State := { s with selector := x }

/-- Channel use (R213). -/
def State.feedUse (s : State) (f : Nat) : Nat := s.nat 0x6800 1 f

/-! ### Readings (R199, R200) -/

/-- Gate-source voltage in mV. -/
def State.vgs (s : State) (f : Nat) : Int := rndDiv ((s.feed f).gsns * 2 * s.cfg 0x6800 8 f) 4096

/-- A sense reading: (V(pin) − zero) × gain, a full-scale code where the reading is lost (R208). -/
def senseValue (code zero gain : Int) : Int := rndDiv ((code * 2000 - zero * 4096) * gain) 4096000

/-- Drain-source voltage in mV. -/
def State.vdsMilli (s : State) (f : Nat) : Int := senseValue (s.feed f).vds (s.cfg 0x6800 4 f) (s.cfg 0x6800 5 f)

/-- Drain current in mA. -/
def State.idMilli (s : State) (f : Nat) : Int := senseValue (s.feed f).isns (s.cfg 0x6800 6 f) (s.cfg 0x6800 7 f)

/-- The chain offset of a voltage input in 1/65,536 of a code: that of the enabled string whose current input it is (R228). -/
def State.chainOffset (s : State) (v : Nat) : Int :=
  match (List.range 4).find? fun n => decide (s.cfg 0x7000 1 n = 1) && decide (s.nat 0x7000 3 n = v) with
  | some n => (bget ({} : Str) s.strings n).offset
  | none => 0

/-- The reading of a voltage input in 1/65,536 of a code, its chain offset subtracted (R228). -/
def State.voltCode (s : State) (v : Nat) : Int := (bget 0 s.volts v : Nat) * 65536 - s.chainOffset v

/-- Voltage at an input in mV: code × full scale / 16,384 (R127). -/
def State.inputMilliVolt (s : State) (v : Nat) : Int := rndDiv (s.voltCode v * s.cfg 0x7800 1 v) 1073741824

/-- The voltage at the reference input of a channel in mV. -/
def State.refMilli (s : State) (f : Nat) : Int :=
  let v := s.nat 0x6800 2 f
  if v < 48 then s.inputMilliVolt v else 0

/-- The derived voltage of the other side (R200). -/
def State.derived (s : State) (f : Nat) : Int :=
  if s.nat 0x6800 3 f = 0 then s.refMilli f - s.vdsMilli f else s.refMilli f + s.vdsMilli f

/-- Output and input voltage of a channel in mV. -/
def State.outMilli (s : State) (f : Nat) : Int := if s.nat 0x6800 3 f = 0 then s.derived f else s.refMilli f
def State.inMilli (s : State) (f : Nat) : Int := if s.nat 0x6800 3 f = 0 then s.refMilli f else s.derived f

/-- A condition and the time since which it holds. -/
def track (now : Tick) (since : Option Tick) (holds : Bool) : Option Tick :=
  if holds then (if since.isNone then some now else since) else none

/-- Power-good conditions of R204. -/
def State.goodConditions (s : State) (f : Nat) : Bool :=
  decide (s.cfg 0x6800 9 f ≤ s.vgs f) && decide (s.vdsMilli f < s.cfg 0x6800 0xB f)

/-- Every condition of a channel is judged at the present readings. -/
def State.judgeFeed (s : State) (f : Nat) : State :=
  let x := s.feed f
  let id := s.idMilli f
  let vin := s.inMilli f
  let w := s.cfg 0x6800 0x12 f
  s.setFeed f { x with
    belowOn := track s.now x.belowOn (decide (x.state = .inrush) && decide (s.vdsMilli f < s.cfg 0x6800 0xB f))
    goodCond := track s.now x.goodCond (decide (x.state = .on) && s.goodConditions f)
    belowRise := track s.now x.belowRise
      (decide (x.state = .inrush ∨ x.state = .on) && x.belowRise.isSome && decide (s.vgs f < s.cfg 0x6800 0xA f))
    belowVolt := track s.now x.belowVolt (decide (x.state = .on) && decide (x.gate = .full) && decide (s.vgs f < 1000))
    inGood := track s.now x.inGood (decide (s.cfg 0x6840 4 0 ≤ vin))
    inLow := track s.now x.inLow (decide (vin < s.cfg 0x6840 3 0))
    reverse := track s.now x.reverse (decide (x.state = .on) && decide (id < -s.cfg 0x6840 0xD 0))
    quiet := track s.now x.quiet (decide (id.natAbs ≤ w.toNat)) }

/-- A code at an end of the converter's range. -/
def codeLost (code : Nat) : Bool := decide (code = 0 ∨ 4095 ≤ code)

/-- Codes of one channel arrive; a lost reading is back once it is in range (R208). -/
def FeedCh.codes (x : FeedCh) (vds isns gsns : Nat) : FeedCh :=
  { x with
    vds := min vds 4095, isns := min isns 4095, gsns := min gsns 4095
    vdsLost := x.vdsLost && codeLost vds
    isnsLost := x.isnsLost && codeLost isns }

/-! ### String disconnects (R222, R244) -/

/-- A string counts as connected while its disconnect channel is ON or WELDED (R244). -/
def State.stringConnected (s : State) (n : Nat) : Bool :=
  let f := s.nat 0x7000 0xB n
  decide (f < 24) && decide ((s.feed f).state = .on ∨ (s.feed f).state = .welded)

/-- The strings of a BAT group: enabled and assigned to it (R222). -/
def State.stringsOf (s : State) (g : Nat) : List Nat :=
  (List.range 4).filter fun n => decide (s.cfg 0x7000 1 n = 1) && decide (s.nat 0x7000 9 n = g)

end Sys2Proof.Machine
end

