-- ==== Sys2Proof/Machine/BatteryOps.lean ====
section
/-! DEFINITION. The battery estimator's shared operations (chapter 09): tables, charge and SoC, holds and tests, and the
targets that a capacity test steps back. -/

namespace Sys2Proof.Machine

def State.str (s : State) (n : Nat) : Str := bget {} s.strings n
def State.setStr (s : State) (n : Nat) (x : Str) : State := { s with strings := bset s.strings n x }

/-- The members of a pool, in slot order (R158). -/
def State.members (s : State) (p : Nat) : List Nat :=
  ((List.range 16).map fun i => s.nat (0x2100 + p) (i + 1) 0).filter fun m => decide (m < 64)

/-! ### Tables (R225, R226, R230) -/

/-- An entry of the tables in use; the staging copy is the dictionary's. -/
def State.tableNow (s : State) (index sub : Nat) : Int :=
  match bget none (s.tables.map fun p => (p.1, some p.2)) (⟨index, sub, 0⟩ : Addr) with
  | some v => v
  | none => tableDefault s.chemClass index sub

/-- Linear interpolation along the points after `p`, clamped at the ends. -/
def lerpFrom (x : Int) : Int × Int → List (Int × Int) → Int
  | p, [] => p.2
  | p, q :: r =>
    if x ≤ p.1 then p.2
    else if x ≤ q.1 then p.2 + (q.2 - p.2) * (x - p.1) / (q.1 - p.1)
    else lerpFrom x q r

def lerp (x : Int) : List (Int × Int) → Int
  | [] => 0
  | p :: r => lerpFrom x p r

/-- Table values are interpolated with 20 fraction bits (assumption 9). -/
abbrev tableScale : Int := 1048576

/-- OCV of point p at temperature T (0.1 °C), 0.1 mV with 20 fraction bits. -/
def State.ocvAt (s : State) (p : Nat) (temp : Int) : Int :=
  lerp temp ((List.range 8).map fun i => (s.tableNow 0x7101 (i + 1), s.tableNow 0x7100 (1 + 21 * i + p) * tableScale))

/-- Effective capacity in 0.1 % with 20 fraction bits, at a rate in C/1,000 with 20 fraction bits (R225). -/
def State.effAt (s : State) (rate temp : Int) : Int :=
  lerp rate ((List.range 8).map fun r =>
    (s.tableNow 0x7103 (r + 1) * tableScale,
      lerp temp ((List.range 8).map fun i => (s.tableNow 0x7101 (i + 1), s.tableNow 0x7102 (1 + 8 * i + r) * tableScale))))

/-- The SoC in millionths that a column gives for a voltage: the lowest of a run of equal entries (R230). -/
def socFrom (v : Int) : Nat → Option Int → List Int → Int
  | _, _, [] => 1000000
  | p, prev, y :: r =>
    if v ≤ y then
      match prev with
      | none => 0
      | some y0 => 50000 * ((p : Int) - 1) + 50000 * (v - y0) / (y - y0)
    else socFrom v (p + 1) (some y) r

/-- SoC_v in millionths of a string's voltage, current and temperature (R230). -/
def State.socOf (s : State) (n : Nat) (volt amp temp : Int) : Int :=
  let cells := max 1 (bget 0 s.obj ⟨0x2011, 6, 0⟩)
  let v := (volt * 10000 - amp * s.cfg 0x7000 0xC n) * tableScale / (1000 * cells)
  socFrom v 0 none ((List.range 21).map fun p => s.ocvAt p temp)

/-- A SoC is usable at or below the low band, or at or above the high band (R224). -/
def State.usableSoc (s : State) (soc : Int) : Bool :=
  decide (soc ≤ s.cfg 0x7110 1 0 * 1000 ∨ s.cfg 0x7110 2 0 * 1000 ≤ soc)

/-! ### Charge -/

/-- Counted units in a milliampere-hour: thousandths of a mA for one PWM step. -/
abbrev mAhUnits : Int := 3600 * 25600000000 * 1000
/-- Counted units in a millicoulomb. -/
abbrev mCUnits : Int := 25600000000 * 1000

/-- Learned capacity c in mAh: C_nom until one is learned or restored (Table 09-7). -/
def State.capacity (s : State) (n : Nat) : Int :=
  match s.stored ⟨0x7030, 1, n⟩ with
  | some c => c
  | none => s.cfg 0x7000 8 n

/-- SoC by the count in millionths, 0 to 1,000,000 (R229). -/
def State.socCount (s : State) (n : Nat) : Int :=
  let c := s.capacity n * mAhUnits
  if c ≤ 0 then 0 else limitInt ((s.str n).qRem * 1000000 / c) 0 1000000

/-- The charge that a SoC stands for. -/
def State.chargeOf (s : State) (n : Nat) (soc : Int) : Int := soc * s.capacity n * mAhUnits / 1000000

/-! ### Holds and the capacity test (R237 to R240) -/

/-- The strings of a BAT group that are connected. -/
def State.connectedOf (s : State) (g : Nat) : List Nat := (s.stringsOf g).filter s.stringConnected

/-- Whether a hold or a test runs in a BAT group, and whether a test does. -/
def State.holdRuns (s : State) (g : Nat) : Bool := (s.stringsOf g).any fun n => decide ((s.str n).hold ≠ 0)
def State.testRuns (s : State) (g : Nat) : Bool := (s.stringsOf g).any fun n => decide ((s.str n).hold = 4)

/-- A hold or test begins on every string of a group. -/
def State.beginHold (s : State) (g kind : Nat) : State :=
  let ns := s.stringsOf g
  let s := ns.foldl (fun s n =>
    let x := s.str n
    s.setStr n { x with hold := kind, holdAt := s.now, topDone := if kind = 1 then true else x.topDone }) s
  s.raise { ev (if kind = 4 then 0x6503 else 0x6501) (ns.headD 0) with value := kind, second := g }

/-- A hold or test ends with a result of Table 09-5. -/
def State.endHold (s : State) (g result : Nat) : State :=
  if s.holdRuns g then
    let test := s.testRuns g
    let ns := s.stringsOf g
    let s := ns.foldl (fun s n => (s.setStr n { s.str n with hold := 0 }).put 0x7121 2 n result) s
    s.raise { ev (if test then 0x6504 else 0x6502) (ns.headD 0) with value := result, second := g }
  else s

/-- An abort where no hold or test runs (R389): it wins over a completion that has not been accepted, is late after one
that has, and is refused where none completed. -/
def State.lateAbort (s : State) (g code : Nat) : State :=
  let f : Event → Bool := fun e => decide (e.code = code ∧ e.second = g ∧ (e.value = 1 ∨ e.value = 7))
  if s.waits (.chip 7) f then
    ((s.stringsOf g).foldl (fun s n => s.put 0x7121 2 n 2) s).amend (.chip 7) f fun e => { e with value := 2 }
  else if (s.stringsOf g).any fun n => decide (s.cfg 0x7121 2 n = 1 ∨ s.cfg 0x7121 2 n = 7) then s.result 2
  else s.result 0x23

/-- A test of a group aborts for a cause to which Table 09-5 gives no code: the result is a free value. -/
def State.abortTest (s : State) (g : Nat) : State :=
  if s.testRuns g then
    let (v, s) := s.draw 8
    s.endHold g v
  else s

/-- The BAT groups that some enabled string names. -/
def State.batteryGroups (s : State) : List Nat :=
  (List.range 64).filter fun g => !(s.stringsOf g).isEmpty

/-- Mains loss at a tracker of the mask ends every hold and test (R238, R240). -/
def State.mainsLossHolds (s : State) (ph : Nat) : State :=
  if (s.nat 0x7120 9 0).testBit ph then
    s.batteryGroups.foldl (fun s g => s.endHold g 3) s
  else s

/-! ### Targets -/

/-- The target of a group that R126 and R131 follow: the stored one, less the step-back of a running capacity test
(R239). -/
def State.target (s : State) (g : Nat) : Int :=
  let j := 0x6200 + g % 4
  let t := s.cfg j 3 (g / 4)
  let p := s.nat 0x7120 8 0
  if s.roleOf (g % 4) (g / 4) = 2 ∧ p < 4 ∧ (s.members p).contains g ∧ (s.batteryGroups.any s.testRuns) then
    limitInt (t - s.cfg 0x7120 7 0) (s.cfg j 6 (g / 4)) (s.cfg j 7 (g / 4))
  else t

/-! ### State records (R236) -/

/-- The state record of a string as it stands. -/
def State.recordOf (s : State) (n : Nat) : StrRecord :=
  let x := s.str n
  { qRem := x.qRem, qAbs := x.qAbs, capacity := s.capacity n, confidence := s.cfg 0x7030 2 n, days := s.cfg 0x7030 3 n
    low := x.low, high := x.high, stale := decide (s.cfg 0x7030 4 n = 1), relearn := decide (s.cfg 0x7030 5 n = 1) }

/-- A state record of a string is written to the record area. -/
def State.writeRecord (s : State) (n : Nat) : State :=
  (s.appendRecord (.battery n (s.recordOf n))).setStr n { s.str n with recordAt := s.now }

/-- An anchor that a string reset, a table commit or a change of c has overtaken (R232). -/
def Anchor.overtaken (a : Option Anchor) : Option Anchor := a.map fun a => { a with fresh := false }

/-- Every anchor of a string is overtaken. -/
def State.overtakeAnchors (s : State) (n : Nat) : State :=
  let x := s.str n
  s.setStr n { x with low := Anchor.overtaken x.low, high := Anchor.overtaken x.high }

end Sys2Proof.Machine
end

