-- ==== Sys2Proof/Machine/Mains.lean ====
section
/-! DEFINITION. The mains trackers and the frame tracker by themselves (chapter 07): time bases, angles, positions and
the guard. -/

namespace Sys2Proof.Machine

def State.mainsT (s : State) (ph : Nat) : MainsT := bget {} s.mains ph
def State.setMains (s : State) (ph : Nat) (x : MainsT) : State := { s with mains := bset s.mains ph x }

/-- FT in µs, 48 bits (R173). -/
def State.freeTime (s : State) : Nat := (((s.now / usTicks : Nat) : Int) + s.freeBase).toNat % 2 ^ 48

/-- The timestamp of the present time (R174). -/
def State.stamp (s : State) (at? : Tick) : Nat :=
  ((((at? / usTicks : Nat) : Int) + s.freeBase).toNat % 2 ^ 48) * 65536 + at? % usTicks / cycleTicks

/-- MA of a phase at a time: stopped at 0 in ABSENT and ACQUIRE (Table 07-2). -/
def State.angleAt (s : State) (ph : Nat) (t : Tick) : Nat :=
  let x := s.mainsT ph
  if s.nat (0x2200 + ph) 1 0 < 2 then 0 else (t - x.zeroAt) * 65536 / max 1 x.period % 65536

def State.mainsAngle (s : State) (ph : Nat) : Nat := s.angleAt ph s.now

/-- The cycle of MA at a time, counted by passes through 0 (R187). -/
def State.mainsCycle (s : State) (ph : Nat) (t : Tick) : Nat :=
  let x := s.mainsT ph
  if s.nat (0x2200 + ph) 1 0 < 2 then x.cycle else x.cycle + (t - x.zeroAt) / max 1 x.period

/-- The half-cycle rms voltage of a phase in 0.1 V (R135, R178). -/
def State.vrms (s : State) (ph : Nat) : Nat := s.nat (0x2200 + ph) 4 0

/-! ### The frame tracker -/

/-- A step in units of 2⁻³² ns. -/
abbrev stepUnits : Nat := 167772160

/-- Nanoseconds in units of 2⁻³² ns. -/
def nsUnits (n : Nat) : Nat := n * 4294967296

/-- Learned period in 2⁻³² ns (0x2210.03). -/
def State.framePeriod (s : State) : Nat := max 1 (s.nat 0x2210 3 0)

/-- FP at a time: it runs in LOCKED, HOLDOVER and STEP (R181). -/
def State.positionAt (s : State) (t : Tick) : Nat :=
  if s.nat 0x2210 1 0 < 2 then 0
  else (s.frame.alignFp + (t - s.frame.alignAt) * stepUnits * 65536 / s.framePeriod) % 65536

/-- The frame of FP at a time, counted by passes through 0 (R187). -/
def State.frameCycle (s : State) (t : Tick) : Nat :=
  if s.nat 0x2210 1 0 < 2 then s.frame.cycle
  else s.frame.cycle + (s.frame.alignFp + (t - s.frame.alignAt) * stepUnits * 65536 / s.framePeriod) / 65536

/-- The forecast guard g in 2⁻³² ns (R185). -/
def State.guardUnits (s : State) : Nat :=
  nsUnits s.frame.guard0 + s.frame.stab * ((s.now - s.frame.lastStrobe) * stepUnits) / 65536000000000

/-- Whether g exceeds 1/32 of the learned period. -/
def State.guardBeyond (s : State) : Bool := decide (s.framePeriod < 32 * s.guardUnits)

/-- The deviation of a time from the nearest predicted strobe, in 2⁻³² ns. -/
def State.strobeDeviation (s : State) (t : Tick) : Nat :=
  let d := (t - s.frame.alignAt) * stepUnits
  let r := d % s.framePeriod
  min r (s.framePeriod - r)

/-- Whether forecasts may run (R196). -/
def State.forecastsAble (s : State) : Bool :=
  decide (s.cfg 0x2230 5 0 = 1) && decide (2 ≤ s.nat 0x2210 1 0) && !s.guardBeyond && !s.frame.suspended &&
    !s.frame.discarded

/-- 0x2210.0D. -/
def State.forecastCode (s : State) : Nat :=
  if s.cfg 0x2230 7 0 ≠ 1 then 0
  else if s.cfg 0x2230 5 0 ≠ 1 then 4
  else if s.frame.discarded then 3
  else if s.frame.suspended || s.guardBeyond then 2
  else 1

end Sys2Proof.Machine
end

