-- ==== Sys2Proof/Machine/FeedOps.lean ====
section
/-! DEFINITION. A feed channel by itself (chapter 08): its transitions and thermal model, its commands, and the rules of the
input selector. -/

namespace Sys2Proof.Machine

/-! ### Transitions (Table 08-2) -/

/-- A string's disconnect has left ON: its state record is written, and a test of its group aborts (R236, R240). -/
def State.stringDropped (s : State) (n : Nat) : State := (s.abortTest (s.nat 0x7000 9 n)).writeRecord n

/-- A channel changes state: the timers of its conditions start anew, power-good goes on leaving ON (R204), and a string
whose disconnect it is may be connected no longer. -/
def State.toFeed (s : State) (f : Nat) (st : FeedState) (g : GateDrive) : State :=
  let x := s.feed f
  let ns := (List.range 4).filter fun n =>
    decide (s.cfg 0x7000 1 n = 1) && decide (s.nat 0x7000 0xB n = f) && s.stringConnected n
  let s := s.setFeed f { x with
    state := st, gate := g, entered := s.now, belowOn := none, goodCond := none, belowVolt := none
    belowRise := if st = .on then x.belowRise else none
    reverse := none
    freedAt := if x.state = .latched ∨ x.state = .welded then s.now else x.freedAt
    powerGood := if st = .on then x.powerGood else false
    goodSince := if st = .on then x.goodSince else none }
  (ns.filter fun n => !s.stringConnected n).foldl State.stringDropped s

/-- INRUSH begins (R206): a ramp, or the selector's step (R217). -/
def State.feedInrush (s : State) (f : Nat) (g : GateDrive) : State :=
  let s := s.toFeed f .inrush g
  s.setFeed f { s.feed f with
    weldFrom := none, belowRise := if s.vgs f < s.cfg 0x6800 0xA f then some s.now else none }

/-- An off command of any source (R203, R209): the welded test starts, or starts again. -/
def State.feedOff (s : State) (f : Nat) : State :=
  let x := s.feed f
  match x.state with
  | .latched | .welded => s
  | _ =>
    let s := if x.state = .off then s else s.toFeed f .off .zero
    s.setFeed f { s.feed f with weldFrom := some s.now, weldCurrent := (s.idMilli f).natAbs }

/-- A trip: counted, its cause kept (Table 08-5). -/
def State.feedTrip (s : State) (f code : Nat) (st : FeedState) (value limit : Int) : State :=
  let code' := (s.feed f).state
  let s := (s.bump 0x6820 9 f).put 0x6820 0xA f code
  let s := s.toFeed f st .zero
  s.raise { ev code f with
    value := value, limit := limit
    stateCode := match code' with
      | .off => 0 | .inrush => 1 | .on => 2 | .cooldown => 3 | .latched => 4 | .welded => 5 }

/-- Retries are left (R205). -/
def State.retriesLeft (s : State) (f : Nat) : Bool := decide ((s.feed f).retries < s.nat 0x6800 0x14 f)

/-- Ambient of the model in µK above 0 °C: the named input's effective temperature, else the fixed value (R208). -/
def State.ambient (s : State) (f : Nat) : Int :=
  let t := s.nat 0x6810 1 f
  let st := s.nat 0x2411 3 t
  if t < 48 ∧ st ≠ 2 ∧ st ≠ 3 ∧ s.cfg 0x2411 1 t ≠ 0x7FFF then s.cfg 0x2411 1 t * 100000
  else s.cfg 0x6810 2 f * 100000

/-- Dissipation in mW; a lost reading counts at its full-scale value (R208). -/
def State.dissipation (s : State) (f : Nat) : Int :=
  let x := s.feed f
  let v := if x.vdsLost then senseValue 4095 (s.cfg 0x6800 4 f) (s.cfg 0x6800 5 f) else s.vdsMilli f
  let i := if x.isnsLost then senseValue 4095 (s.cfg 0x6800 6 f) (s.cfg 0x6800 7 f) else s.idMilli f
  ((v * i).natAbs / 1000 : Nat)

/-- One pole of the model: dT + (p·R − dT)·a. -/
def State.pole (s : State) (f i : Nat) (p dT : Int) : Int :=
  dT + (p * s.cfg 0x6810 (3 + i) f - dT) * lowPass 10 (s.nat 0x6810 (7 + i) f) / fxOne

/-- One update of the Foster model (R208), every 10 µs. -/
def State.modelStep (s : State) (f : Nat) : State :=
  let x := s.feed f
  let p := s.dissipation f
  let d1 := s.pole f 0 p x.dT1
  let d2 := s.pole f 1 p x.dT2
  let d3 := s.pole f 2 p x.dT3
  let d4 := s.pole f 3 p x.dT4
  s.setFeed f { x with dT1 := d1, dT2 := d2, dT3 := d3, dT4 := d4, tj := s.ambient f + d1 + d2 + d3 + d4 }

/-- The model preset of a chip start: each pole as after a long run at the present dissipation (R208). -/
def State.modelPreset (s : State) (f : Nat) : State :=
  let x := s.feed f
  let p := s.dissipation f
  let d i := p * s.cfg 0x6810 (3 + i) f
  s.setFeed f { x with dT1 := d 0, dT2 := d 1, dT3 := d 2, dT4 := d 3, tj := s.ambient f + d 0 + d 1 + d 2 + d 3 }

/-! ### The input selector (R216 to R219) -/

/-- The channel of input feed A (0) or B (1), found by its use (R213). -/
def State.inputFeed (s : State) (x : Nat) : Option Nat :=
  (List.range 24).find? fun f => decide (s.feedUse f = 2 + x)

def State.selectorOn (s : State) : Bool := decide (s.cfg 0x6840 1 0 = 1)

/-- A feed is good (R216). -/
def State.feedGood (s : State) (x : Nat) : Bool :=
  match s.inputFeed x with
  | some f =>
    let c := s.feed f
    s.since c.inGood (s.nat 0x6840 6 0 * msTicks) && decide (c.state ≠ .latched) && decide (c.state ≠ .welded)
  | none => false

/-- A feed is confirmed off (R216). A feed that no channel has is off. -/
def State.confirmedOff (s : State) (x : Nat) : Bool :=
  match s.inputFeed x with
  | some f =>
    let c := s.feed f
    decide (c.gate = .zero) && decide (c.state ≠ .welded) && decide (s.vgs f < 1000) &&
      (s.since c.quiet (2 * usTicks) ||
        (decide (s.vdsMilli f < -1000) && decide (-s.cfg 0x6800 0x12 f ≤ s.idMilli f)))
  | none => true

/-- Whether a channel conducts or is about to. -/
def State.feedClosed (s : State) (x : Nat) : Bool :=
  match s.inputFeed x with
  | some f => decide ((s.feed f).state = .inrush ∨ (s.feed f).state = .on)
  | none => false

/-- The feed that rule 3 closes: the forced feed if it is good, else the preferred, else the other (R217, R218). -/
def State.wantedFeed (s : State) : Option Nat :=
  let pref := s.nat 0x6840 2 0
  let forced := s.selector.force
  if 1 ≤ forced ∧ s.feedGood (forced - 1) then some (forced - 1)
  else if s.feedGood pref then some pref
  else if s.feedGood (1 - pref) then some (1 - pref)
  else none

/-- Rule 3 (R217): with both feeds confirmed off, a good feed is closed, or 0x5402 is raised once. -/
def State.selectFeed (s : State) : State :=
  if s.confirmedOff 0 && s.confirmedOff 1 && !s.feedClosed 0 && !s.feedClosed 1 then
    match s.wantedFeed with
    | some x =>
      match s.inputFeed x with
      | some f =>
        let s := s.feedInrush f .step
        s.setSelector { s.selector with closed := some x, opened := none, noneGood := false, blocked := false }
      | none => s
    | none =>
      let s := if s.selector.noneGood then s else s.raise { ev 0x5402 0 with stateCode := 4 }
      let force := match s.selector.pendingForce with
        | some v => v
        | none => s.selector.force
      s.setSelector { s.selector with
        closed := none, opened := none, noneGood := true, transfer := none, force := force, pendingForce := none }
  else s

/-- The selector opens a feed, which begins a transfer (R217, R218). -/
def State.openFeed (s : State) (x : Nat) : State :=
  match s.inputFeed x with
  | some f =>
    let s := s.feedOff f
    s.setSelector {
      s.selector with
      closed := none, opened := some (x, s.now), transfer := some s.now, timed := false, blocked := false }
  | none => s

/-- A selector that finds a feed closed, by adoption (R214), keeps it, the preferred one of two, and commands the other off
(R216). -/
def State.keepClosed (s : State) : State :=
  let pref := s.nat 0x6840 2 0
  if s.selectorOn && s.selector.transfer.isNone && s.selector.closed.isNone then
    match [pref, 1 - pref].filter s.feedClosed with
    | x :: rest =>
      let s := rest.foldl (fun s y =>
        match s.inputFeed y with
        | some f => s.feedOff f
        | none => s) s
      s.setSelector { s.selector with closed := some x, opened := none, noneGood := false, blocked := false }
    | [] => s
  else s

/-- The selector of a feed set that it has not seen yet, at its enabling or at a cold takeover: it keeps a closed feed, or
applies rule 3 (R216, R217). -/
def State.startSelector (s : State) : State :=
  let s := (s.setSelector { s.selector with closed := none, opened := none, transfer := none, timed := false, blocked := false }).keepClosed
  if s.selectorOn && s.selector.closed.isNone then s.selectFeed else s

/-- The selector moves to the other feed where a force or the automatic rule asks for it and it is good (R218). -/
def State.moveSelector (s : State) : State :=
  let sel := s.selector
  if sel.transfer.isSome then s
  else
    match sel.closed with
    | some x => if 1 ≤ sel.force ∧ sel.force - 1 ≠ x ∧ s.feedGood (sel.force - 1) then s.openFeed x else s
    | none => s.selectFeed

/-- The feed being closed has come to ON: the transfer ends, and a force received meanwhile applies (R218). -/
def State.endTransfer (s : State) (f : Nat) : State :=
  let sel := s.selector
  match sel.closed with
  | some x =>
    if s.inputFeed x = some f then
      let s := if sel.transfer.isSome then s.bump 0x6840 0xA 0 else s
      let s := s.setSelector { sel with
        transfer := none, pendingForce := none
        force := match sel.pendingForce with
          | some v => v
          | none => sel.force }
      s.moveSelector
    else s
  | none => s

/-- Selector state of 0x6840.09. -/
def State.selectorCode (s : State) : Nat :=
  let sel := s.selector
  if !s.selectorOn then 0
  else if sel.transfer.isSome then 3
  else
    match sel.closed with
    | some x => if 1 ≤ sel.force ∧ sel.force - 1 ≠ x then 5 else x + 1
    | none => 4

/-- A force command (R218): 1 A, 2 B, 3 automatic; during a transfer it waits for its end. -/
def State.forceSelect (s : State) (v : Nat) : State :=
  let v := if v = 3 then 0 else v
  if s.selector.transfer.isSome then s.setSelector { s.selector with pendingForce := some v }
  else
    let s := s.setSelector { s.selector with force := v }
    if s.selectorOn then s.moveSelector else s

/-! ### Commands of a channel (R212, R213) -/

/-- The configuration obeys R207: inrush limit below ON limit below short-circuit threshold. -/
def State.limitsOrdered (s : State) (f : Nat) : Bool :=
  decide (s.cfg 0x6800 0xC f < s.cfg 0x6800 0xD f ∧ s.cfg 0x6800 0xD f < s.cfg 0x6800 0xE f)

/-- The result of an on or off command (R212): the first refusal of the table that applies. -/
def State.channelResult (s : State) (f : Nat) (on : Bool) : Nat :=
  let use := s.feedUse f
  let x := s.feed f
  if x.state = .latched ∨ x.state = .welded then 1
  else if on ∧ x.state = .cooldown then 2
  else if use = 2 ∨ use = 3 ∨ use = 4 then 3
  else if use = 0 ∨ !s.limitsOrdered f then 4
  else 0

/-- An on or off command judged against the channel's present state, and its effect (R212). -/
def State.judgeCommand (s : State) (f : Nat) (on : Bool) : State :=
  let r := s.channelResult f on
  let s := (s.put 0x6830 2 f r).result (if r = 0 then 0 else 0x23)
  if r = 0 then
    if on then (if (s.feed f).state = .off then s.feedInrush f .ramp else s) else s.feedOff f
  else s

/-- An on or off command of a channel from its commands, a step or a move (R212): the channel as it was stays known, for a
trip of the same SYS cycle. -/
def State.channelCommand (s : State) (f : Nat) (on : Bool) : State :=
  { s.judgeCommand f on with feedMarks := bset s.feedMarks f (some { time := s.now, on := on, before := s.feed f }) }

/-- The channel of a mark at its latest codes and temperatures. -/
def FeedMark.restored (m : FeedMark) (x : FeedCh) : FeedCh :=
  { m.before with
    gsns := x.gsns, vds := x.vds, isns := x.isns, dT1 := x.dT1, dT2 := x.dT2, dT3 := x.dT3, dT4 := x.dT4, tj := x.tj
    vdsLost := x.vdsLost, isnsLost := x.isnsLost, inGood := x.inGood, inLow := x.inLow, quiet := x.quiet }

/-- A trip and a command that reach a channel in one SYS cycle give the trip, and the command is judged against the state
that the trip left (R212). `trip` acts on the channel as it was before such a command; where it finds no trip there, it acts
on the channel as it is. -/
def State.tripFirst (s : State) (f : Nat) (trip : State → State) : State :=
  match bget none s.feedMarks f with
  | some m =>
    if m.time / cycleTicks = s.now / cycleTicks then
      let u := s.setFeed f (m.restored (s.feed f))
      let v := trip u
      if (v.feed f).state = m.before.state then trip s
      else ({ v with feedMarks := bset v.feedMarks f none }).judgeCommand f m.on
    else trip s
  | none => trip s

/-- The string disconnects that a BAT start needs are on: of the enabled strings not in state 2 (R244). -/
def State.disconnectsOn (s : State) (g : Nat) : Bool :=
  (s.stringsOf g).all fun n => (bget {} s.strings n).lowDisconnected || s.stringConnected n

/-- Whether the estimator permits BRIDGE_HOLD of a relay (R245). -/
def State.relayPermitted (s : State) (r : Nat) : Bool :=
  !((s.nat 0x2011 9 0).testBit 5) &&
    (List.range 4).any fun n =>
      decide (s.cfg 0x7000 1 n = 1) && decide (s.nat 0x7000 0xA n = r) && decide (s.cfg 0x7010 0xA n = 1)

end Sys2Proof.Machine
end

