-- ==== Sys2Proof/Machine/Samples.lean ====
section
/-! DEFINITION. What a converted value of an input leaves (R335): the latest code of the input, and the conditions that are
judged at it. -/

namespace Sys2Proof.Machine

/-- The channels whose reference input is a voltage input are judged. -/
def State.judgeFeedsOf (s : State) (v : Nat) : State :=
  ((List.range 24).filter fun f => decide (s.nat 0x6800 2 f = v)).foldl State.judgeFeed s

/-- A VDS code alone, and an ISNS code alone. -/
def FeedCh.vdsCode (x : FeedCh) (code : Nat) : FeedCh :=
  { x.codes code x.isns x.gsns with isnsLost := x.isnsLost }
def FeedCh.isnsCode (x : FeedCh) (code : Nat) : FeedCh :=
  { x.codes x.vds code x.gsns with vdsLost := x.vdsLost }

/-- A converted value becomes the latest of its input; the code of a line sample is clipped to full scale (R178). A conversion of a
cell, of a temperature input or of a driver supply acts with the command that samples it. -/
def State.applySample (s : State) : Sample → State
  | .volt v code => State.judgeFeedsOf { s with volts := bset s.volts v.val (min code 16383) } v
  | .gsns f code => (s.setFeed f { s.feed f with gsns := min code 4095 }).judgeFeed f
  | .vds f code => (s.setFeed f ((s.feed f).vdsCode code)).judgeFeed f
  | .isns f code => (s.setFeed f ((s.feed f).isnsCode code)).judgeFeed f
  | .acs ph code => { s with acs := bset s.acs ph.val (limitInt code (-2048) 2047) }
  | .pg n high =>
    let x := s.seq n
    if x.pgHigh = high then s else s.setSeq n { x with pgHigh := high, pgSince := s.now }
  | .drvflt b high =>
    let x := s.driver b
    s.setDriver b { x with reported := x.reported && !high }
  | .cellAdc _ _ => s
  | .tin _ _ => s
  | .vdrv _ _ => s
  | .tck => { s with run := { s.run with tckAt := some s.now } }

def State.applySamples (s : State) (l : List Sample) : State := l.foldl State.applySample s

end Sys2Proof.Machine
end

