-- ==== Sys2Proof/Machine/CellOps.lean ====
section
/-! DEFINITION. What a switching cell does inside a period, in pure operations on its state: groups and units of
cells, the threshold, the edges, the stops and the ripple detector. The commands that call them stand in
Machine/Cells.lean. -/

namespace Sys2Proof.Machine

/-! ### Groups, units and the values a cell reads -/

/-- Whether an even block is joined with the next (R31). -/
def State.doubles (s : State) (b : Nat) : Bool := decide (b % 2 = 0) && decide (s.cfg 0x6000 3 b = 1)

/-- The block that holds the group objects of a block: the lower block of a doubles pair (R167). -/
def State.slotBlock (s : State) (b : Nat) : Nat := if s.doubles (b - b % 2) then b - b % 2 else b

/-- The cell mask of a group (R30). -/
def State.mask (s : State) (g : Nat) : Nat := s.nat (0x6000 + g % 4) 1 (g / 4)

/-- Role in force of a group. -/
def State.role (s : State) (g : Nat) : Nat := s.roleOf (g % 4) (g / 4)

/-- The cells of a group in ascending order; a doubles group has the sixteen cells of both blocks (R31). -/
def State.groupCells (s : State) (g : Nat) : List Nat :=
  let b := g / 4
  if g % 4 = 0 ∧ s.doubles b then (List.range 16).map (8 * b + ·)
  else ((List.range 8).filter fun m => (s.mask g).testBit m).map (8 * b + ·)

/-- The group a cell belongs to, if any (R29). -/
def State.cellGroup (s : State) (c : Nat) : Option Nat :=
  let b := s.slotBlock (c / 8)
  ((List.range 4).map (4 * b + ·)).find? fun g => (s.groupCells g).contains c

/-- The pairs of an ascending list. -/
def pairUp : List Nat → List (List Nat)
  | a :: b :: r => [a, b] :: pairUp r
  | [a] => [[a]]
  | [] => []

/-- The units of a group in order (R145). -/
def State.units (s : State) (g : Nat) : List (List Nat) :=
  let cs := s.groupCells g
  if s.role g = 2 then pairUp cs
  else if g % 4 = 0 ∧ s.doubles (g / 4) then
    (List.range 8).flatMap fun i => [[8 * (g / 4) + i], [8 * (g / 4) + 8 + i]]
  else cs.map fun c => [c]

/-- The unit of a group that holds a cell. -/
def State.unitOf (s : State) (g c : Nat) : List Nat := ((s.units g).find? fun u => u.contains c).getD [c]

/-- Zero code of a cell (R61). -/
def State.zero (s : State) (c : Nat) : Int := s.cfg 0x5011 2 c

/-- The cell uses VALLEY polarity: what 0x5012.01 holds, and for a BAT group the direction (R56, R139). -/
def State.valley (s : State) (c : Nat) (x : Cell) : Bool :=
  match s.cellGroup c with
  | some g => if s.role g = 3 then x.discharge else decide (s.cfg 0x5012 1 c = 1)
  | none => decide (s.cfg 0x5012 1 c = 1)

/-- Weight of a unit in quarters (Table 06-1). -/
def Ramp.quarters : Ramp → Int
  | .none => 4
  | .shed 1 => 3
  | .shed 2 => 2
  | .shed 3 => 1
  | .shed 0 => 4
  | .shed _ => 0
  | .add 1 => 1
  | .add 2 => 2
  | .add 3 => 3
  | .add _ => 4
  | .loadStepAdd 1 => 2
  | .loadStepAdd _ => 4
  | .reversed q => q

/-- Share limit L of a group at a throttle factor, rounded down (R148). -/
def State.shareLimit (s : State) (g throttle : Nat) : Int := s.cfg (0x6300 + g % 4) 0xC (g / 4) * throttle / 65536

/-- Trim in force of a cell: within the group's trim limit (R149). -/
def State.trim (s : State) (c : Nat) : Int :=
  match s.cellGroup c with
  | some g =>
    let l := s.cfg (0x6300 + g % 4) 0xD (g / 4)
    limitInt (s.cell c).trim (-l) l
  | none => (s.cell c).trim

/-- The code that the threshold uses: the base, limited to the share limit, weighted, limited in the start
periods, and scaled by the stop ramp, in this order (R148, R82, R84). -/
def State.shaped (s : State) (c : Nat) (x : Cell) : Int :=
  let zero := s.zero c
  let d := (x.base : Int) - zero
  let active := x.state = .start ∨ x.state = .run ∨ x.state = .stop
  let d := match s.cellGroup c with
    | some _ => if active then limitInt d (-x.share) x.share else d
    | none => d
  let d := if x.state = .start ∨ x.state = .run then (d * x.ramp.quarters).tdiv 4 else d
  let d := if x.state = .start ∨ (x.state = .stop ∧ x.stopPeriod = 0 ∧ x.startLeft ≠ 0) then limitInt d (-s.cfg 0x5015 2 c) (s.cfg 0x5015 2 c) else d
  let d := if x.state = .stop ∧ 1 ≤ x.stopPeriod ∧ x.stopPeriod ≤ 3 then rndDiv (d * (4 - x.stopPeriod : Int)) 4 else d
  limitInt (zero + d) 0 4095

/-- Codes of the slope ramp at the present time (R69): the accumulator advances every SYS cycle by 2.5·m, counted from the
start of the interval (assumption 166). -/
def State.rampCodes (s : State) (c : Nat) (x : Cell) : Int :=
  let cycles : Int := ((s.now - x.intervalStart) / cycleTicks : Nat)
  min 4095 (5 * s.cfg 0x5013 8 c * cycles / 131072)

/-- The threshold for a code (R64). -/
def State.threshold (s : State) (c : Nat) (x : Cell) (cmd : Int) : Int :=
  if s.valley c x then limitInt (cmd + s.rampCodes c x) 0 4095 else limitInt (cmd - s.rampCodes c x) 0 4095

/-- Whether a sensed code is beyond the threshold; while a change settles (40 ns), beyond any value between the old and
the new one is enough (R65). -/
def State.beyond (s : State) (c : Nat) (x : Cell) (code : Nat) : Bool :=
  let new := s.threshold c x (s.shaped c x)
  let old := if s.now < x.changedAt + nsTicks 40 then s.threshold c x x.oldCmd else new
  if s.valley c x then decide ((code : Int) < max new old) else decide (min new old < (code : Int))

/-- Blanking of a code (R66, R74): 20 + 10 × code ns. -/
def blankTicks (code : Nat) : Nat := nsTicks (20 + 10 * code)

/-- Whether peak blanking is over (R66). -/
def State.peakBlankingOver (s : State) (c : Nat) (x : Cell) : Bool :=
  decide (x.intervalStart + blankTicks (s.nat 0x5012 2 c) ≤ s.now)

/-- Whether a time lies outside every blanking interval of a length that starts at one of the given times (R76). -/
def clearOf (starts : List Tick) (blank : Nat) (t : Tick) : Bool := starts.all fun a => decide (a + blank ≤ t ∨ t < a)

/-- The 12-bit code of the voltage in nV at the current sense input of a cell, by its sense mode (R60): 122.0703125 µV a code
around 2048, or 610.3515625 µV a code; a voltage between two codes gives the lower (assumption 163). -/
def State.senseCode (s : State) (c : Nat) (nanoVolt : Int) : Nat :=
  (limitInt (if s.nat 0x5011 1 c = 1 then nanoVolt * 128 / 78125000 else 2048 + nanoVolt * 128 / 15625000) 0 4095).toNat

/-- Whether a time lies outside the ceiling blanking that counts from two rises (R74). -/
def ceilingOpen (blank : Nat) (riseA riseB : Option Tick) (t : Tick) : Bool :=
  let open1 (r : Option Tick) := match r with
    | none => true
    | some a => decide (a + blank ≤ t ∨ t < a)
  open1 riseA && open1 riseB

/-! ### Edges -/

/-- A new base code from the block; the threshold settles from the old one (R64, R65). -/
def State.deliverCode (s : State) (c : Nat) (code : Int) : State :=
  let x := s.cell c
  s.setCell c { x with base := (limitInt code 0 4095).toNat, oldCmd := (s.shaped c x).toNat, changedAt := s.now }

/-- A fall of an output; a rise of it that still waits makes no pulse (R58). -/
def Cell.fall (x : Cell) (n : Net) (t : Tick) : Cell :=
  match n with
  | .a => if x.levelA then { x with levelA := false, fallA := some t, waitA := .none } else { x with waitA := .none }
  | .b => if x.levelB then { x with levelB := false, fallB := some t, waitB := .none } else { x with waitB := .none }

/-- The fall from which a mode counts the rise of the other output (Table 03-1): an output already low counts as falling. -/
def Cell.programFall (x : Cell) (n : Net) (t : Tick) : Cell :=
  match n with
  | .a => { x.fall .a t with fallA := some t }
  | .b => { x.fall .b t with fallB := some t }

/-- The output whose high time is the comparator-ended interval rises, so the interval starts (R55). -/
def Cell.startInterval (x : Cell) (t : Tick) : Cell :=
  { x with interval := true, intervalStart := t, maxEnd := none, intervals := (t :: x.intervals).take 8 }

/-- Whether the rise of an output starts the interval: PWMA in SINGLE, COMP and INDEP, PWMB in COMP with VALLEY. -/
def bearsInterval (mode : Nat) (valley : Bool) (n : Net) : Bool :=
  match n with
  | .a => decide (mode = 0 ∨ mode = 2) || (decide (mode = 1) && !valley)
  | .b => decide (mode = 1) && valley

/-- An output goes high. -/
def Cell.goHigh (x : Cell) (n : Net) (t : Tick) : Cell :=
  match n with
  | .a => { x with levelA := true, riseA := some t, waitA := .none, switched := true, rises := (t :: x.rises).take 8 }
  | .b => { x with levelB := true, riseB := some t, waitB := .none, switched := true, rises := (t :: x.rises).take 8 }

/-- A rise of an output, with the interval that it starts. -/
def Cell.raiseNet (x : Cell) (mode : Nat) (valley : Bool) (n : Net) (t : Tick) : Cell :=
  let x := x.goHigh n t
  if bearsInterval mode valley n then x.startInterval t else x

/-- Whether an output may rise: the other is low and its own dead time has passed since the other fell (R58). -/
def Cell.mayRise (x : Cell) (n : Net) (dta dtb : Nat) (t : Tick) : Bool :=
  match n with
  | .a => !x.levelB && (match x.fallB with | none => true | some f => decide (f + dta ≤ t))
  | .b => !x.levelA && (match x.fallA with | none => true | some f => decide (f + dtb ≤ t))

/-- A programmed rise: at once where R58 allows it, else it waits. `own` says that the mode programs the rise a dead
time after the other output falls, so that waiting for it is no overlap delay. -/
def State.programRise (s : State) (c : Nat) (n : Net) (own : Bool) (x : Cell) : State × Cell :=
  let mode := s.nat 0x5010 1 c
  let high := match n with
    | .a => x.levelA
    | .b => x.levelB
  if x.ceilingForced || high then (s, x)
  else if x.mayRise n (s.nat 0x5010 4 c) (s.nat 0x5010 5 c) s.now then
    (s, x.raiseNet mode (s.valley c x) n s.now)
  else
    let w : Rise := if own then .programmed else .delayed
    let x := match n with
      | .a => { x with waitA := w }
      | .b => { x with waitB := w }
    (if own then s else s.bump 0x5003 4 c, x)

/-- The comparator-ended interval ends: at a trip, or at the maximum on-time (R55, R59). -/
def State.endInterval (s : State) (c : Nat) (x : Cell) : State × Cell :=
  let x := { x with interval := false }
  match s.nat 0x5010 1 c with
  | 1 =>
    if s.valley c x then s.programRise c .a true (x.programFall .b s.now)
    else s.programRise c .b true (x.programFall .a s.now)
  | 4 =>
    if x.secondHalf then s.programRise c .b true (x.programFall .a s.now)
    else s.programRise c .a true (x.programFall .b s.now)
  | _ => (s, x.fall .a s.now)

/-! ### Stops -/

/-- Both outputs low and nothing pending; the period counter stops. -/
def Cell.rest (x : Cell) (now : Tick) (state : CellState) : Cell :=
  let x := (x.fall .a now).fall .b now
  { x with
    state := state, waitA := .none, waitB := .none, interval := false, ceilingForced := false, stopPeriod := 0,
    parkRequest := false, addRequest := false, ramp := .none, overRange := 0, checkPassed := false, firstPeriod := true,
    limitedSince := none, tookAt := none, maxEnd := none
    sums := if state = .hold then x.sums else {}
    points := if state = .hold then x.points else []
    runSteps := match x.runSince with
      | some r => x.runSteps + (now - r)
      | none => x.runSteps
    runSince := none }

/-- The state in which a stop ends: FAULT if the fault state is set, else IDLE (R81, R85). -/
def State.restState (s : State) (c : Nat) : CellState := if s.inFault (.cell c) then .fault else .idle

/-- The cells that a stop of a cell reaches: both cells of an ISO unit (R145). -/
def State.stopSet (s : State) (c : Nat) : List Nat :=
  match s.cellGroup c with
  | some g => if s.role g = 2 then s.unitOf g c else [c]
  | none => [c]

/-- An immediate stop request to one cell (Table 03-4, which has no way from IDLE to FAULT; assumption 164). -/
def State.cellImmediate (s : State) (c : Nat) : State :=
  let x := s.cell c
  match x.state with
  | .start | .run | .hold | .stop => s.setCell c (x.rest s.now (s.restState c))
  | .idle | .fault => s

/-- The first instant of a schedule at or after a time: reference + offset + n periods (R146). -/
def scheduleFrom (reference offset period t : Nat) : Nat :=
  let o := reference + offset
  if t ≤ o then o else o + ((t - o + period - 1) / period) * period

/-- The offset check is over: the cell's periods run on its schedule, from the group's reference (R82, R146). -/
def State.joinSchedule (s : State) (c : Nat) (x : Cell) : Cell :=
  let reference := match s.cellGroup c with
    | some g => (s.group g).reference.getD x.startAt
    | none => x.startAt
  let p := s.nat 0x5010 2 c
  let o := s.nat 0x5010 3 c
  { x with period := p, offset := o, nextStart := scheduleFrom reference o p s.now }

/-- A park or an add that a period start of this SYS cycle has taken, which an orderly stop of the cycle goes before (R85). -/
def Cell.tookNow (x : Cell) (now : Tick) : Bool :=
  match x.tookAt with
  | some a => decide (a / cycleTicks = now / cycleTicks)
  | none => false

/-- An orderly stop request to one cell (Table 03-4, R83, R85). A stop in the start periods leaves the start limit on the period
that runs; a stop before the offset check has passed joins the schedule and makes no edge. A cell that took an add in this
SYS cycle stops as from HOLD, one that took a park as from RUN. -/
def State.cellOrderly (s : State) (c : Nat) : State :=
  let x := s.cell c
  let stop := { x with state := .stop, stopPeriod := 0, parkRequest := false, addRequest := false, ramp := .none, tookAt := none }
  match x.state with
  | .start => s.setCell c (if x.checkPassed then { stop with startLeft := 1 } else { s.joinSchedule c stop with startLeft := 1 })
  | .run =>
    if x.tookNow s.now then s.setCell c (x.rest s.now (s.restState c))
    else s.setCell c { stop with startLeft := 0, checkPassed := true }
  | .hold =>
    if x.tookNow s.now then s.setCell c { stop with startLeft := 0, checkPassed := true }
    else s.setCell c (x.rest s.now (s.restState c))
  | _ => s

/-- A start request to one cell (R82): the offset check begins; the cell's schedule follows the group's reference. -/
def State.cellStart (s : State) (c : Nat) : State :=
  let x := s.cell c
  if x.state = .idle then
    s.setCell c { x with
      state := .start, startAt := s.now, checkCount := 0, checkSum := 0, checkPassed := false
      startLeft := s.nat 0x5015 1 c, nextStart := s.now + nsTicks 800, firstPeriod := true, runSince := some s.now
      ramp := .none, stopPeriod := 0, overRange := 0 }
  else s

/-! ### The end of a period -/

/-- The ripple result of a period whose conversions are all in (R76, R77). The mean of the last results is that of those there
are, cut to a whole code; a period outside RUN, and a skipped one, count for neither run of R77 (assumption 165). -/
def State.rippleEnd (s : State) (c : Nat) (p : PeriodSum) : State :=
  let x := s.cell c
  if p.switched ∧ 2 ≤ p.rippleCount then
    let r := p.rippleMax - p.rippleMin
    let last := (r :: x.ripples).take 16
    let s := (s.put 0x5014 1 c r).put 0x5014 2 c ((last.foldl (· + ·) 0 / last.length : Nat) : Int)
    let x := { x with ripples := last }
    if p.ran ∧ !p.skipped then
      if r < s.nat 0x5014 3 c then
        let x := { x with ripplesBelow := x.ripplesBelow + 1, ripplesAbove := 0 }
        if !x.noRipple ∧ s.nat 0x5014 4 c ≤ x.ripplesBelow then
          (s.setCell c { x with noRipple := true }).raise { ev 0x1204 c with value := r, limit := s.cfg 0x5014 3 c, stateCode := 2 }
        else s.setCell c x
      else
        let x := { x with ripplesBelow := 0, ripplesAbove := x.ripplesAbove + 1 }
        s.setCell c (if x.noRipple ∧ 8 ≤ x.ripplesAbove then { x with noRipple := false } else x)
    else s.setCell c x
  else s

/-- The period that runs ends; conversions of it may still come (R62). -/
def Cell.closePeriod (x : Cell) (at0 : Tick) : Cell :=
  { x with
    sums := { start := at0 }
    ended := if x.sums.start = 0 then none
      else some { x.sums with
        switched := x.switched, skipped := x.skipped, ran := decide (x.state = .run) } }

/-- A slope source in Q16.16 volts (R71), `none` while it reads out of range. -/
def State.slopeSource (s : State) (src : Nat) : Option Int :=
  if src < 48 then
    let code := bget 0 s.volts src
    if 16383 ≤ code then none else some (s.voltCode src * s.cfg 0x7800 1 src / 16384000)
  else if 0x40 ≤ src ∧ src ≤ 0x42 then
    let v := (bget 0 s.acs (src - 0x40)).natAbs
    if 2047 ≤ v then none else some (((v * s.nat (0x2200 + (src - 0x40)) 7 0 * 65536 : Nat) : Int) / 20480)
  else some 0

/-- The slope of the period that starts (R70, R72, R139). -/
def State.slopeStart (s : State) (c : Nat) (x : Cell) : State × Cell :=
  match s.nat 0x5013 1 c with
  | 1 => (s.put 0x5013 8 c (s.cfg 0x5013 2 c), { x with slopeLost := false })
  | 2 =>
    match s.slopeSource (s.nat 0x5013 4 c), s.slopeSource (s.nat 0x5013 5 c) with
    | some va, some vb =>
      let bat : Bool := match s.cellGroup c with
        | some g => decide (s.role g = 3)
        | none => false
      let dv := max 0 (if bat then (if x.discharge then vb - va else va) else va - vb)
      let m := (s.cfg 0x5013 3 c * dv + 8388608) / 16777216
      let m := min (max m (s.cfg 0x5013 6 c)) (s.cfg 0x5013 7 c)
      let s := if x.slopeLost then s.raise { ev 0x1205 c with stateCode := 2 } else s
      (s.put 0x5013 8 c m, { x with slopeLost := false })
    | _, _ =>
      let s := if x.slopeLost then s else s.raise { ev 0x1203 c with stateCode := 2 }
      (s.put 0x5013 8 c (s.cfg 0x5013 2 c), { x with slopeLost := true })
  | _ => (s.put 0x5013 8 c 0, { x with slopeLost := false })

/-- The state code of a cell (Table 03-3). -/
def CellState.code : CellState → Nat
  | .idle => 0 | .start => 1 | .run => 2 | .hold => 3 | .stop => 4 | .fault => 5

/-- Whether the cell switches by its loop source (Table 03-3). -/
def Cell.switching (x : Cell) : Bool :=
  match x.state with
  | .run => true
  | .start | .stop => x.checkPassed
  | _ => false

/-- Whether the outputs may go high in the period that runs: they stay low in stop period 4 (R84). -/
def Cell.pulses (x : Cell) : Bool := x.switching && !(decide (x.state = .stop) && decide (4 ≤ x.stopPeriod))

/-- Whether the period that runs has a comparator-ended interval: none in stop period 4 and shed period 4 (R84, R148),
none in LEG-CLOCKED. -/
def Cell.hasInterval (x : Cell) (mode : Nat) : Bool :=
  x.pulses && decide (mode ≠ 3) && !(decide (x.state = .run) && decide (x.ramp.quarters = 0))

end Sys2Proof.Machine
end

