-- ==== Sys2Proof/Machine/GroupOps.lean ====
section
/-! DEFINITION. What a group manager does to its cells: the contexts that feed a group, its units, offsets, starts,
stops, load steps, and the way a fault of a cell reaches its group (R128 to R134, R145 to R147, R153 to R157, R166). -/

namespace Sys2Proof.Machine

/-! ### Contexts and groups -/

/-- The lower block that an engine's codes are relative to (R167). -/
def State.ctxBase (s : State) (k : Nat) : Nat := s.slotBlock (k / 16)

/-- The group that a context feeds, directly or through cascades (R90). -/
def State.ctxGroup (s : State) : Nat → Nat → Option Nat
  | 0, _ => none
  | fuel + 1, k =>
    let d := s.nat 0x6100 9 k
    if d < 4 then some (4 * s.ctxBase k + d)
    else if 0x10 ≤ d ∧ d < 0x20 then s.ctxGroup fuel (16 * (k / 16) + (d - 0x10))
    else if 0x20 ≤ d ∧ d < 0x24 then some (4 * s.ctxBase k + (d - 0x20))
    else if 0x30 ≤ d ∧ d < 0x40 then s.cellGroup (8 * s.ctxBase k + (d - 0x30))
    else none

/-- The contexts of the engines that serve a block. -/
def State.ctxsOf (s : State) (b : Nat) : List Nat :=
  (List.range (if s.doubles b then 32 else 16)).map (16 * b + ·)

/-- The enabled contexts that feed a group. -/
def State.feeders (s : State) (g : Nat) : List Nat :=
  (s.ctxsOf (g / 4)).filter fun k => decide ((s.ctx k).state ≠ .disabled) && decide (s.ctxGroup 17 k = some g)

/-- The enabled context that writes a group's command (R96). -/
def State.commandCtx (s : State) (g : Nat) : Option Nat :=
  (s.ctxsOf (g / 4)).find? fun k =>
    decide ((s.ctx k).state ≠ .disabled) && decide (s.nat 0x6100 9 k = g % 4) && decide (s.ctxBase k = g / 4)

/-- A context in its initial state (R90): integrator, histories and output at zero. -/
def Ctx.initial (x : Ctx) : Ctx :=
  { x with
    integ := 0, e1 := 0, e2 := 0, e3 := 0, h1 := 0, h2 := 0, h3 := 0, u := 0, computed := 0, err := 0, clamp := false
    ready := none, delivery := none, preset := false, uHold := 0, skipRun := 0 }

/-- A group counts as running in every state but STOPPED and WAIT UPSTREAM (R128). -/
def GroupState.running : GroupState → Bool
  | .stopped | .waitUpstream => false
  | _ => true

/-- The code of a group state (Table 05-5). -/
def GroupState.code : GroupState → Nat
  | .stopped => 0 | .starting => 1 | .run => 2 | .stopping => 3 | .mainsWait => 4 | .waitUpstream => 5

/-- The hold timers of the contexts that feed a group count up to now while the group runs (R115). -/
def State.syncHolds (s : State) (g : Nat) : State :=
  (s.feeders g).foldl (fun s k =>
    let x := s.ctx k
    if x.state = .held then
      s.setCtx k { x with
        holdSteps := if (s.group g).state.running then x.holdSteps + (s.now - x.holdAt) else x.holdSteps
        holdAt := s.now }
    else s) s

/-- Time counted towards the start timeout: not in MAINS WAIT or WAIT UPSTREAM (R132). -/
def Group.countStart (x : Group) (now : Tick) : Group :=
  { x with
    startSteps := (match x.state with
      | .mainsWait | .waitUpstream | .stopped => x.startSteps
      | _ => x.startSteps + (now - x.startAt))
    startAt := now }

/-- A change of a group's state; leaving RUN clears power-good at once (R131) and ends a capacity test (R240). -/
def State.setGroupState (s : State) (g : Nat) (st : GroupState) : State :=
  let s := s.syncHolds g
  let s := if s.role g = 3 ∧ (s.group g).state = .run ∧ st ≠ .run then s.abortTest g else s
  let x := (s.group g).countStart s.now
  s.setGroup g { x with
    state := st
    powerGood := if st = .run then x.powerGood else false
    loadFresh := if st = .run then true else x.loadFresh
    classify := if st = .stopping then none else x.classify
    inBandSince := none, outBandSince := none
    bulkLowSince := if x.state = .starting ∧ st = .run then x.bulkLowSince else none
    devSince := none, devRaised := false
    addSince := none, shedSince := none, lastCurrent := none }

/-! ### Units -/

/-- The cell whose comparator and mean code stand for a unit: m+1 of an ISO pair (R148, R164). -/
def leadCell (u : List Nat) : Nat := u.getLastD 0

/-- Whether a cell leads its unit. -/
def State.leads (s : State) (g c : Nat) : Bool := decide (leadCell (s.unitOf g c) = c)

def State.unitActive (s : State) (u : List Nat) : Bool :=
  match (s.cell (leadCell u)).state with
  | .start | .run => true
  | _ => false

def State.unitParked (s : State) (u : List Nat) : Bool := u.all fun c => decide ((s.cell c).state = .hold)

/-- A unit none of whose cells is in FAULT (R153). -/
def State.unitAvailable (s : State) (u : List Nat) : Bool := u.all fun c => decide ((s.cell c).state ≠ .fault)

def State.activeUnits (s : State) (g : Nat) : List (List Nat) := (s.units g).filter s.unitActive
def State.availableUnits (s : State) (g : Nat) : List (List Nat) := (s.units g).filter s.unitAvailable
def State.parkedUnits (s : State) (g : Nat) : List (List Nat) :=
  (s.units g).filter fun u => s.unitParked u && u.all fun c => !(s.cell c).addRequest

/-- Run time of a cell in steps (R154). -/
def State.runSteps (s : State) (c : Nat) : Nat :=
  let x := s.cell c
  match x.runSince with
  | some r => x.runSteps + (s.now - r)
  | none => x.runSteps

/-- Run time of a unit in whole seconds: the larger of its cells' (R154). -/
def State.unitRunTime (s : State) (u : List Nat) : Nat := u.foldl (fun m c => max m (s.runSteps c / secTicks)) 0

/-- The unit with the smallest run time, ties to the lower unit number. -/
def State.leastWorn (s : State) : List (List Nat) → Option (List Nat)
  | [] => none
  | u :: r =>
    match s.leastWorn r with
    | none => some u
    | some v => if s.unitRunTime v < s.unitRunTime u then some v else some u

/-- The unit with the largest run time, ties to the lower unit number. -/
def State.mostWorn (s : State) : List (List Nat) → Option (List Nat)
  | [] => none
  | u :: r =>
    match s.mostWorn r with
    | none => some u
    | some v => if s.unitRunTime u < s.unitRunTime v then some v else some u

/-- The cells of the list that are in a ramp. -/
def State.rampUnits (s : State) (g : Nat) : List (List Nat) :=
  (s.units g).filter fun u => decide ((s.cell (leadCell u)).ramp ≠ .none)

/-- Offsets of units, `i` counted from 0 (R146). -/
def offsetOf (base period n i : Nat) (iso : Bool) : Nat :=
  (base + i * period / (if iso then 2 * n else n)) % period

/-- The offsets of the given units are written (R146, R147). -/
def State.writeOffsets (s : State) (g : Nat) (us : List (List Nat)) : State :=
  let p := s.nat (0x6300 + g % 4) 0xE (g / 4)
  let base := s.nat (0x6300 + g % 4) 0xF (g / 4)
  (us.zipIdx).foldl (fun s (u, i) =>
    u.foldl (fun s c => s.put 0x5010 3 c (offsetOf base p us.length i (decide (s.role g = 2)))) s) s

def State.rewriteOffsets (s : State) (g : Nat) : State :=
  s.writeOffsets g ((s.units g).filter fun u => s.unitActive u || u.any fun c => (s.cell c).addRequest)

/-- Both dwell timers restart (R154). -/
def State.restartDwells (s : State) (g : Nat) : State := s.setGroup g { s.group g with addSince := none, shedSince := none }

/-- A unit is brought back (R147, R156): each cell in HOLD leaves it at its next period start. -/
def State.addUnit (s : State) (g : Nat) (u : List Nat) (ramp : Ramp) : State :=
  let s := u.foldl (fun s c => s.setCell c { s.cell c with addRequest := true, ramp := ramp }) s
  (s.bump (0x6310 + g % 4) 6 (g / 4)).raise { ev 0x2506 (g / 4) with second := g, stateCode := 2 }

/-- Up to `n` parked units, least-worn first, receive a load-step add (R156). -/
def State.loadStepAdds (s : State) (g : Nat) : Nat → State
  | 0 => s
  | n + 1 =>
    match s.leastWorn ((s.parkedUnits g).filter s.unitAvailable) with
    | none => s
    | some u =>
      let s := s.addUnit g u (.loadStepAdd 0)
      (s.setGroup g { s.group g with recovering := true }).loadStepAdds g n

/-- A ramp is reversed or ended early: its present weight holds to the next period start, then weight 1. A unit whose normal add
has been accepted and that has still to leave HOLD makes its first pulse at weight 1 (R156; assumption 176). -/
def State.reverseRamps (s : State) (g : Nat) : State :=
  (s.units g).foldl (fun s u => u.foldl (fun s c =>
    let x := s.cell c
    match x.state, x.ramp with
    | .run, .shed _ | .run, .add _ => s.setCell c { x with ramp := .reversed x.ramp.quarters, parkRequest := false }
    | .hold, .add _ => s.setCell c { x with ramp := .none }
    | _, _ => s) s) s

/-- A load step that the block arbiter accepts (R155, R156). Outside RUN it is ignored. -/
def State.loadStep (s : State) (g : Nat) : State :=
  if (s.group g).state = .run then
    let s := (s.bump (0x6310 + g % 4) 5 (g / 4)).raiseLimited g { ev 0x2504 (g / 4) with second := g, stateCode := 2 }
    let s := s.setGroup g { s.group g with shedSince := none }
    if (s.group g).recovering then s
    else
      let n := s.nat (0x6300 + g % 4) 0xB (g / 4)
      let n := if n = 0xFF then 16 else n
      let parked := ((s.parkedUnits g).filter s.unitAvailable).length
      let s := s.setGroup g { s.group g with poolParked := false, stepAt := some s.now, stepLeft := n - parked }
      (s.reverseRamps g).loadStepAdds g n
  else s

/-! ### Starting and stopping -/

/-- BRIDGE_HOLD pins of a BAT group: bit n of 0x6210+j.05 (R140, R141). -/
def State.setBridge (s : State) (g : Nat) (p : HoldPin) : State :=
  ((List.range 4).filter fun n => (s.nat (0x6210 + g % 4) 5 (g / 4)).testBit n).foldl
    (fun s n => { s with bridge := bset s.bridge n p }) s

/-- A relay is released: static low, relay-open no longer confirmed (R141). -/
def State.dropRelays (s : State) (g : Nat) : State :=
  if s.role g = 3 then
    (s.setBridge g .low).setGroup g {
      s.group g with relayEdge := none, relayOpen := false, relayWait := false, powerGood := false }
  else s

/-- At a BAT start, once every cell is in RUN, BRIDGE_HOLD starts on the relays that the estimator permits (R140). -/
def State.startRelays (s : State) (g : Nat) : State :=
  if (s.group g).relayWait ∧ ((s.groupCells g).all fun c => decide ((s.cell c).state = .run)) then
    let rs := (List.range 4).filter fun n => (s.nat (0x6210 + g % 4) 5 (g / 4)).testBit n && s.relayPermitted n
    let s := rs.foldl (fun s n => { s with bridge := bset s.bridge n .square }) s
    s.setGroup g { s.group g with relayWait := false, relayEdge := if rs.isEmpty then none else some s.now }
  else s

/-! ### The rank of a group command (R34) -/

/-- The block arbiter has accepted a command of a rank for a group in a SYS cycle. -/
def State.markCommand (s : State) (g cycle rank : Nat) : State := s.setGroup g { s.group g with cmdAt := some (cycle, rank) }

/-- A stop for a fault is accepted at its detection (R41). -/
def State.markStop (s : State) (g : Nat) : State := s.markCommand g (s.now / cycleTicks) 1

/-- No command has been accepted for a group in this SYS cycle. -/
def State.groupFree (s : State) (g : Nat) : Bool :=
  match (s.group g).cmdAt with
  | some (c, _) => decide (c < s.now / cycleTicks)
  | none => true

/-- A command of a rank for a group reaches the block arbiter (Table 02-3). After one of the same SYS cycle it is discarded where
the table says so, and else acts in the next cycle; one of a higher rank acts at once (assumption 172). -/
def State.groupAccept (s : State) (g rank : Nat) (start : Bool) (f : State → State) : State :=
  let cycle := s.now / cycleTicks
  if s.groupFree g then f (s.markCommand g cycle rank)
  else
    match (s.group g).cmdAt with
    | some (c, r) =>
      if c = cycle ∧ ((r = 1 ∧ rank ≠ 1 ∧ !start) ∨ (r = 2 ∧ rank = 5)) then s
      else if c = cycle ∧ rank < r then f (s.markCommand g cycle rank)
      else { f { s.markCommand g (c + 1) rank with now := (c + 1) * cycleTicks } with now := s.now }
    | none => s

/-! ### Pools (R158 to R162) -/

/-- A member is active while its group is in RUN and not parked (R159). -/
def State.memberActive (s : State) (g : Nat) : Bool :=
  decide ((s.group g).state = .run) && !(s.group g).poolParked

def State.activeMembers (s : State) (p : Nat) : List Nat := (s.members p).filter s.memberActive

/-- Parked members whose group has an available unit. -/
def State.parkedMembers (s : State) (p : Nat) : List Nat :=
  (s.members p).filter fun g =>
    decide ((s.group g).state = .run) && (s.group g).poolParked && !(s.availableUnits g).isEmpty

/-- The enabled pool of a group. -/
def State.poolOf (s : State) (g : Nat) : Option Nat :=
  (List.range 4).find? fun p => decide (s.cfg (0x2100 + p) 0x1A 0 = 1) && (s.members p).contains g

/-- A member's run time: the largest among its cells (R159). -/
def State.memberRunTime (s : State) (g : Nat) : Nat := s.unitRunTime (s.groupCells g)

/-- The member with the smallest run time, ties to the first. -/
def State.leastWornMember (s : State) : List Nat → Option Nat
  | [] => none
  | g :: r =>
    match s.leastWornMember r with
    | none => some g
    | some h => if s.memberRunTime h < s.memberRunTime g then some h else some g

/-- The member with the largest run time, ties to the first. -/
def State.mostWornMember (s : State) : List Nat → Option Nat
  | [] => none
  | g :: r =>
    match s.mostWornMember r with
    | none => some g
    | some h => if s.memberRunTime g < s.memberRunTime h then some h else some g

/-- Whether a member ramp of a pool runs. -/
def State.memberRampRuns (s : State) (p : Nat) : Bool :=
  match (s.pool p).rampMember with
  | some g => !(s.rampUnits g).isEmpty
  | none => false

/-- A parked member comes back: every unit at once, at the offsets it kept (R159, R162). -/
def State.addMember (s : State) (p g : Nat) (ramp : Ramp) : State :=
  let s := s.setGroup g { s.group g with
    poolParked := false
    recovering := (s.group g).recovering || (decide (ramp = .loadStepAdd 0) && !((s.parkedUnits g).filter s.unitAvailable).isEmpty) }
  let s := ((s.parkedUnits g).filter s.unitAvailable).foldl (fun s u => s.addUnit g u ramp) s
  s.setPool p { s.pool p with rampMember := some g, addSince := none, shedSince := none }

/-- A parked member is added without a dwell, the least-worn first. -/
def State.addLeastWorn (s : State) (p : Nat) : State :=
  match s.leastWornMember (s.parkedMembers p) with
  | some g => s.groupAccept g 4 false fun s => s.addMember p g (.add 0)
  | none => s

/-- A member of an enabled pool has stopped by its own faults (R166). -/
def State.memberLost (s : State) (g : Nat) : State :=
  match s.poolOf g with
  | some p => (s.raise { ev 0x4503 0 with value := p, second := g }).addLeastWorn p
  | none => s

/-- Whether every cell of a group is IDLE or FAULT. -/
def State.allAtRest (s : State) (g : Nat) : Bool :=
  (s.groupCells g).all fun c =>
    match (s.cell c).state with
    | .idle | .fault => true
    | _ => false

/-- Orderly stop requests to the cells of a list. -/
def State.cellsOrderly (s : State) (cs : List Nat) : State := cs.foldl State.cellOrderly s
def State.cellsImmediate (s : State) (cs : List Nat) : State := cs.foldl State.cellImmediate s

/-- The PFC group of the block that names an ISO slot as its linked slot and waits for it (R134). -/
def State.waitingPfc (s : State) (g : Nat) : Option Nat :=
  ((List.range 4).map (4 * (g / 4) + ·)).find? fun p =>
    decide (s.role p = 1) && decide (s.nat (0x6210 + p % 4) 4 (p / 4) = g % 4) && (s.group p).stopWaits

/-- The cells of a PFC group whose orderly stop waited for this ISO group get their requests (R134). -/
def State.releasePfc (s : State) (g : Nat) : State :=
  match s.waitingPfc g with
  | some p =>
    let s := s.setGroup p { s.group p with stopWaits := false }
    let s := s.cellsOrderly (s.groupCells p)
    if s.allAtRest p then s.setGroupState p .stopped else s
  | none => s

/-- The last unit of a load step's adds has left its ramp by a stop: the group has recovered (R147, R156). -/
def State.endRecovery (s : State) (g : Nat) : State :=
  let runs := (s.groupCells g).any fun c =>
    match (s.cell c).ramp with
    | .loadStepAdd _ => true
    | _ => false
  if (s.group g).recovering ∧ !runs then
    ((s.restartDwells g).setGroup g { (s.restartDwells g).group g with recovering := false }).rewriteOffsets g
  else s

/-- A group whose cells are all at rest is STOPPED: after a stop, or when its cells have ended by their own faults
(R133). A group in WAIT UPSTREAM stays there. -/
def State.settle (s : State) (g : Nat) : State :=
  if s.allAtRest g then
    match (s.group g).state with
    | .stopped | .waitUpstream => s
    | st =>
      let wait := (s.group g).toWait
      let s := s.setGroupState g (if wait then .waitUpstream else .stopped)
      let s := s.setGroup g { s.group g with
        runRequest := wait, reference := none, poolParked := false, recovering := false, classify := none
        stopHold := none, stopWaits := false, toWait := false }
      let s := (s.dropRelays g).releasePfc g
      if st = .stopping then s else s.memberLost g
  else s.endRecovery g

/-- The group of a cell, if any, is settled. -/
def State.settleCell (s : State) (c : Nat) : State :=
  match s.cellGroup c with
  | some g => s.settle g
  | none => s

/-- A unit's cell has come to FAULT: one parked available unit gets a load-step add at once (R166). -/
def State.unitLost (s : State) (g : Nat) : State :=
  if (s.group g).state = .run then s.loadStepAdds g 1 else s

/-- The classification of a unit that stops before its window has ended is dropped (R165). -/
def State.dropClassify (s : State) (g c : Nat) : State :=
  match (s.group g).classify with
  | some k => if (s.unitOf g c).contains k.cell then s.setGroup g { s.group g with classify := none } else s
  | none => s

/-- An immediate stop of a cell, of its ISO partner, and what follows for its group: a parked unit replaces one that is no longer
available (R81, R145, R133, R166). -/
def State.stopCellNow (s : State) (c : Nat) : State :=
  let before := s
  let s := s.cellsImmediate (s.stopSet c)
  match s.cellGroup c with
  | some g =>
    let s := ((s.markStop g).dropClassify g c).settle g
    if before.unitAvailable (s.unitOf g c) ∧ !s.unitAvailable (s.unitOf g c) then s.unitLost g else s
  | none => s

/-- An orderly stop of a cell and of its ISO partner. -/
def State.stopCellOrderly (s : State) (c : Nat) : State :=
  let s := s.cellsOrderly (s.stopSet c)
  match s.cellGroup c with
  | some g => ((s.markStop g).dropClassify g c).settle g
  | none => s

/-- A pip-4 event of a cell with an immediate stop (Table 03-2): the fault state first, then the stop. -/
def State.cellTrip (s : State) (e : Event) : State := (s.raise e).stopCellNow e.inst

/-- The sense ratio of a group is forgotten (R164). -/
def State.clearRatio (s : State) (g : Nat) : State := s.setGroup g { s.group g with rho := 0, rhoCount := 0 }

/-- An immediate stop of a group (R133, R141). -/
def State.stopGroupNow (s : State) (g : Nat) : State :=
  match (s.group g).state with
  | .stopped => s
  | _ =>
    let s := s.setGroupState g .stopping
    let s := s.setGroup g { s.group g with runRequest := false, stopHold := none, stopWaits := false, toWait := false }
    ((s.dropRelays g).cellsImmediate (s.groupCells g)).settle g

/-- An orderly stop of a group whose cells get their requests now (R133). -/
def State.stopGroupCells (s : State) (g : Nat) : State :=
  let s := s.setGroupState g .stopping
  let s := s.setGroup g { s.group g with runRequest := false, stopHold := none, toWait := false }
  (s.cellsOrderly (s.groupCells g)).settle g

/-- An orderly stop of a group: a BAT group first closes its relays for 25 ms (R141). -/
def State.stopGroup (s : State) (g : Nat) : State :=
  match (s.group g).state with
  | .stopped => s
  | _ =>
    if s.role g = 3 then
      if (s.group g).stopHold.isSome ∨ (s.group g).state = .stopping then s
      else
        let s := s.dropRelays g
        let s := s.setGroupState g .stopping
        s.setGroup g { s.group g with runRequest := false, stopHold := some s.now }
    else s.stopGroupCells g

/-- Group command 2: a PFC group first stops its linked ISO group (R134). -/
def State.orderlyStop (s : State) (g : Nat) : State :=
  let iso := 4 * (g / 4) + s.nat (0x6210 + g % 4) 4 (g / 4)
  let linked := decide (s.role g = 1) && decide (s.nat (0x6210 + g % 4) 4 (g / 4) < 4)
  if linked && decide ((s.group iso).state ≠ .stopped) && decide ((s.group g).state ≠ .stopped) then
    let s := s.stopGroup iso
    match (s.group iso).state with
    | .stopped | .waitUpstream => s.stopGroup g
    | _ =>
      let s := s.setGroupState g .stopping
      s.setGroup g { s.group g with runRequest := false, stopWaits := true }
  else s.stopGroup g

/-- The groups of a block; a doubles pair has its one group in slot 0 of the lower block (R169). -/
def State.blockGroups (s : State) (b : Nat) : List Nat :=
  (List.range 4).map (4 * s.slotBlock b + ·)

/-- An immediate stop of every group of a block (R309, R320). -/
def State.stopBlockNow (s : State) (b : Nat) : State := (s.blockGroups b).foldl (fun s g => (s.markStop g).stopGroupNow g) s

/-- A pip-5 event of a block (Table 13-1). -/
def State.blockTrip (s : State) (e : Event) : State := (s.raise e).stopBlockNow e.inst

/-- Measured output of a group in mV (R130); 0 without an output sense. -/
def State.measured (s : State) (g : Nat) : Int :=
  let v := s.nat (0x6200 + g % 4) 0xE (g / 4)
  if v < 48 then s.inputMilliVolt v else 0

/-- Vrms limited to 85 V to 300 V for the arithmetic (R135), in 0.1 V. -/
def State.vrmsLimited (s : State) (ph : Nat) : Int := limitInt (s.vrms ph) 850 3000

/-- The mains phase of a PFC group. -/
def State.pfcPhase (s : State) (g : Nat) : Nat := s.nat (0x6210 + g % 4) 1 (g / 4)

/-- A PFC group in RUN enters MAINS WAIT (R136). -/
def State.enterMainsWait (s : State) (g : Nat) : State :=
  if s.role g = 1 ∧ (s.group g).state = .run then
    let rms := s.vrms (s.pfcPhase g)
    if s.nat (0x2200 + s.pfcPhase g) 1 0 ≠ 2 ∨ rms < 850 ∨ 3000 < rms then
      (s.raise { ev 0x2404 (g / 4) with value := rms, stateCode := 2, second := g }).setGroupState g .mainsWait
    else s
  else s

/-- The PFC preconditions of Table 05-7. -/
def State.pfcReady (s : State) (g : Nat) : Bool :=
  let ph := s.pfcPhase g
  let rms := s.vrms ph
  let bulk := s.measured g
  let need : Int := s.cfg (0x6210 + g % 4) 3 (g / 4) * rms * 100
  decide (s.nat (0x2200 + ph) 1 0 = 2) && decide (3 ≤ s.nat (0x2200 + ph) 6 0) && decide (850 ≤ rms ∧ rms ≤ 3000) &&
    decide (2 * need ^ 2 ≤ (bulk * 1000) ^ 2 ∧ 0 ≤ bulk)

/-- The role preconditions of Table 05-7 and the straps of Table 05-3. -/
def State.roleReady (s : State) (g : Nat) : Bool :=
  let j := g % 4
  let b := g / 4
  match s.role g with
  | 1 => s.pfcReady g
  | 2 =>
    let l := s.nat (0x6210 + j) 1 b
    !s.strapBad [2, 3] && (decide (4 ≤ l) || (s.group (4 * b + l)).powerGood)
  | 3 => !s.strapBad [2, 3, 5] && s.disconnectsOn g
  | 4 =>
    let f := s.nat (0x6210 + j) 1 b
    !s.strapBad [2, 3, 4] && decide (f < 24) && decide (s.feedUse f = 1 ∨ s.feedUse f = 5)
  | _ => true

/-- Whether the cells of a group are configured as Table 05-4 requires. -/
def State.cellsConfigured (s : State) (g : Nat) : Bool :=
  let cs := s.groupCells g
  let mode c := s.nat 0x5010 1 c
  let peak c := decide (s.nat 0x5012 1 c = 0)
  !cs.isEmpty && (decide (cs.length ≤ 8) || decide (s.role g = 3)) &&
    match s.role g with
    | 1 => cs.all fun c => decide (mode c ≤ 1) && peak c
    | 2 =>
      (pairUp cs).all fun u =>
        match u with
        | [m, n] => decide (m % 2 = 0) && decide (n = m + 1) && decide (mode m = 3) && decide (mode n = 4) &&
            decide (s.nat 0x5013 1 m = 1) && decide (s.nat 0x5013 1 n = 1)
        | _ => false
    | 3 => cs.all fun c => decide (mode c = 1)
    | 4 => cs.all fun c => decide (mode c ≤ 1) && peak c
    | 5 => cs.all fun c => decide (mode c = 1) && peak c
    | _ => false

/-- A cell of the group, or a block, region or the chip that holds it, is in a fault state, or the thermal latch of a block keeps
it stopped (Table 05-6, code 4; R169). -/
def State.groupFaulted (s : State) (g : Nat) : Bool :=
  (s.groupCells g).any fun c =>
    decide (s.cfg 0x4030 1 (c / 8) = 1) || s.inFault (.cell c) || s.inFault (.block (c / 8)) || s.inFault (.region (c / 32)) || s.inFault .chip

/-- The result of a start command (Table 05-6); the checks are made in the order 7, 1 to 6 (assumption 18). -/
def State.startResult (s : State) (g : Nat) : Nat :=
  if s.role g = 0 then 7
  else if (s.group g).state ≠ .stopped then 1
  else if !s.cellsConfigured g then 2
  else if (s.commandCtx g).isNone then 3
  else if (s.feeders g).any fun k =>
      match (s.ctx k).state with
      | .held | .heldUpstream | .fault => true
      | _ => false
    then 3
  else if s.groupFaulted g then 4
  else if !s.roleReady g then 5
  else if 48 ≤ s.nat (0x6200 + g % 4) 0xE (g / 4) then 6
  else 0

/-- A trim of zero is in force at its cell; in role ISO the trim of cell m+1 holds for the unit (R96, R149). -/
def State.zeroTrim (s : State) (c : Nat) : State :=
  match s.cellGroup c with
  | some g =>
    if s.role g = 2 then
      if s.leads g c then (s.unitOf g c).foldl (fun s c => s.setCell c { s.cell c with trim := 0 }) s else s
    else s.setCell c { s.cell c with trim := 0 }
  | none => s

/-- The output zero of a context in its initial state is in force at its destination (R90, R96): PFC cells form their code
at their own period starts (R135). -/
def State.deliverZero (s : State) (k : Nat) : State :=
  let d := s.nat 0x6100 9 k
  if 0x30 ≤ d ∧ d < 0x40 then s.zeroTrim (8 * s.ctxBase k + (d - 0x30))
  else if d < 4 ∧ s.role (4 * s.ctxBase k + d) ≠ 1 then
    (s.groupCells (4 * s.ctxBase k + d)).foldl (fun s c => s.deliverCode c (s.zero c + s.trim c)) s
  else s

/-- Contexts that feed a group and are in RUN return to their initial state, with their output at zero, the trims before
the command (R90, R130). -/
def State.resetFeeders (s : State) (g : Nat) : State :=
  let ks := (s.feeders g).filter fun k => decide ((s.ctx k).state = .run)
  let s := ks.foldl (fun s k => s.setCtx k (s.ctx k).initial) s
  let (trims, rest) := ks.partition fun k => decide (0x30 ≤ s.nat 0x6100 9 k)
  (trims ++ rest).foldl State.deliverZero s

/-- The setpoint in force is preset to the measured output, limited to 0 V up to the window maximum (R130). -/
def State.presetForce (s : State) (g : Nat) : State :=
  s.setGroup g { s.group g with
    forceMicro := limitInt (s.measured g) 0 (s.cfg (0x6200 + g % 4) 7 (g / 4)) * 1000 }

/-- An accepted start, by command or from WAIT UPSTREAM (R130, R138, R146): the cells of every available unit start (R145,
R154). -/
def State.beginStart (s : State) (g : Nat) : State :=
  let s := (s.resetFeeders g).presetForce g
  let s := s.setGroupState g .starting
  let s := s.setGroup g { s.group g with
    runRequest := true, reference := some s.now, recovering := false, poolParked := false, loadFresh := true
    classify := none, relayWait := decide (s.role g = 3), toWait := false, awaitGood := true, startSteps := 0
    startAt := s.now, stepOffered := 0 }
  let p := s.cfg (0x6300 + g % 4) 0xE (g / 4)
  let cs := s.groupCells g
  let s := cs.foldl (fun s c => s.put 0x5010 2 c p) s
  let s := ((s.units g).filter s.unitAvailable).flatten.foldl State.cellStart s
  s.rewriteOffsets g

/-- Group command 1 (R129, R130). -/
def State.startGroup (s : State) (g : Nat) : State :=
  let r := s.startResult g
  let s := s.put (0x6200 + g % 4) 0xC (g / 4) r
  if r = 0 then (s.beginStart g).result 0
  else (s.raise { ev 0x2402 (g / 4) with value := r, stateCode := (s.group g).state.code, second := g }).result 0x23

/-- What a group command of Table 05-6 does: 1 start, 2 orderly stop, 3 immediate stop (R129). -/
def State.runGroupCommand (s : State) (g : Nat) (cmd : Nat) : State :=
  match cmd with
  | 1 => s.startGroup g
  | 2 => ((s.put (0x6200 + g % 4) 0xC (g / 4) 0).orderlyStop g).result 0
  | _ => ((s.put (0x6200 + g % 4) 0xC (g / 4) 0).stopGroupNow g).result 0

/-- A group command reaches the block arbiter at rank 3 (R34, R129). -/
def State.groupCommand (s : State) (g : Nat) (cmd : Nat) : State :=
  s.groupAccept g 3 (decide (cmd = 1)) fun s => s.runGroupCommand g cmd

end Sys2Proof.Machine
end

