-- ==== Sys2Proof/Machine/Engine.lean ====
section
/-! DEFINITION. The control engines (chapter 04): sources, the evaluation of a context, its delivery, hold and release,
enabling and skips, with the load measure and the command formation of BAT groups (R139, R152). -/

namespace Sys2Proof.Machine

/-! ### Sources (R92 to R94) -/

/-- Sum of a group's cell currents over the size of its mask, as a fraction (R92). -/
def State.groupSum (s : State) (g : Nat) : Int × Nat :=
  let cs := s.groupCells g
  let n := cs.foldl (fun a c =>
    match (s.cell c).state with
    | .start | .run | .stop => a + ((s.cell c).sampleCode - s.zero c : Int)
    | _ => a) 0
  (n, 4096 * max 1 cs.length)

/-- A source that is no computed power and no output, as a fraction. -/
def State.plainSource (s : State) (base code : Nat) : Int × Nat :=
  if code < 0x10 then
    ((s.cell (8 * base + code)).sampleCode - s.zero (8 * base + code), 4096)
  else if 0x20 ≤ code ∧ code < 0x24 then s.groupSum (4 * base + (code - 0x20))
  else if 0x30 ≤ code ∧ code < 0x60 then (s.voltCode (code - 0x30), 1073741824)
  else (0, 1)

/-- sat23: the value within the Q0.23 range, and 1 if it had to be replaced (R99). -/
def sat23 (v : Int) : Int × Nat :=
  if v < -8388608 then (-8388608, 1) else if 8388607 < v then (8388607, 1) else (v, 0)

/-- sat40 (R99). -/
def sat40 (v : Int) : Int × Nat :=
  if v < -549755813888 then (-549755813888, 1) else if 549755813887 < v then (549755813887, 1) else (v, 0)

/-- Computed power j of a block: sat23(rnd(Sa·Sb)) (R94). -/
def State.power (s : State) (b base j : Nat) : Int :=
  let sel := s.nat 0x4020 (j + 1) b
  let (na, da) := s.plainSource base (sel / 256)
  let (nb, db) := s.plainSource base (sel % 256)
  (sat23 (rndDiv (na * nb * 8388608) (da * db))).1

/-- A feedback source of a context, as an exact fraction of full scale (Table 04-2). -/
def State.source (s : State) (k code : Nat) : Int × Nat :=
  if 0x60 ≤ code ∧ code < 0x64 then (s.power (k / 16) (s.ctxBase k) (code - 0x60), 8388608)
  else if 0x70 ≤ code ∧ code < 0x80 then ((s.ctx (16 * (k / 16) + (code - 0x70))).u, 8388608)
  else s.plainSource (s.ctxBase k) code

/-- rnd(raw × gain) in Q0.23, before saturation (R93). -/
def scaleBy (num : Int) (den : Nat) (gain : Int) : Int := rndDiv (num * gain) (den * 32)

/-- The role setpoint of a group in the feedback scale of a context (R127); 0 while the slot has no role. -/
def State.roleSetpoint (s : State) (g k : Nat) : Int :=
  let fb := s.nat 0x6100 5 k
  let fs := (s.nat 0x7800 1 (fb - 0x30))
  if s.role g = 0 ∨ fs = 0 then 0
  else
    let micro := if s.role g = 4 then (s.group g).bstTarget * 1000 else (s.group g).forceMicro
    (sat23 (rndDiv (micro * s.cfg 0x6100 6 k) (1000 * fs * 32))).1

/-- The share context of a member: the one with the pool's share reference that feeds the member (R150). -/
def State.shareCtx (s : State) (p g : Nat) : Option Nat :=
  (s.feeders g).find? fun k => decide (s.nat 0x6140 1 k = 0x40 + p)

/-- The pool mean: the mean of the scaled feedback of the active members' share contexts (R150). -/
def State.poolMean (s : State) (p : Nat) : Int :=
  let ys := (s.activeMembers p).filterMap fun g => (s.shareCtx p g).map fun k => (s.ctx k).y
  if ys.isEmpty then 0 else rndDiv (ys.foldl (· + ·) 0) ys.length

/-- The fixed setpoint that the group manager writes before an evaluation (R150). -/
def State.shareSetpoint (s : State) (k : Nat) : State :=
  let r := s.nat 0x6140 1 k
  if 0x20 ≤ r ∧ r < 0x24 then
    let (n, d) := s.plainSource (s.ctxBase k) r
    s.put 0x6100 8 k (sat23 (scaleBy n d (s.cfg 0x6100 6 k))).1
  else if 0x40 ≤ r ∧ r < 0x44 then s.put 0x6100 8 k (s.poolMean (r - 0x40))
  else s

/-- The setpoint of a context by its mode (R95). -/
def State.setpointOf (s : State) (k : Nat) : Int :=
  match s.nat 0x6100 7 k with
  | 0 =>
    match s.ctxGroup 17 k with
    | some g => s.roleSetpoint g k
    | none => 0
  | 1 =>
    match (List.range 16).find? fun n =>
        decide (s.nat 0x6100 9 (16 * (k / 16) + n) = 0x10 + k % 16) &&
          decide ((s.ctx (16 * (k / 16) + n)).state ≠ .disabled) with
    | some n => (s.ctx (16 * (k / 16) + n)).u
    | none => 0
  | _ => s.cfg 0x6100 8 k

/-! ### One evaluation (R99 to R102, R113, R114) -/

/-- A coefficient times a signal, rounded to Q8.31. -/
def mulQ (c x : Int) : Int := (c * x + 524288) / 1048576

/-- rnd23: Q8.31 to Q0.23. -/
def rnd23 (x : Int) : Int := (x + 128) / 256

def Coeffs.integrator (c : Coeffs) : Bool := decide (c.form = 2 ∨ c.form = 3)

/-- The preset of the first evaluation after a release (R113, R114). -/
def Ctx.applyPreset (x : Ctx) (e : Int) : Ctx × Nat :=
  if x.active.integrator then
    let acc := mulQ x.active.b0 e + mulQ x.active.b1 e + mulQ x.active.b2 e + mulQ x.active.b3 e
    let (i, n) := sat40 (x.uHold * 256 - acc)
    ({ x with e1 := e, e2 := e, e3 := e, h1 := 0, h2 := 0, h3 := 0, integ := i, preset := false }, n)
  else
    ({ x with e1 := e, e2 := e, e3 := e, h1 := x.uHold, h2 := x.uHold, h3 := x.uHold, preset := false }, 0)

/-- One evaluation with scaled feedback y and setpoint r; answers the context and the number of saturations (R101). A preset
integrator form goes on from the sum as it is (R113). -/
def Ctx.evaluate (x : Ctx) (y r : Int) : Ctx × Nat :=
  let (e, n1) := sat23 (r - y)
  let presets := x.preset && x.active.integrator
  let (x, n2) := if x.preset then x.applyPreset e else (x, 0)
  let k := x.active
  let sum := mulQ k.b0 e + mulQ k.b1 x.e1 + mulQ k.b2 x.e2 + mulQ k.b3 x.e3 -
    mulQ k.a1 x.h1 - mulQ k.a2 x.h2 - mulQ k.a3 x.h3
  let (acc, n3) := if presets then (sum, 0) else sat40 sum
  let (uRaw, n4) := if k.integrator then sat40 (x.integ + acc) else (acc, 0)
  let uSat := limitInt uRaw (k.uMin * 256) (k.uMax * 256)
  let (integ, n5) :=
    if k.integrator then sat40 (uRaw + (k.kb * (uSat - uRaw) + 134217728) / 268435456) else (x.integ, 0)
  let (h1, n6) := if k.integrator then sat23 (rnd23 acc) else sat23 (rnd23 uSat)
  let (u, n7) := sat23 (rnd23 uSat)
  ({ x with
      integ := integ, h3 := x.h2, h2 := x.h1, h1 := h1, e3 := x.e2, e2 := x.e1, e1 := e
      computed := u, err := e, setpoint := r, y := y, clamp := decide (uRaw ≠ uSat), ready := none, skipRun := 0 },
    n1 + n2 + n3 + n4 + n5 + n6 + n7)

/-! ### What an evaluation does beside its output -/

/-- The demand of a BAT group from an output u, after relay and limits (R139). -/
def State.batDemand (s : State) (g : Nat) (u : Int) : Int :=
  let i := -u
  let i := if !(s.group g).relayOpen ∧ (s.group g).stopHold.isNone then 0 else i
  if 0 < i then min i (s.cfg (0x6210 + g % 4) 1 (g / 4)) else max i (-s.cfg (0x6210 + g % 4) 2 (g / 4))

/-- The sample taken into the load measure, in 2⁻³¹ (R152). -/
def State.loadSample (s : State) (g : Nat) (u : Int) : Int :=
  match s.role g with
  | 1 => rndDiv (u * 256 * s.cfg (0x6210 + g % 4) 2 (g / 4)) (s.vrmsLimited (s.pfcPhase g)).toNat
  | 3 => (s.batDemand g u).natAbs * 256
  | _ => u * 256

/-- The conditions of R153 at the present load: (add, shed). -/
def State.dwellConditions (s : State) (g : Nat) : Bool × Bool :=
  let j := 0x6300 + g % 4
  let b := g / 4
  let full := s.cfg j 3 b * 256
  let n : Int := (s.activeUnits g).length
  let nav : Int := (s.availableUnits g).length
  let load := (s.group g).load
  let ok := decide ((s.group g).state = .run) && decide (0 < full) && (s.group g).classify.isNone &&
    !(s.group g).poolParked
  (ok && decide (n < nav) && decide (s.cfg j 4 b * full < load * 1000),
    ok && decide (s.cfg j 2 b < n) && decide (1 < n) && decide (load * n * 1000 < s.cfg j 5 b * full * (n - 1)))

/-- The dwell timers follow their conditions (R153). -/
def State.updateDwells (s : State) (g : Nat) : State :=
  let (add, shed) := s.dwellConditions g
  let x := s.group g
  s.setGroup g { x with
    addSince := if add then (if x.addSince.isNone then some s.now else x.addSince) else none
    shedSince := if shed then (if x.shedSince.isNone then some s.now else x.shedSince) else none }

/-- Each evaluation of a command context moves its group's load measure (R152). -/
def State.filterLoad (s : State) (k : Nat) (instant : Tick) : State :=
  if s.nat 0x6100 9 k < 4 then
    let g := 4 * s.ctxBase k + s.nat 0x6100 9 k
    let x := s.group g
    let sample := s.loadSample g (s.ctx k).computed
    let fraction := lowPass (instant - x.loadAt) (s.nat (0x6300 + g % 4) 8 (g / 4) * usTicks)
    let fresh := x.loadFresh && decide (x.state = .run)
    let load := if fresh then sample else x.load + (sample - x.load) * fraction / fxOne
    (s.setGroup g { x with load := load, loadAt := instant, loadFresh := if fresh then false else x.loadFresh }).updateDwells g
  else s

/-- The output from which a context that must not wind starts again at each evaluation (R151, R160). DESIGN CHOICE (assumption
181): for a parked member of a pool without an active member it is the context's own last output. -/
def State.freeze (s : State) (k : Nat) : Option Int :=
  let d := s.nat 0x6100 9 k
  let base := s.ctxBase k
  if 0x30 ≤ d ∧ d < 0x40 then
    (if (s.cell (8 * base + (d - 0x30))).state = .hold then some (s.ctx k).u else none)
  else if d < 4 then
    let g := 4 * base + d
    if (s.group g).poolParked then
      match (List.range 4).find? fun p => decide (s.cfg (0x2100 + p) 0x1A 0 = 1) && (s.members p).contains g with
      | some p =>
        let us := (s.activeMembers p).filterMap fun m => (s.commandCtx m).map fun k' => (s.ctx k').u
        some (if us.isEmpty then (s.ctx k).u else rndDiv (us.foldl (· + ·) 0) us.length)
      | none => some (s.ctx k).u
    else if decide ((s.units g) ≠ []) && (s.units g).all s.unitParked then some (s.ctx k).u
    else none
  else none

/-- The command time of a context in ns (R103). -/
def State.commandTime (s : State) (k : Nat) : Nat :=
  if s.nat 0x6100 2 k = 0 then
    (match s.twinState with
    | .active | .syncing | .inStep | .suspect => 240
    | _ => 200)
  else s.nat 0x6100 0xA k

/-- Whether the chip runs in step with a partner, so that deliveries are exact (R106). DESIGN CHOICE (assumption 179): the states
with a partner in step or suspected, and SYNCING; an ACTIVE UNPAIRED chip has single-chip timing. -/
def State.paired (s : State) : Bool :=
  match s.twinState with
  | .active | .syncing | .inStep | .suspect => true
  | _ => false

/-- The latest start of an evaluation: sample instant + command time − 67.5 ns (R104). -/
def State.deadline (s : State) (k : Nat) (r : Ready) : Tick := r.instant + nsTicks (s.commandTime k) - 1728

/-- The cells that a context feeds (R119). -/
def State.fedCells (s : State) (k : Nat) : List Nat :=
  match s.ctxGroup 17 k with
  | some g => s.groupCells g
  | none => []

/-- An event of an engine, owned by every cell fed (R119, R311). -/
def State.raiseEngine (s : State) (code k : Nat) (value limit : Int) : State :=
  s.raise { ev code (k / 16) with
    value := value, limit := limit, second := k
    stateCode := match (s.ctx k).state with
      | .disabled => 0 | .run => 1 | .held => 2 | .heldUpstream => 3 | .fault => 4
    owners := (s.fedCells k).map Elem.cell }

/-- An orderly stop of the cells that a context feeds: their group stops (R119). -/
def State.stopFed (s : State) (k : Nat) : State :=
  match s.ctxGroup 17 k with
  | some g => (s.markStop g).stopGroup g
  | none => s

/-- The evaluation of the context that the block arbiter chose (R101, R150 to R152). DESIGN CHOICE (assumption 178): the feedback
alone is taken at the ready time (R91); the setpoint, a cascade's output and the share reference are read as the slot starts. -/
def State.evaluate (s : State) (k : Nat) (r : Ready) : State :=
  let s := s.shareSetpoint k
  let x := s.ctx k
  let (y, n) := sat23 (scaleBy r.num r.den (s.cfg 0x6100 6 k))
  let x := match s.freeze k with
    | some u => { x with preset := true, uHold := u }
    | none => x
  let (x, m) := x.evaluate y (s.setpointOf k)
  let due := if s.paired then max (s.now + 512) (r.instant + nsTicks (s.commandTime k) - nsTicks 40) else s.now + 512
  let s := s.setCtx k { x with delivery := some { u := x.computed, due := due } }
  let s := s.bump 0x4010 2 (k / 16)
  let s := if n + m = 0 then s else
    (s.put 0x6120 7 k ((s.cfg 0x6120 7 k + (n + m : Nat)) % 0x100000000)).raiseLimited k
      { ev 0x2106 (k / 16) with value := (s.cfg 0x6120 7 k + (n + m : Nat)) % 0x100000000, second := k, stateCode := 1 }
  s.filterLoad k r.instant

/-- The contexts of a block that compete for a slot, with their ready samples (R32, R33). -/
def State.candidates (s : State) (b : Nat) : List (Nat × Ready) :=
  (List.range 16).filterMap fun n =>
    let k := 16 * b + n
    match (s.ctx k).state, (s.ctx k).ready with
    | .run, some r => if s.now ≤ s.deadline k r then some (k, r) else none
    | _, _ => none

/-- The lowest priority number first, then the earliest deadline, then the lowest slot (R32). -/
def State.chooseCtx (s : State) : List (Nat × Ready) → Option (Nat × Ready)
  | [] => none
  | (k, r) :: rest =>
    match s.chooseCtx rest with
    | none => some (k, r)
    | some (k', r') =>
      let p := s.nat 0x6100 2 k
      let p' := s.nat 0x6100 2 k'
      if p < p' ∨ (p = p' ∧ s.deadline k r ≤ s.deadline k' r') then some (k, r) else some (k', r')

/-- What an evaluation of a context may change, as it is. -/
def State.slotOfCtx (s : State) (k : Nat) : Slot :=
  { start := s.now, ctx := k, before := s.ctx k, fixed := s.cfg 0x6100 8 k, saturations := s.cfg 0x6120 7 k
    load := if s.nat 0x6100 9 k < 4 then
        let g := 4 * s.ctxBase k + s.nat 0x6100 9 k
        let x := s.group g
        some ⟨g, x.load, x.loadAt, x.loadFresh, x.addSince, x.shedSince⟩
      else none }

/-- A free engine evaluates the context that the block arbiter chooses (R32, R88). -/
def State.startSlot (s : State) (b : Nat) : State :=
  match s.chooseCtx (s.candidates b) with
  | some (k, r) =>
    { s.evaluate k r with
      engineBusy := bset s.engineBusy b (s.now + 8 * cycleTicks), engineSlot := bset s.engineSlot b (s.slotOfCtx k) }
  | none => s

/-- The slot that an engine started in this SYS cycle, if it did. -/
def State.slotNow (s : State) (b : Nat) : Option Slot :=
  match bget none (s.engineSlot.map fun p => (p.1, some p.2)) b with
  | some x => if x.start / cycleTicks = s.now / cycleTicks ∧ s.now < bget 0 s.engineBusy b then some x else none
  | none => none

/-- A slot that started in this SYS cycle is given back, with its evaluation. -/
def State.giveBack (s : State) (b : Nat) : State :=
  match s.slotNow b with
  | some x =>
    let s := s.setCtx x.ctx x.before
    let s := if s.cfg 0x6100 8 x.ctx = x.fixed then s else s.put 0x6100 8 x.ctx x.fixed
    let s := if s.cfg 0x6120 7 x.ctx = x.saturations then s else s.put 0x6120 7 x.ctx x.saturations
    let s := s.put 0x4010 2 b ((s.cfg 0x4010 2 b + 0xFFFFFFFF) % 0x100000000)
    let s := match x.load with
      | some m =>
        s.setGroup m.group { s.group m.group with
          load := m.load, loadAt := m.loadAt, loadFresh := m.loadFresh, addSince := m.addSince, shedSince := m.shedSince }
      | none => s
    { s with engineBusy := bset s.engineBusy b s.now }
  | none => s

/-- The choice of a slot that started in this SYS cycle is made again after a change that takes part in it (R105, R109). -/
def State.rechoose (s : State) (b : Nat) (f : State → State) : State :=
  if (s.slotNow b).isSome then (f (s.giveBack b)).startSlot b else f s

/-! ### The commands -/

/-- CONTROL_SAMPLE_READY (R91, R105, R106): the trigger cell's control sample, on every d-th period, with the sources at
their latest values. The periods count in every enabled state; only a context in RUN takes the sample, which takes part in the
choice of a slot that starts in this SYS cycle. -/
def execControlSampleReady (t : Tick) (k : CtxId) (s : State) : Host.Outcome State Fault Refusal :=
  s.live t fun s =>
    let x := s.ctx k
    let c := 8 * s.ctxBase k + s.nat 0x6100 3 k
    let cell := s.cell c
    let latency := if s.paired then nsTicks 130 else nsTicks 50
    if x.state ≠ .disabled ∧ x.seen < cell.sampleAt ∧ cell.sampleAt + latency ≤ s.now then
      let n := x.periods + 1
      if s.nat 0x6100 4 k ≤ n then
        let (num, den) := s.source k (s.nat 0x6100 5 k)
        s.rechoose (k / 16) fun s =>
          let x := s.ctx k
          s.setCtx k { x with
            seen := cell.sampleAt, periods := 0
            ready := if x.state = .run then some ⟨cell.sampleAt, s.now, num, den⟩ else x.ready }
      else s.setCtx k { x with seen := cell.sampleAt, periods := n }
    else s

/-- ENGINE_SLOT_START (R32, R88): a free engine evaluates the context that the block arbiter chooses. -/
def execEngineSlotStart (t : Tick) (b : BlockId) (s : State) : Host.Outcome State Fault Refusal :=
  s.live t fun s =>
    if bget 0 s.engineBusy b.val ≤ s.now then s.startSlot b else s

/-- CONTEXT_SKIP (R33, R108). -/
def execContextSkip (t : Tick) (k : CtxId) (s : State) : Host.Outcome State Fault Refusal :=
  s.live t fun s =>
    let x := s.ctx k
    match x.state, x.ready with
    | .run, some r =>
      if s.deadline k r < s.now then
        let prio := s.nat 0x6100 2 k
        let s := s.bump 0x6120 6 k
        let s := if prio = 0 then s.bump 0x4010 3 (k / 16) else s
        let s := s.setCtx k { x with ready := none, skipRun := x.skipRun + 1 }
        let s := s.raiseLimited k { ev 0x2104 (k / 16) with second := k.val, stateCode := 1 }
        if x.skipRun + 1 = s.nat 0x6100 0xB k then
          let s := s.raiseEngine (if prio ≤ 1 then 0x2101 else 0x2102) k (x.skipRun + 1) (s.cfg 0x6100 0xB k)
          if prio ≤ 1 then s.stopFed k else s
        else s
      else s
    | _, _ => s

/-- The code that u asks of a cell outside PFC and BAT (R96). -/
def State.plainCode (s : State) (c : Nat) (u : Int) : Int :=
  limitInt (s.zero c + rndDiv (u * 4096) 8388608 + s.trim c) 0 4095

/-- The command of a BAT group from a new u: limits, direction and codes (R139). -/
def State.deliverBat (s : State) (g : Nat) (u : Int) : State :=
  let d := rndDiv (s.batDemand g u * 4096) 8388608
  let db := s.cfg (0x6210 + g % 4) 3 (g / 4)
  let x := s.group g
  let dir := if !x.discharge ∧ d < -db then true else if x.discharge ∧ db < d then false else x.discharge
  let s := if dir = x.discharge then s else
    (s.setGroup g { x with discharge := dir }).raise { ev 0x2407 (g / 4) with
      value := d, limit := db, stateCode := x.state.code, second := g }
  (s.groupCells g).foldl (fun s c => s.deliverCode c (limitInt (s.zero c + d + s.trim c) 0 4095)) s

/-- A group command reaches its cells (R96): PFC cells form their code at their own period starts (R135). -/
def State.deliverGroup (s : State) (g : Nat) (u : Int) : State :=
  match s.role g with
  | 1 => s
  | 3 => s.deliverBat g u
  | _ => (s.groupCells g).foldl (fun s c => s.deliverCode c (s.plainCode c u)) s

/-- A trim reaches its cell (R96, R149); in role ISO the trim of cell m+1 holds for the unit. -/
def State.deliverTrim (s : State) (c : Nat) (u : Int) : State :=
  match s.cellGroup c with
  | some g =>
    let trim := rndDiv (u * 4096) 8388608
    if s.role g = 2 then
      if s.leads g c then (s.unitOf g c).foldl (fun s c => s.setCell c { s.cell c with trim := trim }) s else s
    else s.setCell c { s.cell c with trim := trim }
  | none => s

/-- An output goes to its destination (R96). -/
def State.deliver (s : State) (k : Nat) (u : Int) : State :=
  let d := s.nat 0x6100 9 k
  let base := s.ctxBase k
  if d < 4 then s.deliverGroup (4 * base + d) u
  else if 0x30 ≤ d ∧ d < 0x40 then s.deliverTrim (8 * base + (d - 0x30)) u
  else s

/-- COMMAND_DELIVERY (R105, R106, R109). -/
def execCommandDelivery (t : Tick) (k : CtxId) (s : State) : Host.Outcome State Fault Refusal :=
  s.live t fun s =>
    let x := s.ctx k
    match x.delivery with
    | some d =>
      if d.due ≤ s.now then
        (s.setCtx k { x with u := d.u, delivery := none, uHold := if x.state = .run ∧ !x.preset then x.uHold else d.u }).deliver k d.u
      else s
    | none => s

/-! ### Enabling -/

/-- A key of the destination that a context writes, equal for two contexts that write one destination; 0 for none. -/
def State.destKey (s : State) (k : Nat) : Nat :=
  let d := s.nat 0x6100 9 k
  let base := s.ctxBase k
  if d < 4 then 1000 + 4 * base + d
  else if 0x10 ≤ d ∧ d < 0x20 then 2000 + 16 * (k / 16) + (d - 0x10)
  else if 0x20 ≤ d ∧ d < 0x24 then 3000 + 4 * base + (d - 0x20)
  else if 0x30 ≤ d ∧ d < 0x40 then 4000 + 8 * base + (d - 0x30)
  else 0

/-- Whether the output of a context reaches another through cascades of enabled contexts (R110). -/
def State.cascades (s : State) : Nat → Nat → Nat → Bool
  | 0, _, _ => false
  | fuel + 1, k, target =>
    let d := s.nat 0x6100 9 k
    if 0x10 ≤ d ∧ d < 0x20 then
      let next := 16 * (k / 16) + (d - 0x10)
      decide (next = target) || (decide ((s.ctx next).state ≠ .disabled) && s.cascades fuel next target)
    else false

/-- P × d of a context, in ticks (R107). -/
def State.ctxInterval (s : State) (k : Nat) : Nat :=
  max 1 (s.nat 0x5010 2 (8 * s.ctxBase k + s.nat 0x6100 3 k) * s.nat 0x6100 4 k)

/-- 8 cycles each P × d, summed over contexts as an exact fraction of cycles per second (R107). -/
def State.cyclesOf (s : State) (ks : List Nat) : Nat × Nat :=
  ks.foldl (fun (n, d) k => (n * s.ctxInterval k + 8 * secTicks * d, d * s.ctxInterval k)) (0, 1)

/-- Whether the contexts ask for more than an engine has (R107). -/
def State.overBudget (s : State) (ks : List Nat) : Bool :=
  decide (320000000 * (s.cyclesOf ks).2 < (s.cyclesOf ks).1)

/-- The enabled contexts of an engine. -/
def State.enabledCtxs (s : State) (b : Nat) : List Nat :=
  ((List.range 16).map (16 * b + ·)).filter fun k => decide ((s.ctx k).state ≠ .disabled)

/-- The budget in use of an engine (0x4010.01), in whole cycles per second. -/
def State.budget (s : State) (b : Nat) : Nat := (s.cyclesOf (s.enabledCtxs b)).1 / (s.cyclesOf (s.enabledCtxs b)).2

/-- The checks of an enable (R90, R103, R107, R127, R150, R168); true where it is refused. -/
def State.enableRefused (s : State) (k : Nat) : Bool :=
  let b := k / 16
  let base := s.ctxBase k
  let d := s.nat 0x6100 9 k
  let others := ((s.ctxsOf base).filter fun i => decide (i ≠ k) && decide ((s.ctx i).state ≠ .disabled))
  let key := s.destKey k
  let fb := s.nat 0x6100 5 k
  let mode := s.nat 0x6100 7 k
  let c := 8 * base + s.nat 0x6100 3 k
  s.overBudget (k :: s.enabledCtxs b) ||
    (decide (key ≠ 0) && others.any fun i => decide (s.destKey i = key)) ||
    s.cascades 17 k k ||
    (decide (0x10 ≤ d ∧ d < 0x20) && decide (s.nat 0x6100 7 (16 * b + (d - 0x10)) ≠ 1)) ||
    (decide (s.nat 0x6100 2 k ≠ 0) && decide (5 * (s.nat 0x5010 2 c * s.nat 0x6100 4 k) < 128 * s.nat 0x6100 0xA k)) ||
    (decide (mode = 0) && (!(decide (0x30 ≤ fb ∧ fb < 0x60)) || (s.ctxGroup 17 k).isNone)) ||
    (decide (s.nat 0x6140 1 k ≠ 0) && decide (mode ≠ 2)) ||
    (decide (base ≠ b) && !(decide (d = 0xFF) || decide (0x30 ≤ d ∧ d < 0x40))) ||
    (!s.doubles base && (decide (8 ≤ s.nat 0x6100 3 k) || decide (8 ≤ fb ∧ fb < 0x10) || decide (0x38 ≤ d ∧ d < 0x40)))

/-- CONTEXT_ENABLE: a write of 0x6100.01 (R90). -/
def State.writeEnable (s : State) (k value : Nat) : State :=
  let x := s.ctx k
  let feedsRunning := match s.ctxGroup 17 k with
    | some g => (s.group g).state.running
    | none => false
  if 1 < value then s.result 0x13
  else if feedsRunning then s.result 0x23
  else
    match x.state with
    | .held | .heldUpstream | .fault => s.result 0x23
    | .run =>
      if value = 1 then s.result 0
      else ((s.setCtx k { x.initial with state := .disabled }).put 0x6100 1 k 0).result 0
    | .disabled =>
      if value = 0 then s.result 0
      else if s.enableRefused k then s.result 0x23
      else ((s.setCtx k { x.initial with state := .run }).put 0x6100 1 k 1).result 0

def execContextEnable (t : Tick) (src : Nat) (k : CtxId) (value : Nat) (s : State) : Host.Outcome State Fault Refusal :=
  s.live t fun s => s.dict (.contextEnable t (nodeOf src) k value) src 2 false fun s => s.writeEnable k value

/-! ### Hold and release -/

/-- The contexts of the same engine that are upstream of a context (R110). -/
def State.upstream (s : State) (k : Nat) : List Nat :=
  ((List.range 16).map (16 * (k / 16) + ·)).filter fun i => decide (i ≠ k) && s.cascades 17 i k

/-- A context enters HELD, and the contexts upstream of it HELD-UPSTREAM (R109, R110). A slot that starts in the same SYS cycle
goes to the next candidate; a sample that waits for a slot keeps waiting, for a release that comes in time (R117). -/
def State.hold (s : State) (k : Nat) : State :=
  let x := s.ctx k
  match x.state with
  | .held => s.result 0
  | .disabled | .fault => s.result 0x23
  | _ =>
    (s.rechoose (k / 16) fun s =>
      let s := s.setCtx k { s.ctx k with
        state := .held, uHold := (s.ctx k).u, holdSteps := 0, holdAt := s.now, overrun := false }
      (s.upstream k).foldl (fun s i =>
        if (s.ctx i).state = .run then s.setCtx i { s.ctx i with state := .heldUpstream, uHold := (s.ctx i).u } else s) s).result 0

/-- CONTEXT_HOLD: 0x6130.01 := 1 (R109). -/
def execContextHold (t : Tick) (src : Nat) (k : CtxId) (s : State) : Host.Outcome State Fault Refusal :=
  s.live t fun s => s.dict (.contextHold t (nodeOf src) k) src 2 false fun s => s.hold k

/-- The check of the bank that is to become active (Table 04-7): codes 3 to 6, or 0. DESIGN CHOICE (assumption 180): of several
checks that fail, the lowest code is the result. -/
def Coeffs.check (c : Coeffs) : Nat :=
  let unused : List Int := match c.form with
    | 0 => [c.b3, c.a3, c.kb]
    | 1 => [c.kb]
    | 2 => [c.b3, c.a2, c.a3]
    | _ => [c.a3]
  if c.form < 0 ∨ 3 < c.form then 3
  else if unused.any fun v => decide (v ≠ 0) then 4
  else if c.uMax < c.uMin then 5
  else if c.kb < 0 ∨ 268435456 < c.kb then 6
  else 0

/-- The sample that still waits for a slot of a context that was held, if its deadline has not passed (R117). -/
def State.waitingSample (s : State) (k : Nat) : Option Ready := (s.ctx k).ready.filter fun r => decide (s.now ≤ s.deadline k r)

/-- The context and those upstream of it that nothing else holds return to RUN with a preset (R113). -/
def State.releaseCtx (s : State) (k : Nat) (swap : Bool) : State :=
  let x := s.ctx k
  let s := s.setCtx k { x with
    active := if swap then x.staging else x.active
    staging := if swap then x.active else x.staging
    state := .run, preset := true, ready := s.waitingSample k }
  (s.upstream k).foldl (fun s i =>
    let held := ((List.range 16).map (16 * (k / 16) + ·)).any fun h =>
      decide ((s.ctx h).state = .held) && s.cascades 17 i h
    if (s.ctx i).state = .heldUpstream ∧ !held then s.setCtx i { s.ctx i with state := .run, preset := true, ready := s.waitingSample i } else s) s

/-- A release of a context (R112): the result reads at 0x6120.0A. -/
def State.release (s : State) (k : Nat) (swap : Bool) : State :=
  let x := s.ctx k
  let code :=
    match x.state with
    | .held => (if swap then x.staging else x.active).check
    | .heldUpstream => 2
    | _ => 1
  let s := s.put 0x6120 0xA k code
  if code = 0 then (s.releaseCtx k swap).result 0 else s.result 0x23

/-- RELEASE_WITH_SWAP: 0x6130.01 := 2 (R113). -/
def execReleaseWithSwap (t : Tick) (src : Nat) (k : CtxId) (s : State) : Host.Outcome State Fault Refusal :=
  s.live t fun s => s.dict (.releaseWithSwap t (nodeOf src) k) src 2 false fun s => s.release k true

/-- RELEASE_WITHOUT_SWAP: 0x6130.01 := 3 (R112). -/
def execReleaseWithoutSwap (t : Tick) (src : Nat) (k : CtxId) (s : State) : Host.Outcome State Fault Refusal :=
  s.live t fun s => s.dict (.releaseWithoutSwap t (nodeOf src) k) src 2 false fun s => s.release k false

/-- Hold time counted, in steps: up to now while a fed group runs (R115). -/
def State.holdTime (s : State) (k : Nat) : Nat :=
  let x := s.ctx k
  match s.ctxGroup 17 k with
  | some g => if (s.group g).state.running then x.holdSteps + (s.now - x.holdAt) else x.holdSteps
  | none => x.holdSteps

/-- The hold timer of a context expired in a SYS cycle that is over, in which a release would have won (R115). -/
def State.holdExpired (s : State) (k : Nat) : Bool :=
  let limit := s.nat 0x6100 0xC k * usTicks
  decide (limit ≤ s.holdTime k) && decide ((s.now - (s.holdTime k - limit)) / cycleTicks < s.now / cycleTicks)

/-- HOLD_OVERRUN (R115): the context stays HELD, the cells fed stop. -/
def execHoldOverrun (t : Tick) (k : CtxId) (s : State) : Host.Outcome State Fault Refusal :=
  s.live t fun s =>
    if (s.ctx k).state = .held ∧ !(s.ctx k).overrun ∧ s.holdExpired k then
      ((s.setCtx k { s.ctx k with overrun := true }).raiseEngine 0x2103 k ((s.holdTime k / usTicks : Nat) : Int) (s.cfg 0x6100 0xC k)).stopFed k
    else s

end Sys2Proof.Machine
end

