-- ==== Sys2Proof/Machine/Cells.lean ====
section
/-! DEFINITION. The commands of the switching cells (chapter 03) and the ramps of their units (R147, R157). -/

namespace Sys2Proof.Machine

/-! ### The period start -/

/-- A ramp of a unit has ended: the dwells restart, and after the last load-step add the offsets are rewritten
(R147, R154). It is judged at the unit's lead cell. -/
def State.rampEnded (s : State) (g : Nat) (loadStep : Bool) : State :=
  let s := s.restartDwells g
  let others := (s.rampUnits g).any fun u =>
    match (s.cell (leadCell u)).ramp with
    | .loadStepAdd _ => true
    | _ => false
  if loadStep && !others then
    (s.setGroup g { s.group g with recovering := false }).rewriteOffsets g
  else s

/-- The unit of a cell has come to HOLD (R147, R154): it is counted and journalled, and the others are respaced. -/
def State.unitParkedNow (s : State) (g : Nat) : State :=
  let s := (s.bump (0x6310 + g % 4) 7 (g / 4)).raise { ev 0x2507 (g / 4) with second := g, stateCode := 2 }
  (s.restartDwells g).rewriteOffsets g

/-- A load step accepted earlier in the SYS cycle of the period start at which a unit would have parked finds it in HOLD: its
step 3 brings the unit back (R157). -/
def State.parkedByStep (s : State) (g : Nat) (u : List Nat) : State :=
  let s := s.unitParkedNow g
  let x := s.group g
  if 0 < x.stepLeft ∧ !x.poolParked then
    (s.setGroup g { x with recovering := true, stepLeft := x.stepLeft - 1 }).addUnit g u (.loadStepAdd 0)
  else s

/-- The SYS cycle that runs is the one in which the block arbiter accepted the latest load step of a group. -/
def Group.stepNow (x : Group) (now : Tick) : Bool :=
  match x.stepAt with
  | some a => decide (a / cycleTicks = now / cycleTicks)
  | none => false

/-- The state that a cell takes at a period start (Table 03-4, R84, R147, R148, R157). -/
def State.periodState (s : State) (c : Nat) : State :=
  let x := s.cell c
  let g? := s.cellGroup c
  let lead (s : State) (f : State → Nat → State) : State :=
    match g? with
    | some g => if s.leads g c then f s g else s
    | none => s
  match x.state with
  | .start =>
    if x.startLeft = 0 then
      let s := s.setCell c { x with state := .run }
      match g? with
      | some g => (if (s.group g).state = .starting then (s.setGroupState g .run).enterMainsWait g else s).startRelays g
      | none => s
    else s.setCell c { x with startLeft := x.startLeft - 1 }
  | .run =>
    if x.parkRequest then
      lead (s.setCell c { x.rest s.now .hold with tookAt := some s.now }) State.unitParkedNow
    else
      match x.ramp with
      | .none => s
      | .reversed 0 =>
        match g? with
        | some g =>
          if (s.group g).stepNow s.now then
            lead (s.setCell c { x.rest s.now .hold with tookAt := some s.now }) fun s g => s.parkedByStep g (s.unitOf g c)
          else lead (s.setCell c { x with ramp := .none }) fun s g => s.rampEnded g false
        | none => s.setCell c { x with ramp := .none }
      | .reversed _ => lead (s.setCell c { x with ramp := .none }) fun s g => s.rampEnded g false
      | .shed 4 => lead (s.setCell c { x.rest s.now .hold with tookAt := some s.now }) State.unitParkedNow
      | .shed n => s.setCell c { x with ramp := .shed (n + 1) }
      | .add 3 => lead (s.setCell c { x with ramp := .none }) fun s g => s.rampEnded g false
      | .add n => s.setCell c { x with ramp := .add (n + 1) }
      | .loadStepAdd 1 => lead (s.setCell c { x with ramp := .none }) fun s g => s.rampEnded g true
      | .loadStepAdd n => s.setCell c { x with ramp := .loadStepAdd (n + 1) }
  | .hold =>
    if x.addRequest then
      s.setCell c { x with
        state := .run, addRequest := false, firstPeriod := true, runSince := some s.now, tookAt := some s.now
        ramp := match x.ramp with
          | .loadStepAdd _ => .loadStepAdd 1
          | .add _ => .add 1
          | r => r }
    else s
  | .stop =>
    if 4 ≤ x.stopPeriod then
      let s := (s.setCell c (x.rest s.now (s.restState c))).settleCell c
      match g? with
      | some g => if ((s.unitOf g c).filter fun i => decide ((s.cell i).state = .fault)) = [c] then s.unitLost g else s
      | none => s
    else s.setCell c { x with stopPeriod := x.stopPeriod + 1 }
  | _ => s

/-- The code of a PFC cell, formed at each period start (R135): d = rnd(u·Vnom/Vrms·s·4,096), 0 in MAINS WAIT. -/
def State.pfcCode (s : State) (g c : Nat) : Int :=
  let d : Int :=
    if (s.group g).state = .mainsWait then 0
    else
      match s.commandCtx g with
      | none => 0
      | some k =>
        let vnom := s.cfg (0x6210 + g % 4) 2 (g / 4)
        let vrms := (s.vrmsLimited (s.pfcPhase g)).toNat
        rndDiv ((s.ctx k).u * vnom * absSin (s.mainsAngle (s.pfcPhase g)) * 4096) (8388608 * vrms * fxOne.toNat)
  s.zero c + d + s.trim c

/-- The base code is formed at a period start where the role says so (R135). -/
def State.periodCode (s : State) (c : Nat) : State :=
  match s.cellGroup c with
  | some g =>
    if s.role g = 1 ∧ (s.cell c).switching then s.deliverCode c (s.pfcCode g c) else s
  | none => s

/-- The period and phase offset of the period that starts (R54): the new offset lengthens the first period. A rise that still
waits is dropped, but in LEG-TRIPPED, where it belongs to the half that ends: a delayed PWMB rise of INDEP comes again at its
next programmed position (assumption 167). -/
def State.periodTimes (s : State) (c : Nat) (x : Cell) (at0 : Tick) : Cell :=
  let p := s.nat 0x5010 2 c
  let o := s.nat 0x5010 3 c
  let len := p + (((o : Int) - (x.offset : Int)) % (p : Int)).toNat
  { x with
    period := p, offset := o, periodStart := at0, nextStart := at0 + len, secondHalf := false
    ceilingTripped := false, ceilingRun := if x.ceilingTripped then x.ceilingRun else 0, ceilingForced := false
    interval := false, switched := false
    points := x.points ++ [256 * at0 + s.nat 0x5011 4 c * p]
    waitA := if s.nat 0x5010 1 c = 4 then x.waitA else .none
    waitB := if s.nat 0x5010 1 c = 4 then x.waitB else .none
    throttle := x.throttleNext
    share := match s.cellGroup c with
      | some g => s.shareLimit g x.throttleNext
      | none => x.share
    discharge := match s.cellGroup c with
      | some g => (s.group g).discharge
      | none => x.discharge }

/-- The edges of a mode at the period start (Table 03-1, R475, R68). `forced` says that the ceiling held the safe state up to
now: in LEG-TRIPPED PWMB is then due as after the trip of the half that ends, and in INDEP a pulse across the start goes on. -/
def State.periodEdges (s : State) (c : Nat) (x : Cell) (forced : Bool) : State × Cell :=
  let mode := s.nat 0x5010 1 c
  let t := s.now
  let live := x.hasInterval mode && !x.skipped
  match mode with
  | 1 =>
    if s.valley c x then
      let x := (x.programFall .a t).fall .b t
      if live then s.programRise c .b true x else (s, x)
    else
      let x := (x.programFall .b t).fall .a t
      if live then s.programRise c .a true x else (s, x)
  | 2 =>
    let x := x.fall .a t
    let across := decide (s.nat 0x5010 0xA c < s.nat 0x5010 9 c) && !x.firstPeriod && x.pulses
    let x := if !across then x.fall .b t else x
    let (s, x) := if across && forced then s.programRise c .b false x else (s, x)
    if live then s.programRise c .a false x else (s, x)
  | 3 =>
    let x := x.programFall .b t
    if x.switching then s.programRise c .a true x else (s, x.fall .a t)
  | 4 =>
    if x.hasInterval mode then
      let (s, x) := if forced && !x.firstPeriod then s.programRise c .b true (x.fall .a t) else (s, x)
      (s, x.startInterval t)
    else (s, (x.fall .a t).fall .b t)
  | _ =>
    let x := (x.fall .a t).fall .b t
    if live then s.programRise c .a false x else (s, x)

/-- R68: a period is skipped when the code is at or below the zero code plus the skip margin. -/
def State.skips (s : State) (c : Nat) (x : Cell) : Bool :=
  x.hasInterval (s.nat 0x5010 1 c) && !s.valley c x && decide (s.nat 0x5010 1 c ≤ 2) &&
    decide (s.shaped c x ≤ s.zero c + s.cfg 0x5012 7 c)

/-- The share limit watch of R166: the time since which every period has been limited at L. -/
def State.limitWatch (s : State) (c : Nat) (x : Cell) : Cell :=
  let limited : Bool := match s.cellGroup c with
    | some _ => decide (x.share < ((x.base : Int) - s.zero c).natAbs)
    | none => false
  { x with limitedSince := if limited && x.switching then (if x.limitedSince.isNone then some s.now else x.limitedSince) else none }

/-- A note 0x1204 reaches the group manager: a classification begins for a unit in no ramp (R165). -/
def State.beginClassify (s : State) (c : Nat) : State :=
  match s.cellGroup c with
  | some g =>
    let x := s.group g
    if x.state = .run ∧ x.classify.isNone ∧ (s.cell c).noRipple ∧ (s.cell c).ramp = .none ∧ s.unitActive (s.unitOf g c) then
      s.setGroup g { x with
        addSince := none, shedSince := none
        classify := some {
          cell := c, left := s.nat (0x6300 + g % 4) 0x10 (g / 4)
          others := ((s.activeUnits g).filter fun u => !u.contains c).map fun u => (leadCell u, 0, 0) } }
    else s
  | none => s

/-- A period of a cell has ended in a classification window (R165). -/
def Classify.period (x : Classify) (c : Nat) (mean : Int) : Classify :=
  { x with
    left := if x.cell = c then x.left - 1 else x.left
    others := x.others.map fun (u, sum, n) => if u = c then (u, sum + mean, n + 1) else (u, sum, n) }

def State.classifyPeriod (s : State) (c : Nat) : State :=
  match s.cellGroup c with
  | some g =>
    match (s.group g).classify with
    | some k => s.setGroup g { s.group g with classify := some (k.period c ((s.cell c).meanCode - s.zero c)) }
    | none => s.beginClassify c
  | none => s

/-- The period before has its last conversion: its results are formed, and the group manager sees them (R63, R76, R77, R165). -/
def State.finishPeriod (s : State) (c : Nat) : State :=
  let x := s.cell c
  match x.ended with
  | some p =>
    let x := { x with ended := none }
    let x := if p.codeCount = 0 then x
      else { x with minCode := p.codeMin, maxCode := p.codeMax, meanCode := p.codeSum / p.codeCount }
    ((s.setCell c x).rippleEnd c p).classifyPeriod c
  | none => s

/-- The period start of a cell whose period counter runs (R54, R68, R70, R76, R84). -/
def State.periodStart (s : State) (c : Nat) (at0 : Tick) : State :=
  let s := s.finishPeriod c
  let x := (s.cell c).closePeriod at0
  let forced := x.ceilingForced
  let s := (s.setCell c (s.periodTimes c x at0)).periodState c
  if (s.cell c).state = .idle ∨ (s.cell c).state = .fault then s
  else
    let s := s.periodCode c
    let (s, x) := s.slopeStart c (s.cell c)
    let skipped := s.skips c x
    let s := if skipped then s.bump 0x5003 3 c else s
    let x := s.limitWatch c { x with skipped := skipped }
    if x.state = .hold then s.setCell c x
    else
      let (s, x) := s.periodEdges c x forced
      let s := if s.run.switched ∨ !x.switching then s
        else { s with run := { s.run with switched := true } }.put 0x2000 5 0
          (((s.now - s.run.releasedAt) / msTicks : Nat) : Int)
      s.setCell c { x with firstPeriod := false }

/-- CELL_PERIOD_START: the period start of a cell in START (after its check), RUN, HOLD or STOP, when it is due. The samples are
the latest conversions of its slope sources, at most 200 ns old (R71). -/
def execCellPeriodStart (t : Tick) (call : PeriodCall) (s : State) : Host.Outcome State Fault Refusal :=
  s.live t fun s =>
    let c := call.cell
    let s := s.applySamples call.samples
    let x := s.cell c
    let counts : Bool := match x.state with
      | .run | .hold | .stop => true
      | .start => x.checkPassed
      | _ => false
    if counts && decide (x.nextStart ≤ s.now) then s.periodStart c x.nextStart else s

/-! ### Conversions -/

/-- A conversion enters the sums of the period that holds its aperture: all of them, and those outside every blanking
interval (R63, R76). -/
def PeriodSum.count (p : PeriodSum) (code : Nat) (clear : Bool) : PeriodSum :=
  let p := { p with
    codeMin := min p.codeMin code, codeMax := max p.codeMax code, codeSum := p.codeSum + code, codeCount := p.codeCount + 1 }
  if clear then
    { p with rippleMin := min p.rippleMin code, rippleMax := max p.rippleMax code, rippleCount := p.rippleCount + 1 }
  else p

/-- A conversion in the period counter's time (R62): of the period that runs, else of the one before. -/
def State.countPeriod (s : State) (c : Nat) (x : Cell) (code : Nat) (aperture : Tick) : Cell :=
  let clear := clearOf x.intervals (blankTicks (s.nat 0x5012 2 c)) aperture && clearOf x.rises (blankTicks (s.nat 0x5012 5 c)) aperture
  if x.sums.start ≤ aperture then { x with sums := x.sums.count code clear }
  else { x with ended := x.ended.map fun p => p.count code clear }

/-- A conversion is the latest, and one of its turn (R297). -/
def Cell.countCode (x : Cell) (code : Nat) : Cell :=
  { x with latestCode := code, turnSum := x.turnSum + code, turnCount := x.turnCount + 1 }

/-- A conversion of the start offset check (R82): the first sixteen after entry to START count. -/
def Cell.countCheck (x : Cell) (code : Nat) : Cell :=
  if decide (x.state = .start) && !x.checkPassed && decide (x.checkCount < 16) then
    { x with checkCount := x.checkCount + 1, checkSum := x.checkSum + code }
  else x

/-- The control sample of a period: the first conversion whose aperture starts at or after its point (R63). -/
def Cell.takeSample (x : Cell) (code : Nat) (aperture : Tick) : Cell :=
  if x.points.any fun p => decide (p ≤ 256 * aperture) then
    { x with points := x.points.filter fun p => decide (256 * aperture < p), sampleCode := code, sampleAt := aperture }
  else x

/-- The run of over-range conversions outside IDLE and FAULT (R78). -/
def Cell.countOverRange (x : Cell) (code : Nat) : Cell :=
  let watched := decide (x.state ≠ .idle) && decide (x.state ≠ .fault)
  { x with overRange := if watched && (decide (code = 0) || decide (code = 4095)) then x.overRange + 1 else 0 }

/-- CELL_ADC_CONVERSION (R60, R62, R63, R76, R78, R82). -/
def execCellAdcConversion (t : Tick) (c : CellId) (nanoVolt : Int) (s : State) : Host.Outcome State Fault Refusal :=
  s.live t fun s =>
    let code := s.senseCode c nanoVolt
    let aperture := s.now - nsTicks 50
    let s := if (s.cell c).sums.start ≤ aperture then s.finishPeriod c else s
    let x := (((s.cell c).countCode code).countCheck code).takeSample code aperture
    let x := (s.countPeriod c x code aperture).countOverRange code
    if 4 ≤ x.overRange then
      (s.setCell c { x with overRange := 0 }).cellTrip
        { ev 0x1201 c with value := code, limit := if code = 0 then 0 else 4095, stateCode := x.state.code }
    else s.setCell c x

/-- CELL_OFFSET_CHECK_END (R82): 800 ns after entry to START, with 16 conversions taken. -/
def execCellOffsetCheckEnd (t : Tick) (c : CellId) (s : State) : Host.Outcome State Fault Refusal :=
  s.live t fun s =>
    let x := s.cell c
    if x.state = .start ∧ !x.checkPassed ∧ x.checkCount = 16 ∧ x.startAt + nsTicks 800 ≤ s.now then
      let zero := s.zero c
      if ((x.checkSum : Int) - 16 * zero).natAbs ≤ 16 * s.nat 0x5011 3 c then
        s.setCell c (s.joinSchedule c { x with checkPassed := true })
      else
        let s := s.raise { ev 0x1202 c with value := rndDiv x.checkSum 16, limit := s.cfg 0x5011 3 c, stateCode := 1 }
        s.stopCellNow c
    else s

/-! ### The comparators -/

/-- The maximum on-time has ended the interval in the PWM clock cycle that runs, 16 steps of 39.0625 ps (R51, R59). -/
def Cell.endedNow (x : Cell) (now : Tick) : Bool :=
  match x.maxEnd with
  | some a => decide (a / 16 = now / 16)
  | none => false

/-- A current beyond the threshold outside blanking: it ends the comparator-ended interval, once (R67). Where the maximum on-time
ended it in the same PWM clock cycle, the end counts as a trip, and not in 0x5003.02 (R59). -/
def State.trip (s : State) (c code : Nat) : State :=
  let x := s.cell c
  if s.peakBlankingOver c x ∧ s.beyond c x code then
    if x.interval then
      let (s, x) := s.endInterval c x
      s.setCell c x
    else if x.endedNow s.now then (s.put 0x5003 2 c (s.nat 0x5003 2 c - 1 : Nat)).setCell c { x with maxEnd := none }
    else s
  else s

/-- PEAK_COMPARATOR_TRIP (R67): a crossing outside blanking. -/
def execPeakComparatorTrip (t : Tick) (c : CellId) (nanoVolt : Int) (s : State) : Host.Outcome State Fault Refusal :=
  s.live t fun s => s.trip c (s.senseCode c nanoVolt)

/-- LEADING_EDGE_BLANKING_END (R66): a current beyond the threshold as blanking ends ends the interval at once. -/
def execLeadingEdgeBlankingEnd (t : Tick) (c : CellId) (nanoVolt : Int) (s : State) : Host.Outcome State Fault Refusal :=
  s.live t fun s => s.trip c (s.senseCode c nanoVolt)

/-- The span of which the maximum on-time is a fraction: the period, or in LEG-TRIPPED the running half (R59, R475). -/
def Cell.onTimeSpan (x : Cell) (mode : Nat) : Nat :=
  if mode = 4 then (if x.secondHalf then x.period - x.period / 2 else x.period / 2) else x.period

/-- MAXIMUM_ON_TIME_END (R59). -/
def execMaximumOnTimeEnd (t : Tick) (c : CellId) (s : State) : Host.Outcome State Fault Refusal :=
  s.live t fun s =>
    let x := s.cell c
    if x.interval ∧ x.intervalStart + s.nat 0x5010 6 c * x.onTimeSpan (s.nat 0x5010 1 c) / 65536 ≤ s.now then
      let (s, x) := (s.bump 0x5003 2 c).endInterval c x
      s.setCell c { x with maxEnd := some s.now }
    else s

/-- The safe state is forced (R74): PWMA low, and PWMB low or high; the interval ends, and a first trip of the period
counts for the run of R75. A PWMB that is to go high waits for its own dead time, as R58 asks in every mode
(assumption 168). -/
def Cell.forceSafe (x : Cell) (bHigh : Bool) (dtb : Nat) (now : Tick) : Cell :=
  let x := { x.fall .a now with waitB := .none }
  let x := if !bHigh then x.fall .b now
    else if x.levelB then x
    else if x.mayRise .b 0 dtb now then x.goHigh .b now
    else { x with waitB := .programmed }
  { x with
    interval := false, ceilingForced := true
    ceilingRun := if x.ceilingTripped then x.ceilingRun else x.ceilingRun + 1
    ceilingTripped := true }

/-- CEILING_TRIP (R73 to R75). -/
def execCeilingTrip (t : Tick) (c : CellId) (nanoVolt : Int) (s : State) : Host.Outcome State Fault Refusal :=
  s.live t fun s =>
    let code := s.senseCode c nanoVolt
    let x := s.cell c
    let high := s.nat 0x5012 3 c
    let low := s.nat 0x5012 4 c
    if (x.state = .start ∨ x.state = .run ∨ x.state = .stop) ∧ ceilingOpen (blankTicks (s.nat 0x5012 5 c)) x.riseA x.riseB s.now ∧
        !x.ceilingForced ∧ (high < code ∨ code < low) then
      let s := s.bump 0x5003 1 c
      let x := x.forceSafe (decide (s.nat 0x5010 8 c = 1)) (s.nat 0x5010 5 c) s.now
      let e (code' : Nat) : Event :=
        { ev code' c with value := code, limit := if high < code then high else low, stateCode := x.state.code }
      if s.nat 0x5012 6 c ≤ x.ceilingRun then (s.setCell c { x with ceilingRun := 0 }).cellTrip (e 0x1101)
      else (s.setCell c x).raiseLimited c (e 0x1102)
    else s

/-- Whether the chip holds a cell's drive token, so that it drives the cell's pins (R27, R28). -/
def State.holdsToken (s : State) (c : Nat) : Bool := decide (s.cfg 0x5005 1 c = 1)

/-- PWM_NET_MISMATCH (R78): raised only while the chip drives the cell's pins. -/
def execPwmNetMismatch (t : Tick) (c : CellId) (net : Net) (s : State) : Host.Outcome State Fault Refusal :=
  s.live t fun s =>
    if s.holdsToken c then
      s.cellTrip { ev 0x1301 c with
        value := match net with
          | .a => 0
          | .b => 1
        stateCode := (s.cell c).state.code }
    else s

/-! ### Edges inside the period -/

/-- HALF_PERIOD_START (R475): the second half of a LEG mode begins at step floor(P/2). In LEG-TRIPPED, where the ceiling has held
the safe state up to now, PWMA is due as after a trip of the first half (assumption 169). -/
def execHalfPeriodStart (t : Tick) (c : CellId) (s : State) : Host.Outcome State Fault Refusal :=
  s.live t fun s =>
    let x := s.cell c
    let mode := s.nat 0x5010 1 c
    if x.switching ∧ (mode = 3 ∨ mode = 4) ∧ !x.secondHalf ∧ x.periodStart + x.period / 2 ≤ s.now then
      let forced := x.ceilingForced
      let x := { x with secondHalf := true, ceilingForced := false }
      if mode = 3 then
        let (s, x) := s.programRise c .b true (x.programFall .a s.now)
        s.setCell c x
      else if x.hasInterval mode then
        let (s, x) := if forced then s.programRise c .a true (x.fall .b s.now) else (s, x)
        s.setCell c (x.startInterval s.now)
      else s.setCell c ((x.fall .a s.now).fall .b s.now)
    else s

/-- DEAD_TIME_END (R57, R58): the waiting rise of an output happens once the other is low and its dead time is over; in the safe
state it starts no interval (R74). -/
def execDeadTimeEnd (t : Tick) (c : CellId) (net : Net) (s : State) : Host.Outcome State Fault Refusal :=
  s.live t fun s =>
    let x := s.cell c
    let waits : Bool := match net with
      | .a => decide (x.waitA ≠ .none)
      | .b => decide (x.waitB ≠ .none)
    if waits ∧ x.mayRise net (s.nat 0x5010 4 c) (s.nat 0x5010 5 c) s.now then
      s.setCell c (if x.ceilingForced then x.goHigh net s.now else x.raiseNet (s.nat 0x5010 1 c) (s.valley c x) net s.now)
    else s

/-- PWMB_PROGRAMMED_EDGE (R475): in INDEP mode, PWMB's rise or fall at its programmed position. -/
def execPwmbProgrammedEdge (t : Tick) (c : CellId) (rise : Bool) (s : State) : Host.Outcome State Fault Refusal :=
  s.live t fun s =>
    let x := s.cell c
    let at0 := s.nat 0x5010 (if rise then 9 else 0xA) c
    if x.switching ∧ s.nat 0x5010 1 c = 2 ∧ s.nat 0x5010 9 c ≠ s.nat 0x5010 0xA c ∧ x.periodStart + at0 ≤ s.now ∧
        x.pulses then
      if rise then
        let (s, x) := s.programRise c .b false x
        s.setCell c x
      else if x.ceilingForced then s
      else s.setCell c { x.fall .b s.now with waitB := .none }
    else s

end Sys2Proof.Machine
end

