-- ==== Sys2Proof/Machine/Groups.lean ====
section
/-! DEFINITION. The commands of the group slots (chapter 05): starts and stops, the setpoint target, power-good, mains
wait, bulk undervoltage, the relays of a BAT group and the target of a BST group, with what a turn does for a group. -/

namespace Sys2Proof.Machine

/-- The upper block of a doubles pair refuses writes to its copies (R31, R167). -/
def State.upperCopy (s : State) (b : Nat) : Bool := decide (b % 2 = 1) && s.doubles (b - 1)

/-- A group command from the dictionary, with operator authority (R129, R144). -/
def State.dictGroup (s : State) (c : Instr) (src g : Nat) (f : State → State) : State :=
  s.dict c src 1 false fun s => if s.upperCopy (g / 4) then s.result 0x23 else f s

/-- GROUP_START: 0x6200+j.01 := 1 (R129, R130). -/
def execGroupStart (t : Tick) (src : Nat) (g : GroupId) (s : State) : Host.Outcome State Fault Refusal :=
  s.live t fun s => s.dictGroup (.groupStart t (nodeOf src) g) src g fun s => s.groupCommand g 1

/-- GROUP_ORDERLY_STOP: 0x6200+j.01 := 2 (R133, R134, R141). -/
def execGroupOrderlyStop (t : Tick) (src : Nat) (g : GroupId) (s : State) : Host.Outcome State Fault Refusal :=
  s.live t fun s => s.dictGroup (.groupOrderlyStop t (nodeOf src) g) src g fun s => s.groupCommand g 2

/-- GROUP_IMMEDIATE_STOP: 0x6200+j.01 := 3 (R133). -/
def execGroupImmediateStop (t : Tick) (src : Nat) (g : GroupId) (s : State) : Host.Outcome State Fault Refusal :=
  s.live t fun s => s.dictGroup (.groupImmediateStop t (nodeOf src) g) src g fun s => s.groupCommand g 3

/-- A target as stored: the nearer end of the window, with the clamp flag and 0x2401 where it lay outside (R125). DESIGN CHOICE
(assumption 175): where the minimum of a BST window lies above its ceiling, a target below the minimum is stored as the minimum
and any other above the ceiling as the ceiling. -/
def State.writeTarget (s : State) (g : Nat) (v : Int) : State :=
  let j := 0x6200 + g % 4
  let b := g / 4
  let w := limitInt v (s.cfg j 6 b) (s.cfg j 7 b)
  let s := s.put j 3 b w
  if w = v then s.result 0
  else ((s.put j 8 b 1).raise { ev 0x2401 b with value := v, limit := w, stateCode := (s.group g).state.code, second := g }).result 1

/-- A stored target that its window no longer holds is clamped (R125). -/
def State.clampTarget (s : State) (g : Nat) : State :=
  let j := 0x6200 + g % 4
  let v := s.cfg j 3 (g / 4)
  if limitInt v (s.cfg j 6 (g / 4)) (s.cfg j 7 (g / 4)) = v then s else s.writeTarget g v

/-- A target write reaches the block arbiter at rank 3 (R34). -/
def State.commandTarget (s : State) (g : Nat) (v : Int) : State := s.groupAccept g 3 false fun s => s.writeTarget g v

/-- SETPOINT_TARGET_WRITE (R125). -/
def execSetpointTargetWrite (t : Tick) (src : Nat) (g : GroupId) (milliVolt : Nat) (s : State) :
    Host.Outcome State Fault Refusal :=
  s.live t fun s => s.dictGroup (.setpointTargetWrite t (nodeOf src) g milliVolt) src g fun s => s.commandTarget g milliVolt

/-! ### What a turn does for a group -/

/-- The slew of one turn: mV/ms is µV per turn (R126). -/
def State.slewGroup (s : State) (g : Nat) : State :=
  let x := s.group g
  if x.state = .run then
    let goal := s.target g * 1000
    let d := s.cfg (0x6200 + g % 4) 5 (g / 4)
    s.setGroup g { x with forceMicro := limitInt goal (x.forceMicro - d) (x.forceMicro + d) }
  else s

/-- The target that power-good is judged against (R131, R142). -/
def State.goodTarget (s : State) (g : Nat) : Int := if s.role g = 4 then (s.group g).bstTarget else s.target g

/-- Whether the measured output lies within the power-good band (R131). -/
def State.inBand (s : State) (g : Nat) : Bool :=
  let goal := s.goodTarget g
  decide ((s.measured g - goal).natAbs * 1000 ≤ s.nat (0x6200 + g % 4) 0xA (g / 4) * goal.toNat)

/-- Whether the output deviates from the setpoint in force as R155 asks. -/
def State.deviates (s : State) (g : Nat) : Bool :=
  let x := s.group g
  let d := s.measured g * 1000 - x.forceMicro
  let far (v : Int) := decide (s.cfg (0x6300 + g % 4) 0xA (g / 4) * x.forceMicro < v * 1000)
  x.powerGood && (if s.role g = 3 then decide (x.state = .run) && far (-d) else far d.natAbs)

/-- The judgements that hold over a time follow the present samples (R131, R138, R155). -/
def State.watchGroup (s : State) (g : Nat) : State :=
  let x := s.group g
  let inB := s.inBand g
  let v := s.nat (0x6210 + g % 4) 2 (g / 4)
  let low := decide (s.role g = 2) && decide (v < 48) && decide (x.state = .starting ∨ x.state = .run) &&
    decide (s.inputMilliVolt v < s.cfg (0x6210 + g % 4) 3 (g / 4) * 100)
  let dev := s.deviates g
  s.setGroup g { x with
    inBandSince := track s.now x.inBandSince (decide (x.state = .run) && inB && decide (x.forceMicro = s.target g * 1000))
    outBandSince := track s.now x.outBandSince (!inB)
    bulkLowSince := track s.now x.bulkLowSince low
    devSince := track s.now x.devSince dev
    devRaised := x.devRaised && dev }

/-- Parts of a code in which the group current source is held: every size of a mask divides them. -/
def codeParts : Int := 720720

/-- The group current source of R155 in parts of a code: the group current sense, else the group sum. -/
def State.currentCodes (s : State) (g : Nat) : Int :=
  let v := s.nat (0x6300 + g % 4) 1 (g / 4)
  if v < 48 then s.voltCode v * codeParts / 65536
  else if v = 0xFE ∧ s.role g = 4 then ((s.feed (s.nat (0x6210 + g % 4) 1 (g / 4))).isns : Nat) * codeParts
  else
    let (n, d) := s.groupSum g
    n * (4096 * codeParts / (d : Int))

/-- A load step is offered to the block arbiter (R155). -/
def State.offerLoadStep (s : State) (g kind : Nat) : State :=
  let x := s.group g
  s.setGroup g { x with stepOffered := if x.stepOffered = 1 then 1 else kind }

/-- The di/dt trigger at a turn boundary (R155). -/
def State.didtGroup (s : State) (g : Nat) : State :=
  let x := s.group g
  let v := s.currentCodes g
  let limit := s.cfg (0x6300 + g % 4) 9 (g / 4)
  let s := s.setGroup g { x with lastCurrent := some v }
  match x.lastCurrent with
  | some p => if 0 < limit ∧ limit * codeParts < v - p then s.offerLoadStep g 1 else s
  | none => s

/-- The per-turn functions of a group that is not stopped. -/
def State.turnGroup (s : State) (g : Nat) : State :=
  match (s.group g).state with
  | .stopped => s
  | _ => (((s.slewGroup g).watchGroup g).didtGroup g).updateDwells g

/-- The groups that are not STOPPED. -/
def State.liveGroups (s : State) : List Nat := (List.range 64).filter fun g => decide ((s.group g).state ≠ .stopped)

/-! ### Power-good and the waits -/

/-- ISO groups in WAIT UPSTREAM that are linked to a PFC group start when it sets power-good (R138). -/
def State.startWaiting (s : State) (g : Nat) : State :=
  if s.role g = 1 then
    (((List.range 4).map (4 * (g / 4) + ·)).filter fun i =>
      decide (s.role i = 2) && decide ((s.group i).state = .waitUpstream) &&
        decide (s.nat (0x6210 + i % 4) 1 (i / 4) = g % 4)).foldl State.beginStart s
  else s

/-- Power-good of a group is set. -/
def State.setGood (s : State) (g : Nat) : State :=
  (s.setGroup g { s.group g with powerGood := true, awaitGood := false }).startWaiting g

/-- GROUP_POWER_GOOD (R131): the conditions have held together for 1 ms. A BAT group follows R140. -/
def execGroupPowerGood (t : Tick) (g : GroupId) (s : State) : Host.Outcome State Fault Refusal :=
  s.live t fun s =>
    let x := s.group g
    if x.state = .run ∧ !x.powerGood ∧
        (if s.role g = 3 then x.relayOpen else s.since x.inBandSince msTicks) then s.setGood g
    else s

/-- GROUP_POWER_GOOD_LOSS (R131): outside the band for 100 µs. -/
def execGroupPowerGoodLoss (t : Tick) (g : GroupId) (s : State) : Host.Outcome State Fault Refusal :=
  s.live t fun s =>
    let x := s.group g
    if x.powerGood ∧ s.role g ≠ 3 ∧ s.since x.outBandSince (100 * usTicks) then s.setGroup g { x with powerGood := false }
    else s

/-- GROUP_START_TIMEOUT (R132): 0x2403 for every cell of the group, and an orderly stop. -/
def execGroupStartTimeout (t : Tick) (g : GroupId) (s : State) : Host.Outcome State Fault Refusal :=
  s.live t fun s =>
    let x := (s.group g).countStart s.now
    let limit := s.nat (0x6200 + g % 4) 0xB (g / 4)
    if x.awaitGood ∧ x.state.running ∧ x.state ≠ .stopping ∧ limit * msTicks ≤ x.startSteps then
      let s := s.setGroup g { x with awaitGood := false }
      let s := s.raise { ev 0x2403 (g / 4) with
        value := ((x.startSteps / msTicks : Nat) : Int), limit := limit, stateCode := x.state.code, second := g
        owners := (s.groupCells g).map Elem.cell }
      (s.markStop g).stopGroup g
    else s

/-- MAINS_WAIT_EXIT (R136): the preconditions of Table 05-7 hold again. -/
def execMainsWaitExit (t : Tick) (g : GroupId) (s : State) : Host.Outcome State Fault Refusal :=
  s.live t fun s =>
    if s.role g = 1 ∧ (s.group g).state = .mainsWait ∧ s.pfcReady g then
      ((s.resetFeeders g).presetForce g).setGroupState g .run
    else s

/-- The group stops in order and then waits for its upstream, with its run request kept. -/
def State.waitUpstream (s : State) (g : Nat) : State :=
  let s := s.setGroupState g .stopping
  let s := s.setGroup g { s.group g with toWait := true }
  (s.cellsOrderly (s.groupCells g)).settle g

/-- ISO_BULK_UNDERVOLTAGE (R138): the cells stop in order, and the group then waits with its run request kept. -/
def execIsoBulkUndervoltage (t : Tick) (g : GroupId) (s : State) : Host.Outcome State Fault Refusal :=
  s.live t fun s =>
    let x := s.group g
    if s.role g = 2 ∧ (x.state = .starting ∨ x.state = .run) ∧ s.since x.bulkLowSince (100 * usTicks) then
      let v := s.inputMilliVolt (s.nat (0x6210 + g % 4) 2 (g / 4))
      let s := s.raise { ev 0x2405 (g / 4) with
        value := v, limit := s.cfg (0x6210 + g % 4) 3 (g / 4) * 100
        stateCode := if x.state = .run then 2 else 1, second := g.val }
      s.waitUpstream g
    else s

/-! ### BAT and BST -/

/-- RELAY_OPEN_CONFIRMED (R140): 25 ms after the first edge. -/
def execRelayOpenConfirmed (t : Tick) (g : GroupId) (s : State) : Host.Outcome State Fault Refusal :=
  s.live t fun s =>
    let x := s.group g
    if s.role g = 3 ∧ !x.relayOpen ∧ s.since x.relayEdge (25 * msTicks) then
      let s := s.setGroup g { x with relayOpen := true }
      if x.state = .run then s.setGood g else s
    else s

/-- BAT_STOP_RELAY_DELAY_END (R141): the relays have closed, and the cells get their orderly stops. -/
def execBatStopRelayDelayEnd (t : Tick) (g : GroupId) (s : State) : Host.Outcome State Fault Refusal :=
  s.live t fun s => if s.since (s.group g).stopHold (25 * msTicks) then s.stopGroupCells g else s

/-- The enabled context that writes the booster target of a group (R96). -/
def State.boosterCtx (s : State) (g : Nat) : Option Nat :=
  (s.ctxsOf (g / 4)).find? fun k =>
    decide ((s.ctx k).state ≠ .disabled) && decide (s.nat 0x6100 9 k = 0x20 + g % 4) && decide (s.ctxBase k = g / 4)

/-- The unlimited target of a BST group in mV (R142). -/
def State.bstDemand (s : State) (g : Nat) : Int :=
  match s.boosterCtx g with
  | some k => rndDiv ((s.ctx k).u * s.cfg 0x7800 1 (s.nat (0x6200 + g % 4) 0xE (g / 4))) 8388608
  | none =>
    rndDiv ((s.group g).forceMicro * 1000 + (s.group g).feedMicroAmp * s.cfg (0x6210 + g % 4) 2 (g / 4)) 1000000

/-- BST_TARGET_UPDATE (R142), every 10 µs. -/
def execBstTargetUpdate (t : Tick) (g : GroupId) (s : State) : Host.Outcome State Fault Refusal :=
  s.live t fun s =>
    let due : Bool := match (s.group g).bstAt with
      | some a => decide (a + 10 * usTicks ≤ s.now)
      | none => true
    if s.role g = 4 ∧ due then
      let x := s.group g
      let f := s.nat (0x6210 + g % 4) 1 (g / 4)
      let i := if f < 24 then s.idMilli f * 1000 else 0
      let a := lowPass 10 (s.nat (0x6210 + g % 4) 3 (g / 4))
      let s := s.setGroup g { x with feedMicroAmp := x.feedMicroAmp + (i - x.feedMicroAmp) * a / fxOne, bstAt := some s.now }
      let want := s.bstDemand g
      let low := rndDiv x.forceMicro 1000
      let s := s.setGroup g { s.group g with bstTarget := limitInt want low s.feedCeiling }
      if s.feedCeiling < want then
        s.raiseLimited g { ev 0x2406 (g / 4) with
          value := want, limit := s.feedCeiling, stateCode := x.state.code, second := g }
      else s
    else s

end Sys2Proof.Machine
end

