-- ==== Sys2Proof/Machine/Phases.lean ====
section
/-! DEFINITION. The commands of the group and pool managers (chapter 06): adds and sheds, load steps, the sense ratio,
classification of a quiet unit, brick pools, doubles and the save of run times. -/

namespace Sys2Proof.Machine

/-! ### Adds and sheds (R153, R154) -/

/-- The units that an add may bring back: available, and parked or idle after a reset (R47, R154). -/
def State.addable (s : State) (g : Nat) : List (List Nat) :=
  (s.availableUnits g).filter fun u =>
    (s.unitParked u && u.all fun c => !(s.cell c).addRequest) || u.all fun c => decide ((s.cell c).state = .idle)

/-- The units of a group in a shed ramp. -/
def State.shedding (s : State) (g : Nat) : Bool :=
  (s.rampUnits g).any fun u =>
    match (s.cell (leadCell u)).ramp with
    | .shed _ => true
    | _ => false

/-- One unit is added without a dwell, or the running shed is reversed; `none` where R154 does not allow it. -/
def State.phaseAdd (s : State) (g : Nat) : Option State :=
  if (s.group g).state ≠ .run ∨ (s.group g).classify.isSome ∨ (s.group g).poolParked then none
  else if s.shedding g then
    some (((s.reverseRamps g).bump (0x6310 + g % 4) 6 (g / 4)).raise { ev 0x2506 (g / 4) with second := g, stateCode := 2 })
  else if !(s.rampUnits g).isEmpty then none
  else
    match s.leastWorn (s.addable g) with
    | none => none
    | some u =>
      if s.unitParked u then some (((s.addUnit g u (.add 0)).rewriteOffsets g).restartDwells g)
      else
        let s := u.foldl State.cellStart s
        let s := (s.bump (0x6310 + g % 4) 6 (g / 4)).raise { ev 0x2506 (g / 4) with second := g, stateCode := 2 }
        some ((s.rewriteOffsets g).restartDwells g)

/-- One unit is shed without a dwell; `none` where R154 does not allow it. -/
def State.phaseShed (s : State) (g : Nat) : Option State :=
  let n := (s.activeUnits g).length
  if (s.group g).state ≠ .run ∨ (s.group g).classify.isSome ∨ (s.group g).poolParked ∨ !(s.rampUnits g).isEmpty then none
  else if n ≤ s.nat (0x6300 + g % 4) 2 (g / 4) ∨ n ≤ 1 then none
  else
    match s.mostWorn ((s.activeUnits g).filter fun u => u.all fun c => decide ((s.cell c).state = .run)) with
    | none => none
    | some u =>
      let s := u.foldl (fun s c => s.setCell c { s.cell c with ramp := .shed 0 }) s
      some (s.restartDwells g)

/-- PHASE_ADD_DECISION (R153, R154): the add condition has held for the add dwell. With ℓ_full = 0 every available unit
runs, so a unit that a reset left idle is added at once. -/
def execPhaseAddDecision (t : Tick) (g : GroupId) (s : State) : Host.Outcome State Fault Refusal :=
  s.live t fun s =>
    let j := 0x6300 + g.val % 4
    let due := s.since (s.group g).addSince (s.nat j 6 (g / 4) * usTicks)
    let all := decide (s.cfg j 3 (g / 4) = 0) && (s.addable g).any fun u => !s.unitParked u
    if due || all then s.groupAccept g 4 false fun s => (s.phaseAdd g).getD s else s

/-- PHASE_SHED_DECISION (R153, R154): the shed condition has held for the shed dwell. -/
def execPhaseShedDecision (t : Tick) (g : GroupId) (s : State) : Host.Outcome State Fault Refusal :=
  s.live t fun s =>
    if s.since (s.group g).shedSince (s.nat (0x6300 + g % 4) 7 (g / 4) * msTicks) then
      s.groupAccept g 5 false fun s => (s.phaseShed g).getD s
    else s

/-! ### Load steps (R155, R156, R162) -/

/-- DEVIATION_LOAD_STEP (R155): the deviation has lasted 1 µs; it is offered to the block arbiter once. -/
def execDeviationLoadStep (t : Tick) (g : GroupId) (s : State) : Host.Outcome State Fault Refusal :=
  s.live t fun s =>
    let x := s.group g
    if s.since x.devSince usTicks ∧ !x.devRaised then
      (s.setGroup g { x with devRaised := true }).offerLoadStep g 1
    else s

/-- A pool load step (R162): a rotation's park is cancelled (R161). -/
def State.poolLoadStep (s : State) (p : Nat) : State :=
  let s := s.raiseLimited p { ev 0x4502 0 with value := p }
  let s := (s.members p).foldl (fun s g =>
    if (s.group g).state = .run ∧ (s.group g).poolParked ∧ s.shedding g then
      (s.setGroup g { s.group g with poolParked := false }).reverseRamps g
    else s) s
  let s := (s.parkedMembers p).foldl (fun s g => s.addMember p g (.loadStepAdd 0)) s
  let s := s.setPool p { s.pool p with shedSince := none, rotating := none, fullSince := none }
  (s.members p).foldl (fun s g => s.offerLoadStep g 2) s

/-- A load step of a group: one of a pool member's own is a pool load step, which comes first, so that a parked member is brought
back with all its units (R156, R162). -/
def State.runLoadStep (s : State) (g : Nat) (own : Bool) : State :=
  match s.poolOf g with
  | some p =>
    if own ∧ (s.group g).state = .run then
      let s := s.poolLoadStep p
      (s.setGroup g { s.group g with stepOffered := 0 }).loadStep g
    else s.loadStep g
  | none => s.loadStep g

/-- LOAD_STEP (R34, R156): the block arbiter takes the load step that waits for the group, at rank 2. -/
def execLoadStep (t : Tick) (g : GroupId) (s : State) : Host.Outcome State Fault Refusal :=
  s.live t fun s =>
    let kind := (s.group g).stepOffered
    if kind = 0 then s
    else (s.setGroup g { s.group g with stepOffered := 0 }).groupAccept g 2 false fun s => s.runLoadStep g (decide (kind = 1))

/-! ### Sense ratio and classification (R164, R165) -/

/-- Whether a group has a group current sense (R163). -/
def State.hasSense (s : State) (g : Nat) : Bool :=
  let v := s.nat (0x6300 + g % 4) 1 (g / 4)
  decide (v < 48) || (decide (v = 0xFE) && decide (s.role g = 4))

/-- SENSE_RATIO_UPDATE (R164), each 1 ms, with the mean group sense code: ρ is kept in Q16.32. -/
def execSenseRatioUpdate (t : Tick) (g : GroupId) (senseCode : Nat) (s : State) : Host.Outcome State Fault Refusal :=
  s.live t fun s =>
    let x := s.group g
    let us := s.activeUnits g
    let sum := us.foldl (fun a u => a + ((s.cell (leadCell u)).meanCode - s.zero (leadCell u))) (0 : Int)
    if s.hasSense g ∧ x.state = .run ∧ (s.rampUnits g).isEmpty ∧
        !(us.any fun u => u.any fun c => (s.cell c).noRipple) ∧
        s.cfg (0x6300 + g % 4) 3 (g / 4) * 256 ≤ 4 * x.load ∧ 0 < sum then
      let m := (senseCode : Int) * 16384 * 65536 / sum
      s.setGroup g { x with
        rho := if x.rhoCount = 0 then m else x.rho + (m - x.rho) / 64
        rhoCount := x.rhoCount + 1 }
    else s

/-- The classification of a window (R165): 1 open, 2 sense failed, 3 unclassified, 4 no evidence. -/
def State.classOf (s : State) (g : Nat) (k : Classify) (senseCode : Nat) : Nat :=
  let x := s.group g
  let n : Int := k.others.length
  if !s.hasSense g ∨ x.rhoCount < 64 ∨ x.rho ≤ 0 ∨ k.others.isEmpty then 4
  else
    let others := k.others.foldl (fun a (_, sum, m) => a + (if m = 0 then 0 else sum * 1048576 / (m : Int))) (0 : Int)
    let out := (senseCode : Int) * 1048576 * 1073741824 / x.rho
    if others ≤ 0 then 3
    else if (out - others) * n * 100 < 35 * others then 1
    else if 65 * others < (out - others) * n * 100 then 2
    else 3

/-- NO_RIPPLE_CLASSIFICATION (R165): the window of the unit that went quiet has ended. -/
def execNoRippleClassification (t : Tick) (c : CellId) (senseCode : Nat) (s : State) : Host.Outcome State Fault Refusal :=
  s.live t fun s =>
    match s.cellGroup c with
    | none => s
    | some g =>
      match (s.group g).classify with
      | none => s
      | some k =>
        if k.cell = c.val ∧ k.left = 0 then
          let u := s.unitOf g c
          let r := s.classOf g k senseCode
          let s := (s.setGroup g { s.group g with classify := none }).put (0x6310 + g % 4) 0xA (g / 4) r
          let code := if r = 1 then 0x2501 else if r = 2 then 0x2502 else 0x2503
          let s := s.raise { ev code (g / 4) with
            value := senseCode, stateCode := 2, second := g, owners := u.map Elem.cell }
          let s := s.markStop g
          if r = 1 then (s.cellsOrderly u).settle g else ((s.cellsImmediate u).settle g).unitLost g
        else s

/-- SHARE_LIMIT_ACTIVE (R166): a cell of the group has been limited at L in every period for 1 ms. -/
def execShareLimitActive (t : Tick) (g : GroupId) (s : State) : Host.Outcome State Fault Refusal :=
  s.live t fun s =>
    if (s.groupCells g).any fun c => s.since (s.cell c).limitedSince msTicks then
      s.raiseLimited g { ev 0x2505 (g / 4) with limit := s.cfg (0x6300 + g % 4) 0xC (g / 4), stateCode := 2, second := g }
    else s

/-! ### Pools (R158 to R161) -/

/-- Λ in millionths of a member (R159). -/
def State.poolLoad (s : State) (p : Nat) : Int :=
  (s.activeMembers p).foldl (fun a g =>
    let full := s.cfg (0x6300 + g % 4) 3 (g / 4)
    if full ≤ 0 then a else a + (s.group g).load * 1000000 / (full * 256)) 0

/-- The conditions of R159 and the weight-1 time of a rotation's member follow the present loads, once a turn. -/
def State.turnPool (s : State) (p : Nat) : State :=
  if s.cfg (0x2100 + p) 0x1A 0 = 1 then
    let x := s.pool p
    let n : Int := (s.activeMembers p).length
    let load := s.poolLoad p
    let idle := !s.memberRampRuns p
    let add := idle && decide (0 < n) && !(s.parkedMembers p).isEmpty &&
      decide (s.cfg (0x2100 + p) 0x12 0 * 1000 * n < load)
    let shed := idle && decide (s.cfg (0x2100 + p) 0x11 0 < n) && decide (1 < n) &&
      decide (load < s.cfg (0x2100 + p) 0x13 0 * 1000 * (n - 1))
    let full : Bool := match x.rotating with
      | some g => decide ((s.group g).state = .run) && (s.rampUnits g).isEmpty && !(s.activeUnits g).isEmpty
      | none => false
    s.setPool p { x with
      addSince := track s.now x.addSince add, shedSince := track s.now x.shedSince shed
      fullSince := track s.now x.fullSince full
      rampMember := if idle then none else x.rampMember }
  else s

/-- POOL_MEMBER_ADD (R159). -/
def execPoolMemberAdd (t : Tick) (p : PoolId) (s : State) : Host.Outcome State Fault Refusal :=
  s.live t fun s =>
    if s.cfg (0x2100 + p) 0x1A 0 = 1 ∧ s.since (s.pool p).addSince (s.nat (0x2100 + p) 0x14 0 * usTicks) ∧ !s.memberRampRuns p then
      s.addLeastWorn p
    else s

/-- The most-worn active member is parked: a shed ramp on all its active units at once (R159). -/
def State.parkMostWorn (s : State) (p : Nat) : State :=
  match s.mostWornMember (s.activeMembers p) with
  | some g =>
    s.groupAccept g 5 false fun s =>
      let s := (s.activeUnits g).foldl (fun s u => u.foldl (fun s c => s.setCell c { s.cell c with ramp := .shed 0 }) s) s
      let s := s.setGroup g { s.group g with poolParked := true, addSince := none, shedSince := none }
      s.setPool p { s.pool p with rampMember := some g, addSince := none, shedSince := none }
  | none => s

/-- POOL_MEMBER_PARK (R159). -/
def execPoolMemberPark (t : Tick) (p : PoolId) (s : State) : Host.Outcome State Fault Refusal :=
  s.live t fun s =>
    if s.cfg (0x2100 + p) 0x1A 0 = 1 ∧ s.since (s.pool p).shedSince (s.nat (0x2100 + p) 0x15 0 * msTicks) ∧ !s.memberRampRuns p then
      s.parkMostWorn p
    else s

/-- POOL_ROTATION (R161): the rotation interval has passed; the least-worn parked member is added. -/
def execPoolRotation (t : Tick) (p : PoolId) (s : State) : Host.Outcome State Fault Refusal :=
  s.live t fun s =>
    let x := s.pool p
    let hours := s.nat (0x2100 + p) 0x16 0
    if s.cfg (0x2100 + p) 0x1A 0 = 1 ∧ 0 < hours ∧ x.rotateFrom + hours * 3600 * secTicks ≤ s.now ∧
        !s.memberRampRuns p then
      let s := s.setPool p { x with rotateFrom := s.now }
      match s.leastWornMember (s.parkedMembers p) with
      | some g =>
        s.groupAccept g 4 false fun s =>
          let s := s.addMember p g (.add 0)
          s.setPool p { s.pool p with rotating := some g, fullSince := none }
      | none => s
    else s

/-- POOL_ROTATION_PARK (R161): the added member has run at weight 1 for 100 ms, and no member ramp runs (R159). -/
def execPoolRotationPark (t : Tick) (p : PoolId) (s : State) : Host.Outcome State Fault Refusal :=
  s.live t fun s =>
    match (s.pool p).rotating with
    | some g =>
      if s.cfg (0x2100 + p) 0x1A 0 = 1 ∧ s.since (s.pool p).fullSince (100 * msTicks) ∧ !s.memberRampRuns p then
        let s := s.parkMostWorn p
        let s := s.setPool p { s.pool p with rotating := none, fullSince := none }
        s.raise { ev 0x4501 0 with value := p, second := g }
      else s
    | none => s

/-! ### Doubles (R31, R167, R170) -/

/-- Whether any group of a block, or of its doubles partner, is running (R30). -/
def State.blockRuns (s : State) (b : Nat) : Bool :=
  ((List.range 4).map (4 * b + ·)).any fun g => (s.group g).state.running

/-- Whether a context's trigger, source or destination names a cell of the other block of the pair (R170). -/
def State.namesOther (s : State) (b k : Nat) : Bool :=
  let n := s.nat 0x6100 3 k
  let f := s.nat 0x6100 5 k
  let d := s.nat 0x6100 9 k
  if k / 16 = b then decide (8 ≤ n) || decide (8 ≤ f ∧ f < 16) || decide (0x38 ≤ d ∧ d < 0x40)
  else decide (n < 8) || decide (f < 8) || decide (0x30 ≤ d ∧ d < 0x38)

/-- Slot j of block b becomes empty: no cells, no role, role objects at their defaults. -/
def State.emptySlot (s : State) (j b : Nat) : State :=
  let s := (s.put (0x6000 + j) 1 b 0).put (0x6000 + j) 2 b 0
  State.clearRatio
    { s with obj := s.obj.filter fun p => !(decide (p.1.index = 0x6210 + j) && decide (p.1.inst = b)) } (4 * b + j)

/-- A write of 0x6000.03 (R30, R31, R170). -/
def State.writeDoubles (s : State) (b value : Nat) : State :=
  let empty (j b : Nat) := decide (s.nat (0x6000 + j) 1 b = 0)
  if 1 < value then s.result 0x13
  else if b % 2 = 1 ∨ s.blockRuns b ∨ s.blockRuns (b + 1) then s.result 0x23
  else if value = 1 then
    if s.nat 0x6000 1 b = 0xFF ∧ ([1, 2, 3].all fun j => empty j b && empty j (b + 1)) then
      ((s.put 0x6000 3 b 1).clearRatio (4 * b)).result 0
    else s.result 0x23
  else if s.cfg 0x6000 3 b = 1 then
    let ks := ((List.range 32).map (16 * b + ·)).filter fun k =>
      decide ((s.ctx k).state ≠ .disabled) && s.namesOther b k
    let s := (((s.put 0x6000 3 b 0).emptySlot 0 b).emptySlot 0 (b + 1))
    (ks.foldl (fun s k => (s.setCtx k { (s.ctx k).initial with state := .disabled }).put 0x6100 1 k 0) s).result 0
  else s.result 0

/-- DOUBLES_WRITE (R31, R170). -/
def execDoublesWrite (t : Tick) (src : Nat) (b : BlockId) (value : Nat) (s : State) : Host.Outcome State Fault Refusal :=
  s.live t fun s => s.dict (.doublesWrite t (nodeOf src) b value) src 2 false fun s => s.writeDoubles b value

/-! ### Run time (R154) -/

/-- The run times of all cells are saved to the record area. -/
def State.saveRunTimes (s : State) : State :=
  { s.appendRecord (.runTime ((List.range 128).filterMap fun c =>
      let n := s.runSteps c / secTicks
      if n = 0 then none else some (c, n))) with runSavedAt := s.now }

/-- RUN_TIME_SAVE (R154), every hour. -/
def execRunTimeSave (t : Tick) (s : State) : Host.Outcome State Fault Refusal :=
  s.live t fun s => if s.runSavedAt + 3600 * secTicks ≤ s.now then s.saveRunTimes else s

end Sys2Proof.Machine
end

