-- ==== Sys2Proof/Machine/Feeds.lean ====
section
/-! DEFINITION. The commands of the feed switch channels and of the input selector (chapter 08). -/

namespace Sys2Proof.Machine

/-- The key that a reset command must carry (R46, R324). -/
abbrev resetKey : Nat := 0x52534554

/-- CHANNEL_ON: 0x6830.01 := 1 (R212). -/
def execChannelOn (t : Tick) (src : Nat) (f : FeedId) (s : State) : Host.Outcome State Fault Refusal :=
  s.live t fun s => s.dict (.channelOn t (nodeOf src) f) src 1 false fun s => s.channelCommand f true

/-- CHANNEL_OFF: 0x6830.01 := 2 (R209, R212). -/
def execChannelOff (t : Tick) (src : Nat) (f : FeedId) (s : State) : Host.Outcome State Fault Refusal :=
  s.live t fun s => s.dict (.channelOff t (nodeOf src) f) src 1 false fun s => s.channelCommand f false

/-- Whether a channel is INRUSH or ON. -/
def State.feedLive (s : State) (f : Nat) : Bool := decide ((s.feed f).state = .inrush ∨ (s.feed f).state = .on)

/-- INRUSH_COMPLETE (R203): below the on-threshold for 10 µs. -/
def execInrushComplete (t : Tick) (f : FeedId) (s : State) : Host.Outcome State Fault Refusal :=
  s.live t fun s =>
    if (s.feed f).state = .inrush ∧ s.since (s.feed f).belowOn (10 * usTicks) then
      (s.toFeed f .on .full).endTransfer f
    else s

/-- INRUSH_TIMEOUT (R203). -/
def execInrushTimeout (t : Tick) (f : FeedId) (s : State) : Host.Outcome State Fault Refusal :=
  s.live t fun s =>
    let limit := s.nat 0x6800 0xF f
    s.tripFirst f fun s =>
      if (s.feed f).state = .inrush ∧ (s.feed f).entered + limit * msTicks ≤ s.now then
        s.feedTrip f 0x5203 .latched (((s.now - (s.feed f).entered) / msTicks : Nat) : Int) limit
      else s

/-- The amplifier no longer limits once the current has fallen below its band (R206). -/
def State.amplifierRests (s : State) (f : Nat) : State :=
  let x := s.feed f
  if x.state = .on ∧ x.gate = .limiting ∧ s.idMilli f * 10 < s.cfg 0x6800 0xD f * 9 then s.setFeed f { x with gate := .full }
  else s

/-- The thermal trip (R203, R205, R208). -/
def State.thermalTrip (s : State) (f : Nat) : State :=
  let x := s.feed f
  let limit := s.cfg 0x6810 0xB f
  if s.feedLive f && decide (limit * 100000 ≤ x.tj) then
    if s.retriesLeft f then s.feedTrip f 0x5101 .cooldown (rndDiv x.tj 100000) limit
    else s.feedTrip f 0x5102 .latched (rndDiv x.tj 100000) limit
  else s

/-- THERMAL_MODEL_UPDATE (R199, R208), every 10 µs, with the latest codes of the channel's three inputs. -/
def execThermalModelUpdate (t : Tick) (f : FeedId) (vdsCode isnsCode gsnsCode : Nat) (s : State) :
    Host.Outcome State Fault Refusal :=
  s.live t fun s =>
    let s := (s.setFeed f ((s.feed f).codes vdsCode isnsCode gsnsCode)).judgeFeed f
    ((s.amplifierRests f).modelStep f).tripFirst f fun s => s.thermalTrip f

/-- The short-circuit trip at the present drain current (R203, R207). -/
def State.shortTrip (s : State) (f : Nat) : State :=
  let i := s.idMilli f
  let limit := s.cfg 0x6800 0xE f
  if s.feedLive f ∧ limit < i then
    if s.cfg 0x6800 0x17 f = 1 ∧ s.retriesLeft f then s.feedTrip f 0x5201 .cooldown i limit
    else s.feedTrip f 0x5202 .latched i limit
  else s

/-- SHORT_CIRCUIT_TRIP (R207). -/
def execShortCircuitTrip (t : Tick) (f : FeedId) (isnsCode : Nat) (s : State) : Host.Outcome State Fault Refusal :=
  s.live t fun s =>
    ((s.setFeed f { s.feed f with isns := min isnsCode 4095 }).judgeFeed f).tripFirst f fun s => s.shortTrip f

/-- CURRENT_LIMIT_ENGAGED (R204, R206): the amplifier pulls GATE down; in ON the channel journals 0x5103. -/
def execCurrentLimitEngaged (t : Tick) (f : FeedId) (isnsCode : Nat) (s : State) : Host.Outcome State Fault Refusal :=
  s.live t fun s =>
    let s := (s.setFeed f { s.feed f with isns := min isnsCode 4095 }).judgeFeed f
    let x := s.feed f
    let i := s.idMilli f
    if x.state = .on ∧ s.cfg 0x6800 0xD f < i then
      (s.setFeed f { x with gate := .limiting }).raiseLimited f
        { ev 0x5103 f with value := i, limit := s.cfg 0x6800 0xD f, stateCode := 2 }
    else if x.state = .inrush ∧ (if x.gate = .step then s.cfg 0x6840 8 0 else s.cfg 0x6800 0xC f) < i then
      s.setFeed f { x with gate := .limiting }
    else s

/-- The gate fail trip (R203, R210). -/
def State.gateTrip (s : State) (f : Nat) : State :=
  let x := s.feed f
  if s.feedLive f && (s.since x.belowRise (2 * msTicks) || s.since x.belowVolt (2 * msTicks)) then
    s.feedTrip f 0x5302 .latched (s.vgs f) (if s.since x.belowRise (2 * msTicks) then s.cfg 0x6800 0xA f else 1000)
  else s

/-- GATE_FAIL (R210). -/
def execGateFail (t : Tick) (f : FeedId) (s : State) : Host.Outcome State Fault Refusal :=
  s.live t fun s => s.tripFirst f fun s => s.gateTrip f

/-- A channel has failed its welded test (R209): WELDED, the isolation channel released, its BST groups stopped. -/
def State.weldEffects (s : State) (f : Nat) : State :=
  let s := (s.toFeed f .welded .zero).put 0x6820 0xA f 0x5301
  let n := s.nat 0x6800 0x13 f
  let s := if n < 64 then s.setSeq n { s.seq n with held := true } else s
  ((List.range 64).filter fun g =>
    decide (s.role g = 4) && decide (s.nat (0x6210 + g % 4) 1 (g / 4) = f)).foldl State.stopGroup s

/-- A channel is found welded: 0x5301 with its effects. -/
def State.weld (s : State) (f : Nat) (value limit : Int) : State :=
  (s.raise { ev 0x5301 f with value := value, limit := limit, stateCode := 0 }).weldEffects f

/-- WELDED_TEST (R209): 5 ms after the off command. -/
def execWeldedTest (t : Tick) (f : FeedId) (s : State) : Host.Outcome State Fault Refusal :=
  s.live t fun s =>
    let x := s.feed f
    if x.state = .off ∧ s.since x.weldFrom (5 * msTicks) then
      let s := s.setFeed f { x with weldFrom := none }
      let mode := s.nat 0x6800 0x10 f
      let vMax := s.cfg 0x6800 0x11 f
      let iMax := s.cfg 0x6800 0x12 f
      let i : Int := (s.idMilli f).natAbs
      if (mode = 1 ∨ mode = 3) ∧ vMax < s.outMilli f then s.weld f (s.outMilli f) vMax
      else if mode = 2 ∧ x.weldCurrent < iMax then
        s.raise { ev 0x5303 f with value := x.weldCurrent, limit := iMax, stateCode := 0 }
      else if (mode = 2 ∨ mode = 3) ∧ iMax < i then s.weld f i iMax
      else s
    else s

/-- COOLDOWN_END (R203, R205): the retry is counted and the channel goes to INRUSH. -/
def execCooldownEnd (t : Tick) (f : FeedId) (s : State) : Host.Outcome State Fault Refusal :=
  s.live t fun s =>
    let x := s.feed f
    if x.state = .cooldown ∧ x.entered + s.nat 0x6800 0x15 f * msTicks ≤ s.now ∧ x.tj ≤ s.cfg 0x6810 0xC f * 100000 then
      let s := s.setFeed f { x with retries := x.retries + 1 }
      s.feedInrush f .ramp
    else s

/-- CHANNEL_POWER_GOOD (R204): both conditions for 100 µs. -/
def execChannelPowerGood (t : Tick) (f : FeedId) (s : State) : Host.Outcome State Fault Refusal :=
  s.live t fun s =>
    let x := s.feed f
    if x.state = .on ∧ !x.powerGood ∧ s.goodConditions f ∧ s.since x.goodCond (100 * usTicks) then
      s.setFeed f { x with powerGood := true, goodSince := some s.now }
    else s

/-- CHANNEL_POWER_GOOD_LOSS (R204). -/
def execChannelPowerGoodLoss (t : Tick) (f : FeedId) (s : State) : Host.Outcome State Fault Refusal :=
  s.live t fun s =>
    let x := s.feed f
    if x.powerGood ∧ !s.goodConditions f then s.setFeed f { x with powerGood := false, goodSince := none } else s

/-- RETRY_COUNT_RESET (R205). -/
def execRetryCountReset (t : Tick) (f : FeedId) (s : State) : Host.Outcome State Fault Refusal :=
  s.live t fun s =>
    let x := s.feed f
    if x.powerGood ∧ s.since x.goodSince (s.nat 0x6800 0x16 f * secTicks) then s.setFeed f { x with retries := 0 } else s

/-- The EN of a sequencer channel is released no longer by a feed channel that has left WELDED; another WELDED one that
names it holds it on (R209, R211). -/
def State.unholdSeq (s : State) (n : Nat) : State :=
  if n < 64 then
    s.setSeq n { s.seq n with
      held := (List.range 24).any fun f => decide ((s.feed f).state = .welded) && decide (s.nat 0x6800 0x13 f = n) }
  else s

/-- The effect of a channel reset (R211): a fault detected in this SYS cycle stands, and its state with it (R45, R202). -/
def State.resetChannel (s : State) (f : Nat) : State :=
  let x := s.feed f
  let kept := s.justFaulted (.feed f)
  let s := (s.setFeed f { x with retries := 0 }).endFault (.feed f)
  match x.state with
  | .latched => if kept then s else s.toFeed f .off .zero
  | .welded => if kept then s else (s.toFeed f .off .zero).unholdSeq (s.nat 0x6800 0x13 f)
  | _ => s

/-- CHANNEL_RESET: 0xF020.05 (R45, R211, R324). -/
def execChannelReset (t : Tick) (src : Nat) (f : FeedId) (key : Nat) (s : State) : Host.Outcome State Fault Refusal :=
  s.live t fun s => s.dict (.channelReset t (nodeOf src) f key) src 1 false fun s =>
    if key ≠ resetKey ∨ s.selector.transfer.isSome then s.result 0x23 else s.resetChannel f

/-- FEED_SENSE_OVER_RANGE (R208): four conversions in a row, the last with the given code, at code 0 or 4095 while INRUSH
or ON. -/
def execFeedSenseOverRange (t : Tick) (f : FeedId) (isns : Bool) (code : Nat) (s : State) : Host.Outcome State Fault Refusal :=
  s.live t fun s =>
    let x := s.feed f
    let lost := if isns then x.isnsLost else x.vdsLost
    let c := min code 4095
    if s.feedLive f ∧ codeLost code ∧ !lost then
      let s := s.setFeed f (if isns then { x with isnsLost := true, isns := c } else { x with vdsLost := true, vds := c })
      s.raise { ev 0x5501 f with
        value := c
        stateCode := if x.state = .on then 2 else 1 }
    else s

/-! ### The input selector -/

def Feed.number : Feed → Nat
  | .a => 0
  | .b => 1

/-- Whether the closed feed has dropped (R216). -/
def State.feedDropped (s : State) (x : Nat) : Bool :=
  match s.inputFeed x with
  | some f =>
    let c := s.feed f
    s.since c.inLow (s.nat 0x6840 5 0 * usTicks) || (decide (c.state = .on) && s.since c.reverse usTicks) || !s.feedLive f
  | none => true

/-- FEED_DROPPED (R216 to R218): rule 1. -/
def execFeedDropped (t : Tick) (x : Feed) (s : State) : Host.Outcome State Fault Refusal :=
  s.live t fun s =>
    if s.selectorOn ∧ s.selector.closed = some (Feed.number x) ∧ s.feedDropped (Feed.number x) then s.openFeed (Feed.number x)
    else s

/-- FEED_GOOD (R216 to R218): a force that waited for its feed, or a feed for a selector with none closed. -/
def execFeedGood (t : Tick) (x : Feed) (s : State) : Host.Outcome State Fault Refusal :=
  s.live t fun s => if s.selectorOn ∧ s.feedGood (Feed.number x) then s.moveSelector else s

/-- FEED_CONFIRMED_OFF (R216, R217): rules 2 and 3. -/
def execFeedConfirmedOff (t : Tick) (x : Feed) (s : State) : Host.Outcome State Fault Refusal :=
  s.live t fun s =>
    if s.selectorOn ∧ s.selector.closed.isNone ∧ s.confirmedOff (Feed.number x) ∧ s.confirmedOff (1 - Feed.number x) then
      (s.setSelector { s.selector with opened := none, blocked := false }).selectFeed
    else s

/-- TRANSFER_BLOCKED (R217): the opened feed is not confirmed off within 1 ms. -/
def execTransferBlocked (t : Tick) (s : State) : Host.Outcome State Fault Refusal :=
  s.live t fun s =>
    match s.selector.opened with
    | some (y, a) =>
      if s.selectorOn ∧ a + msTicks ≤ s.now ∧ !s.confirmedOff y ∧ !s.selector.blocked then
        (s.setSelector { s.selector with blocked := true }).raise { ev 0x5403 0 with
          value := (((s.now - a) / usTicks : Nat) : Int), limit := 1000, stateCode := 3 }
      else s
    | none => s

/-- RETURN_DWELL_END (R217): rule 4. -/
def execReturnDwellEnd (t : Tick) (s : State) : Host.Outcome State Fault Refusal :=
  s.live t fun s =>
    let pref := s.nat 0x6840 2 0
    let dwell := s.nat 0x6840 7 0
    match s.inputFeed pref with
    | some f =>
      let good := s.since (s.feed f).inGood (s.nat 0x6840 6 0 * msTicks + dwell * secTicks) &&
        decide ((s.feed f).freedAt + dwell * secTicks ≤ s.now) && s.feedGood pref
      if s.selectorOn ∧ 0 < dwell ∧ s.selector.force = 0 ∧ s.selector.transfer.isNone ∧
          s.selector.closed = some (1 - pref) ∧ good then
        (s.raise { ev 0x5404 0 with stateCode := s.selectorCode }).openFeed (1 - pref)
      else s
    | none => s

/-- 0x6840.0C with operator authority (R218). -/
def State.dictForce (s : State) (c : Instr) (src v : Nat) : State := s.dict c src 1 false fun s => s.forceSelect v

/-- FORCE_SELECT_A. -/
def execForceSelectA (t : Tick) (src : Nat) (s : State) : Host.Outcome State Fault Refusal :=
  s.live t fun s => s.dictForce (.forceSelectA t (nodeOf src)) src 1

/-- FORCE_SELECT_B. -/
def execForceSelectB (t : Tick) (src : Nat) (s : State) : Host.Outcome State Fault Refusal :=
  s.live t fun s => s.dictForce (.forceSelectB t (nodeOf src)) src 2

/-- FORCE_AUTOMATIC. -/
def execForceAutomatic (t : Tick) (src : Nat) (s : State) : Host.Outcome State Fault Refusal :=
  s.live t fun s => s.dictForce (.forceAutomatic t (nodeOf src)) src 3

/-- GATE_RISE_THRESHOLD_REACHED (R218, R219): the transfer time is taken and the transfer is journalled. -/
def execGateRiseThresholdReached (t : Tick) (s : State) : Host.Outcome State Fault Refusal :=
  s.live t fun s =>
    match s.selector.transfer, s.selector.closed with
    | some a, some x =>
      if s.selector.timed then s
      else
        let ns : Int := ((s.now - a) * 5 / 128 : Nat)
        let s := (s.setSelector { s.selector with timed := true }).put 0x6840 0xB 0 ns
        s.raise { ev 0x5401 0 with value := ns, stateCode := 3, w4 := x }
    | _, _ => s

end Sys2Proof.Machine
end

