-- ==== Sys2Proof/Machine/ChipOps.lean ====
section
/-! DEFINITION. The chip as a whole: what a reset leaves (R448, R449, R452), the chip stop (R320), the reaction to pip 6
(R321), and what the pins show (R27, R28, R318, R456). -/

namespace Sys2Proof.Machine

def State.setRun (s : State) (x : Run) : State := { s with run := x }
def State.setTwin (s : State) (x : Twin) : State := { s with twin := x }
def State.setAlways (s : State) (x : AlwaysOn) : State := { s with always := x }
def State.setJournal (s : State) (x : Journal) : State := { s with journal := x }

/-! ### Reset -/

/-- What of the record area and the flash a reset leaves: the contents, not the operations (R414). -/
def Storage.afterReset (x : Storage) : Storage :=
  { used := x.used, erased := x.erased, reserve := x.reserve, gasp := x.gasp, erases := x.erases, retired := x.retired
    nextSeq := x.nextSeq, nextSectorSeq := x.nextSectorSeq, running := x.running, slotLines := x.slotLines }

/-- What of the journal a reset leaves: the NAND ring, not the write queue (R302). -/
def Journal.afterReset (x : Journal) : Journal :=
  { slots := x.slots, write := x.write, oldest := x.oldest, wraps := x.wraps, retired := x.retired }

/-- Objects that outlive a reset: the latched straps (R121) and the count of compactions since manufacture (R397). -/
def keptObject (a : Addr) : Bool :=
  decide (a.index = 0x2010 ∨ a.index = 0x2011) || decide (a.index = 0x9020 ∧ a.sub = 3)

/-- The state in reset: SYS is at its reset values; the always-on domain, the flash, the journal store, the integrator
key and the levels at the sideband inputs stay (R449, R452; assumptions 42, 43). -/
def State.cleared (s : State) : State :=
  { now := s.now, freeBase := s.freeBase, pending := s.pending, lastResult := s.lastResult, freeCount := s.freeCount
    obj := s.obj.filter fun p => keptObject p.1
    storage := s.storage.afterReset, journal := s.journal.afterReset, always := s.always
    access := { key := s.access.key }
    twin := { presence := s.twin.presence, tokenIn := s.twin.tokenIn }
    run := { supplyBad := s.run.supplyBad, partnerLow := s.run.partnerLow, rstLow := s.run.rstLow, resetAt := s.now }
    inReset := true }

/-- A reset with its cause and word 5 (R448). In reset already, a cause of the same SYS cycle with a lower code is the one
recorded; any other only prolongs the reset. A start that did not reach step 8 leaves its own cause for word 6 (R454). -/
def State.enterReset (s : State) (cause word5 : Nat) : State :=
  if s.inReset then
    if s.run.resetAt / cycleTicks = s.now / cycleTicks ∧ cause < s.always.cause then
      s.setAlways { s.always with cause := cause, word5 := word5 }
    else s.setRun { s.run with resetAt := s.now }
  else
    let cut := !s.run.started && decide (s.always.cause ≠ cause)
    let s := s.setAlways { s.always with cause := cause, word5 := word5, earlier := if cut then s.always.cause else 0 }
    s.cleared

/-! ### The chip stop -/

/-- Every BRIDGE_HOLD pin goes to a static low, and relay-open confirmed is cleared (R320). -/
def State.bridgesLow (s : State) : State :=
  let s := { s with bridge := (List.range 4).map fun n => (n, HoldPin.low) }
  (List.range 64).foldl (fun s g =>
    if (s.group g).relayOpen ∨ (s.group g).relayEdge.isSome then
      s.setGroup g { s.group g with relayOpen := false, relayEdge := none, relayWait := false, powerGood := false }
    else s) s

/-- An immediate stop of every group (R320). -/
def State.stopAllGroups (s : State) : State := (List.range 64).foldl State.stopGroupNow s

/-- The chip stop of a pip-6 code (R320). -/
def State.chipStop (s : State) (code : Nat) : State :=
  let s := s.stopAllGroups.bridgesLow
  s.setRun { s.run with
    stopCode := if s.run.stopAt.isSome then s.run.stopCode else code
    stopAt := if s.run.stopAt.isSome then s.run.stopAt else some s.now }

/-- The partner is IN STEP and the link is up, as the active sees it. -/
def State.partnerInStep (s : State) : Bool := decide (s.cfg 0x1200 2 0 = 5) && decide (s.cfg 0x1200 3 0 = 2)

/-- The chip holds the right to drive the shared outputs (Table 14-2). -/
def State.isActive (s : State) : Bool :=
  match s.twinState with
  | .alone | .active | .activeUnpaired => true
  | _ => false

/-- The reaction to a pip-6 event other than 0x4801: a standby resets itself; an active with an IN STEP partner asks for a
handover; any other chip stops (R320, R321). -/
def State.reactPip6 (s : State) (code : Nat) : State :=
  if s.standby then s.enterReset 8 code
  else if s.twinState = .active ∧ s.partnerInStep then s.setTwin { s.twin with yieldCode := code }
  else s.chipStop code

/-- A pip-6 event with its reaction. -/
def State.chipTrip (s : State) (e : Event) : State := (s.raise e).reactPip6 e.code

/-! ### Pins -/

/-- Whether the chip holds the drive token of a cell (R342). -/
def State.token (s : State) (c : Nat) : Bool := decide (s.cfg 0x5005 1 c = 1)

/-- The tokens of all cells. -/
def State.setTokens (s : State) (v : Bool) : State :=
  let s := (List.range 128).foldl (fun s c => s.put 0x5005 1 c (if v then 1 else 0)) s
  s.put 0x1200 0xA 0 (if v then 128 else 0)

/-- One token. -/
def State.setToken (s : State) (c : Nat) (v : Bool) : State :=
  let s := s.put 0x5005 1 c (if v then 1 else 0)
  s.put 0x1200 0xA 0 (((List.range 128).filter s.token).length : Nat)

/-- The level that a cell commands at an output. -/
def Cell.level (x : Cell) (n : Net) : Bool :=
  match n with
  | .a => x.levelA
  | .b => x.levelB

/-- An output of the cell has risen at or after a time. -/
def Cell.roseSince (x : Cell) (from? : Tick) : Bool :=
  (x.riseA.any fun a => decide (from? ≤ a)) || x.riseB.any fun a => decide (from? ≤ a)

/-- The level at a PWM pin, `none` for high-impedance (R27, R28). A token that changes hands moves the pins a little later: until
then the chip that takes it leaves them released, and the chip that gives it still drives them (R342). After a hard handover a
pair is low up to its next commanded rise (R343). -/
def State.pwmPin (s : State) (c : Nat) (n : Net) : Option Bool :=
  let x := s.cell c
  let (at?, hard) := bget (0, false) s.twin.pinAt c
  if s.inReset then none
  else if s.token c then
    if s.now < at? then none else some (x.level n && (!hard || x.roseSince at?))
  else if s.now < at? then some (x.level n)
  else none

/-- The chip drives the GATE, EN and BRIDGE_HOLD nets (R342, R343, R456). -/
def State.drives (s : State) : Bool := !s.inReset && s.run.driving && decide (s.run.drivenFrom ≤ s.now)

/-- What drives GATE(f), and what a BRIDGE_HOLD pin does. -/
def State.gatePin (s : State) (f : Nat) : GateDrive := if s.drives then (bget ({} : FeedCh) s.feeds f).gate else .z
def State.bridgePin (s : State) (n : Nat) : HoldPin := if s.drives then bget .low s.bridge n else .z

/-- FAULT_N is low (R318): in reset, up to the strap point of the start, and while any fault state is set. -/
def State.faultPinLow (s : State) : Bool := s.inReset || !s.run.started || s.anyFault

/-- The sideband outputs (Table 14-1, Table 19-6), `none` for high-impedance: TWIN_PRES_N(out) is low from the strap point on;
TOKEN_STATE(out) is driven from then on; PARTNER_RST_OUT_N is low while the chip resets its partner. -/
def State.presencePin (s : State) : Option Bool := if !s.inReset && s.twin.presOut then some false else none
def State.tokenPin (s : State) : Option Bool := if !s.inReset && s.run.started then some s.twin.tokenOut else none
def State.partnerResetPin (s : State) : Option Bool :=
  if !s.inReset && (s.twin.resetHeld || s.twin.resetLow.isSome) then some false else none

/-- Whether an EN pin is driven, and its level (R266): by the channel's mode. -/
def State.enPin (s : State) (n : Nat) : Option Bool :=
  if !s.drives then none
  else
    let x := bget ({} : SeqCh) s.seqs n
    match x.mode with
    | 1 => some (x.commanded && !x.held)
    | 2 => if x.commanded && !x.held then some true else none
    | _ => none

end Sys2Proof.Machine
end

