-- ==== Sys2Proof/Machine/Thermal.lean ====
section
/-! DEFINITION. The temperature inputs, the heatsink groups, the driver supplies and the die sensors (chapter 10). -/

namespace Sys2Proof.Machine

def State.tempIn (s : State) (i : Nat) : TempIn := bget {} s.temps i
def State.setTempIn (s : State) (i : Nat) (x : TempIn) : State := { s with temps := bset s.temps i x }
def State.sink (s : State) (h : Nat) : Sink := bget {} s.sinks h
def State.setSink (s : State) (h : Nat) (x : Sink) : State := { s with sinks := bset s.sinks h x }
def State.die (s : State) (r : Nat) : DieT := bget {} s.dies r
def State.setDie (s : State) (r : Nat) (x : DieT) : State := { s with dies := bset s.dies r x }

/-! ### Inputs (R249, R250) -/

/-- The sensors that a heatsink group lists. -/
def State.sensors (s : State) (h : Nat) : List Nat :=
  ((List.range 8).map fun i => s.nat (0x2400 + h) (i + 1) 0).filter fun t => decide (t < 48)

def State.sinkOn (s : State) (h : Nat) : Bool := decide (s.cfg (0x2400 + h) 0x17 0 = 1)

/-- The heatsink group that lists an input. -/
def State.sinkOf (s : State) (t : Nat) : Option Nat := (List.range 12).find? fun h => (s.sensors h).contains t

/-- The region that owns the events of an input. -/
def State.tempRegion (s : State) (t : Nat) : Nat :=
  match s.sinkOf t with
  | some h => s.nat (0x2400 + h) 9 0 % 4
  | none => 0

/-- The reciprocal of the absolute temperature of an NTC reading in `fxOne` parts of 1/K (R249); `none` where the formula has
no value. -/
def State.ntcInverse (s : State) (t ppm : Nat) : Option Int :=
  let rp := s.nat 0x2410 2 t
  let rn := s.nat 0x2410 3 t
  let b := s.nat 0x2410 4 t
  if ppm = 0 ∨ 1000000 ≤ ppm ∨ rp = 0 ∨ rn = 0 ∨ b = 0 then none
  else
    let inv := fxOne * 100 / 29815 + fxLn (rp * ppm) ((1000000 - ppm) * rn) / (b : Int)
    if inv ≤ 0 then none else some inv

/-- The temperature of a reading in 0.1 °C, offset added (R249); `none` where the formula has no value. -/
def State.convert (s : State) (t : Nat) : TempReading → Option Int
  | .ntc ppm => (s.ntcInverse t ppm).map fun inv => rndDiv (100 * fxOne / inv - 27315) 10 + s.cfg 0x2410 6 t
  | .diode _ d =>
    let n := s.nat 0x2410 5 t
    if n = 0 then none
    else some (rndDiv ((d : Int) * 503980 - 27315000 * n) (10000 * n) + s.cfg 0x2410 6 t)

/-- The open and the shorted condition of one sample (R250): T below −55.0 °C or above 175.0 °C is that of the formula, before
the offset; a temperature without a value meets neither limit. -/
def State.senseConditions (s : State) (t : Nat) (r : TempReading) : Bool × Bool :=
  match r with
  | .ntc ppm =>
    let v := s.ntcInverse t ppm
    (decide (970000 < ppm) || v.any (fun i => decide (fxOne * 100 < i * 21815)),
      decide (ppm < 30000) || v.any (fun i => decide (i * 44815 < fxOne * 100)))
  | .diode f _ => (decide (1500000 < f), decide (f < 100000))

/-- The mode in which a reading is taken (R249). -/
def readingMode : TempReading → Nat
  | .ntc _ => 1
  | .diode _ _ => 2

/-- One sample of an input: its measured value and its status (R250). A reading for which the formula gives no value has
a free one; a reading that the input's mode does not take is none. -/
def State.sampleTemp (s : State) (t : Nat) (r : TempReading) : State :=
  if s.nat 0x2410 1 t = 0 then (s.put 0x2411 3 t 4).put 0x2411 2 t 0x7FFF
  else if s.nat 0x2410 1 t ≠ readingMode r then s
  else
    let value := s.convert t r
    let (v, s) := match value with
      | some v => (limitInt v (-32768) 32767, s)
      | none => (fun (d : Nat × State) => ((d.1 : Int) - 32768, d.2)) (s.draw 16)
    let (isOpen, short) := s.senseConditions t r
    let x := s.tempIn t
    let x := { x with
      openRun := if isOpen then x.openRun + 1 else 0
      shortRun := if short then x.shortRun + 1 else 0
      validRun := if isOpen || short then 0 else x.validRun + 1 }
    let s := (s.setTempIn t x).put 0x2411 2 t v
    let st := s.nat 0x2411 3 t
    let code (c : Nat) := { ev c (s.tempRegion t) with value := v, second := t, stateCode := st }
    let fine : Int := if s.cfg 0x2411 4 t = 1 then 1 else 0
    if 4 ≤ x.openRun then (if st = 2 then s else (s.raise (code 0x3102)).put 0x2411 3 t 2)
    else if 4 ≤ x.shortRun then (if st = 3 then s else (s.raise (code 0x3103)).put 0x2411 3 t 3)
    else if st = 2 ∨ st = 3 then (if 100 ≤ x.validRun then s.put 0x2411 3 t fine else s)
    else s.put 0x2411 3 t fine

/-! ### Heatsink groups (R252 to R259) -/

def State.validSensors (s : State) (h : Nat) : List Nat :=
  (s.sensors h).filter fun t => decide (s.nat 0x2411 3 t = 0)

def insertInt (v : Int) : List Int → List Int
  | [] => [v]
  | x :: r => if v ≤ x then v :: x :: r else x :: insertInt v r

/-- Twice the median, which is the mean of the middle two of an even number (R252). -/
def twiceMedian (l : List Int) : Int :=
  let a := l.foldl (fun a v => insertInt v a) []
  let n := a.length
  if n % 2 = 1 then 2 * a.getD (n / 2) 0 else a.getD (n / 2 - 1) 0 + a.getD (n / 2) 0

/-- The cells of a heatsink group's mask (R251). -/
def State.sinkCells (s : State) (h : Nat) : List Nat :=
  (List.range 128).filter fun c => (s.nat (0x2400 + h) (0xA + c / 32) 0).testBit (c % 32)

def State.sinkRegion (s : State) (h : Nat) : Nat := s.nat (0x2400 + h) 9 0 % 4

/-- The cross-check of a group against its median (R252, R253), and the effective values of its sensors (R254). -/
def State.crossCheck (s : State) (h : Nat) : State :=
  let valid := s.validSensors h
  let med2 := twiceMedian (valid.map fun t => s.cfg 0x2411 2 t)
  let few := decide (valid.length < 3)
  let lim := s.cfg (0x2400 + h) 0x14 0
  let s := (s.sensors h).foldl (fun s t =>
    let x := s.tempIn t
    let away := !few && valid.contains t && decide (2 * lim < ((2 * s.cfg 0x2411 2 t - med2).natAbs : Int))
    let s := s.setTempIn t { x with deviates := if away then (if x.deviates.isSome then x.deviates else some s.now) else none }
    s.put 0x2411 1 t
      (if valid.isEmpty then 0x7FFF else if valid.contains t then s.cfg 0x2411 2 t else rndDiv med2 2)) s
  let s := if few ∧ !(s.sink h).few then s.raise { ev 0x3104 (s.sinkRegion h) with value := valid.length, limit := 3 } else s
  let s := s.put (0x2400 + h) 0x1C 0 (if valid.isEmpty then 2 else if few then 1 else 0)
  s.setSink h { s.sink h with few := few, unmonitored := valid.isEmpty }

/-- A thermal event of one cell (Table 13-6). -/
def State.sinkEvent (s : State) (code h c : Nat) (v lim : Int) : Event :=
  { ev code (s.sinkRegion h) with
    value := v, limit := lim, second := c, w4 := h, owners := [.cell c], stateCode := (s.cell c).state.code }

/-- The period of a cell: that of its schedule, or the one it will join. -/
def State.periodOf (s : State) (c : Nat) : Nat :=
  let x := s.cell c
  if x.state = .start ∧ !x.checkPassed then s.nat 0x5010 2 c else x.period

/-- The cells of a list in START, RUN or STOP. -/
def State.switching (s : State) (cs : List Nat) : List Nat :=
  cs.filter fun c =>
    match (s.cell c).state with
    | .start | .run | .stop => true
    | _ => false

/-- The longest period of the cells of a list in START, RUN or STOP, in steps. -/
def State.longestPeriod (s : State) (cs : List Nat) : Nat := (s.switching cs).foldl (fun m c => max m (s.periodOf c)) 0

/-- Cells get their event and their stop from a heatsink group (R253, R256), whatever other groups have sent them (R259); the
stop deadline of R258 is noted for a thermal stop. -/
def State.sinkStops (s : State) (h code : Nat) (cs : List Nat) (v lim : Int) : State :=
  if cs.isEmpty then s
  else
    let by' := s.now + max msTicks (5 * s.longestPeriod cs)
    let s := cs.foldl (fun s c =>
      let s := s.raise (s.sinkEvent code h c v lim)
      if code = 0x3113 then s.stopCellNow c else s.stopCellOrderly c) s
    if code = 0x3105 then s else s.setSink h { s.sink h with stops := (s.sink h).stops ++ [(by', cs)] }

/-- The cells of a group's mask that its present cause has not reached yet; from now on it has. -/
def State.reach (s : State) (h : Nat) : State × List Nat :=
  let cs := (s.sinkCells h).filter fun c => !(s.sink h).reached.contains c
  (s.setSink h { s.sink h with reached := (s.sink h).reached ++ cs }, cs)

/-- A block latches (R258): its groups stop at once, and its fault state is set. A latched block whose fault state a region
reset has ended meets the cause again (R45). -/
def State.latchBlock (s : State) (b cause : Nat) (v lim : Int) : State :=
  if s.cfg 0x4030 1 b = 1 then
    if (s.fault (.block b)).raised.contains (0x2601, b) then s else s.blockTrip { ev 0x2601 b with value := v, limit := lim }
  else
    let s := ((s.put 0x4030 1 b 1).put 0x4030 7 b cause).put 0x4030 6 b 1
    let s := s.setDriver b { s.driver b with offSince := none, goodSince := none }
    s.blockTrip { ev 0x2601 b with value := v, limit := lim }

/-- The change of T over the last 12 ms, times 4 (R254); 0 until sixteen values stand. -/
def Sink.rise (x : Sink) : Int :=
  if x.history.length < 16 then 0
  else ((x.history.take 4).foldl (· + ·) 0) - (((x.history.drop 12).take 4).foldl (· + ·) 0)

/-- The horizon H of R256 in steps. -/
def State.horizon (s : State) (h : Nat) : Nat :=
  max (s.nat (0x2400 + h) 0x16 0 * usTicks) (5 * s.longestPeriod (s.sinkCells h))

/-- The projected temperature stays below the latch level (R256). -/
def State.projectsBelow (s : State) (h : Nat) (v latch : Int) : Bool :=
  decide (1228800000 * v + (s.sink h).rise * (s.horizon h : Int) < 1228800000 * latch)

/-- The throttle factor in 1/65,536 (R255). -/
def State.throttleCode (s : State) (h : Nat) (v : Int) : Int :=
  let floor := s.cfg (0x2400 + h) 0x10 0
  let f := if (s.sink h).unmonitored then floor * 10
    else if v ≤ s.cfg (0x2400 + h) 0xE 0 then 10000
    else limitInt (10000 - s.cfg (0x2400 + h) 0xF 0 * (v - s.cfg (0x2400 + h) 0xE 0)) (floor * 10) 10000
  f * 65536 / 10000

/-- The throttle of a group changes (R255). -/
def State.throttleSink (s : State) (h : Nat) (v : Int) : State :=
  let f := s.throttleCode h v
  let s := s.put (0x2400 + h) 0x1A 0 f
  let e (code : Nat) := { ev code (s.sinkRegion h) with value := v, limit := s.cfg (0x2400 + h) 0xE 0 }
  if f < 65536 then
    if (s.sink h).throttling then s
    else (s.setSink h { s.sink h with throttling := true }).raise (e 0x3110)
  else if (s.sink h).throttling then (s.setSink h { s.sink h with throttling := false }).raise (e 0x3111)
  else s

/-- The stop of cells by a group whose T has reached the stop level: orderly, or immediate where T_p is not below the latch level
(R256). -/
def State.hotStops (s : State) (h : Nat) (cs : List Nat) : State :=
  let v := s.cfg (0x2400 + h) 0x18 0
  s.sinkStops h (if s.projectsBelow h v (s.cfg (0x2400 + h) 0x12 0) then 0x3112 else 0x3113) cs v (s.cfg (0x2400 + h) 0x11 0)

/-- The judgement of one enabled group at a sample: latch level, stop level, throttle (R259). -/
def State.judgeSink (s : State) (h : Nat) : State :=
  let s := s.crossCheck h
  let i := 0x2400 + h
  if (s.sink h).unmonitored then
    let s := ((s.put i 0x18 0 0x7FFF).put i 0x19 0 0).put i 0x1B 0 4
    let s := s.setSink h { s.sink h with
      history := [], latched := false, lost := true, reached := if (s.sink h).lost then (s.sink h).reached else [] }
    let (s, cs) := s.reach h
    (s.sinkStops h 0x3105 cs 0 0).throttleSink h 0x7FFF
  else
    let v := (s.sensors h).foldl (fun m t => max m (s.cfg 0x2411 1 t)) (-32768)
    let s := s.put i 0x18 0 v
    let s := s.setSink h { s.sink h with history := (v :: (s.sink h).history).take 16 }
    let s := s.put i 0x19 0 (limitInt (rndDiv ((s.sink h).rise * 1000) 48) (-32768) 32767)
    let stop := s.cfg i 0x11 0
    let latch := s.cfg i 0x12 0
    let active := decide (stop ≤ v) || ((s.sink h).stopActive && decide (stop - s.cfg i 0x13 0 ≤ v))
    let s := s.setSink h { s.sink h with
      stopActive := active, latched := decide (latch ≤ v), lost := false
      reached := if active && !(s.sink h).lost then (s.sink h).reached else [] }
    let s :=
      if latch ≤ v then
        ((List.range 16).filter fun b => (s.sinkCells h).any fun c => decide (c / 8 = b)).foldl
          (fun s b => s.latchBlock b 1 v latch) s
      else if active then
        let (s, cs) := s.reach h
        s.hotStops h cs
      else s
    let s := s.throttleSink h v
    s.put i 0x1B 0 (if latch ≤ v then 3 else if active then 2 else if (s.sink h).throttling then 1 else 0)

/-- A cell that is reset meets the cause of each group that stands for it again, at once (R45, R257). -/
def State.meetSinks (s : State) (c : Nat) : State :=
  ((List.range 12).filter fun h => s.sinkOn h && (s.sinkCells h).contains c).foldl (fun s h =>
    let x := s.sink h
    if x.unmonitored then s.sinkStops h 0x3105 [c] 0 0
    else if x.stopActive ∧ !x.latched then s.hotStops h [c]
    else s) s

/-- A block of a heatsink group that stands at the latch level meets it again at once (R45, R258). -/
def State.meetLatch (s : State) (b : Nat) : State :=
  ((List.range 12).filter fun h => s.sinkOn h && (s.sink h).latched && (s.sinkCells h).any fun c => decide (c / 8 = b)).foldl
    (fun s h => s.latchBlock b 1 (s.cfg (0x2400 + h) 0x18 0) (s.cfg (0x2400 + h) 0x12 0)) s

/-- Every cell's next throttle factor: the smallest of the enabled groups that hold it (R255). -/
def State.shareThrottle (s : State) : State :=
  (List.range 128).foldl (fun s c =>
    let f := (List.range 12).foldl (fun m h =>
      if s.sinkOn h && (s.nat (0x2400 + h) (0xA + c / 32) 0).testBit (c % 32) then min m (s.nat (0x2400 + h) 0x1A 0) else m) 65536
    if f = (s.cell c).throttleNext then s else s.setCell c { s.cell c with throttleNext := f }) s

/-- TEMPERATURE_SAMPLE (R249 to R259): the 1 ms sample of every input given. -/
def execTemperatureSample (t : Tick) (readings : List (TempId × TempReading)) (s : State) :
    Host.Outcome State Fault Refusal :=
  s.live t fun s =>
    let s := readings.foldl (fun s r => s.sampleTemp r.1 r.2) s
    let s := (List.range 48).foldl (fun s i =>
      if (s.sinkOf i).any s.sinkOn then s
      else
        let st := s.nat 0x2411 3 i
        s.put 0x2411 1 i (if st = 2 ∨ st = 3 ∨ st = 4 then 0x7FFF else s.cfg 0x2411 2 i)) s
    (((List.range 12).filter s.sinkOn).foldl State.judgeSink s).shareThrottle

/-- SENSOR_SUSPECT (R252): the deviation has lasted its time. -/
def execSensorSuspect (t : Tick) (i : TempId) (s : State) : Host.Outcome State Fault Refusal :=
  s.live t fun s =>
    match s.sinkOf i with
    | some h =>
      if s.sinkOn h && decide (3 ≤ (s.validSensors h).length) && decide (s.nat 0x2411 3 i = 0) &&
          s.since (s.tempIn i).deviates (s.nat (0x2400 + h) 0x15 0 * secTicks) then
        let s := (s.put 0x2411 4 i 1).put 0x2411 3 i 1
        (s.setTempIn i { s.tempIn i with deviates := none }).raise
          { ev 0x3101 (s.sinkRegion h) with
            value := s.cfg 0x2411 2 i, limit := s.cfg (0x2400 + h) 0x14 0, second := i, stateCode := 0 }
      else s
    | none => s

/-- STOP_DEADLINE_CHECK (R258), with the cells whose PWMA or PWMB net reads high. -/
def execStopDeadlineCheck (t : Tick) (h : SinkId) (netsHigh : List CellId) (s : State) :
    Host.Outcome State Fault Refusal :=
  s.live t fun s =>
    let x := s.sink h
    let failed (c : Nat) : Bool :=
      (netsHigh.any fun n => decide (n.val = c)) ||
        match (s.cell c).state with
        | .idle | .fault => false
        | _ => true
    let late := (x.stops.filter fun p => decide (p.1 ≤ s.now)).flatMap fun p => p.2.filter failed
    let s := s.setSink h { x with stops := x.stops.filter fun p => !decide (p.1 ≤ s.now) }
    ((List.range 16).filter fun b => late.any fun c => decide (c / 8 = b)).foldl
      (fun s b => s.latchBlock b 2 (s.cfg (0x2400 + h) 0x18 0) (s.cfg (0x2400 + h) 0x11 0)) s

/-! ### Driver supplies (R260, R261) -/

/-- Whether every cell of a block is IDLE or FAULT. -/
def State.blockAtRest (s : State) (b : Nat) : Bool :=
  (List.range 8).all fun m =>
    match (s.cell (8 * b + m)).state with
    | .idle | .fault => true
    | _ => false

/-- The steps of clearing a latch (R261): off for 100 ms, then good. -/
def State.latchProgress (s : State) (b v : Nat) : State :=
  let x := s.driver b
  let low := decide ((v : Int) < s.cfg 0x4030 4 b)
  if s.cfg 0x4030 6 b = 3 then
    s.setDriver b { x with
      goodSince := if s.cfg 0x4030 5 b ≤ (v : Int) then (if x.goodSince.isSome then x.goodSince else some s.now) else none }
  else if low then
    let since := if x.offSince.isSome then x.offSince else some s.now
    (s.setDriver b { x with offSince := since, goodSince := none }).put 0x4030 6 b
      (if s.since since (100 * msTicks) then 3 else 2)
  else
    let met := s.since x.offSince (100 * msTicks)
    (s.setDriver b { x with
      offSince := none
      goodSince := if met ∧ s.cfg 0x4030 5 b ≤ (v : Int) then some s.now else none }).put 0x4030 6 b (if met then 3 else 1)

/-- DRIVER_SUPPLY_SAMPLE (R260), every 10 µs: the pin voltage × 16. -/
def execDriverSupplySample (t : Tick) (b : BlockId) (pinMilliVolt : Nat) (s : State) : Host.Outcome State Fault Refusal :=
  s.live t fun s =>
    let v := 16 * pinMilliVolt
    let low := if (v : Int) < s.cfg 0x4030 4 b then min 2 ((s.driver b).low + 1) else 0
    let s := (s.setDriver b { s.driver b with low := low }).put 0x4030 3 b v
    let s := if s.cfg 0x4030 1 b = 1 then s.latchProgress b v else s
    if low = 2 ∧ !s.blockAtRest b then s.blockTrip { ev 0x2602 b with value := v, limit := s.cfg 0x4030 4 b } else s

/-- THERMAL_LATCH_CLEAR (R261): the supply has been good for 10 ms after its 100 ms off. -/
def execThermalLatchClear (t : Tick) (b : BlockId) (s : State) : Host.Outcome State Fault Refusal :=
  s.live t fun s =>
    if s.cfg 0x4030 1 b = 1 ∧ s.cfg 0x4030 6 b = 3 ∧ s.since (s.driver b).goodSince (10 * msTicks) then
      let s := ((s.put 0x4030 1 b 0).put 0x4030 6 b 0).put 0x4030 7 b 0
      (s.setDriver b { s.driver b with offSince := none, goodSince := none }).raise (ev 0x2604 b)
    else s

/-! ### Die temperature (R263) -/

/-- One region's pair of die sensors. -/
def State.sampleDie (s : State) (r : Nat) (a b : Int) : State :=
  let x := s.die r
  let apart := decide (100 < (a - b).natAbs)
  let x := { x with
    apartSince := if apart then (if x.apartSince.isSome then x.apartSince else some s.now) else none
    closeSince := if apart then none else (if x.closeSince.isSome then x.closeSince else some s.now)
    bothOver := if 1250 < a ∧ 1250 < b then x.bothOver + 1 else 0
    firstOver := if 1250 < a then x.firstOver + 1 else 0
    secondOver := if 1250 < b then x.secondOver + 1 else 0 }
  (s.setDie r x).put 0x3010 1 r a |>.put 0x3010 2 r b

/-- A region's die sensors call for the chip stop. -/
def State.dieTooHot (s : State) (r : Nat) : Bool :=
  let x := s.die r
  decide (4 ≤ x.bothOver) || (x.standing && (decide (4 ≤ x.firstOver) || decide (4 ≤ x.secondOver)))

/-- The highest of the present die temperatures. -/
def State.dieNow (s : State) : Int :=
  (List.range 4).foldl (fun m r => max m (max (s.cfg 0x3010 1 r) (s.cfg 0x3010 2 r))) (-32768)

/-- The time for which the die has been cool after 0x4701 (R323). -/
def State.countCool (s : State) : State :=
  if s.run.stopCode = 0x4701 then
    let x := s.run
    let done := match x.coolSince with
      | some a => x.coolSteps + (s.now - a)
      | none => x.coolSteps
    s.setRun { x with coolSteps := done, coolSince := if s.dieNow < s.cfg 0x2420 1 0 - 50 then some s.now else none }
  else s

/-- DIE_TEMPERATURE_SAMPLE: the two sensors of regions A to D in order, in 0.1 °C. -/
def execDieTemperatureSample (t : Tick) (deciCelsius : List Int) (s : State) : Host.Outcome State Fault Refusal :=
  s.live t fun s =>
    let was := s
    let s := (List.range 4).foldl (fun s r =>
      s.sampleDie r (deciCelsius.getD (2 * r) (s.cfg 0x3010 1 r)) (deciCelsius.getD (2 * r + 1) (s.cfg 0x3010 2 r))) s
    let top := s.dieNow
    let high := match s.run.highestDie with
      | some h => max h top
      | none => top
    let s := (s.setRun { s.run with highestDie := some high }).put 0x2420 2 0 high
    let lim := s.cfg 0x2420 1 0
    let hot := ((List.range 4).find? fun r => decide (s.cfg 0x3010 1 r = top ∨ s.cfg 0x3010 2 r = top)).getD 0
    let s :=
      if s.run.dieArmed then
        if lim ≤ top then
          (s.setRun { s.run with dieArmed := false }).raise { ev 0x3106 hot with value := top, limit := lim }
        else s
      else if top ≤ lim - 50 then s.setRun { s.run with dieArmed := true }
      else s
    let s := s.countCool
    match (List.range 4).find? fun r => s.dieTooHot r && !was.dieTooHot r with
    | some r => s.chipTrip { ev 0x4701 0 with value := max (s.cfg 0x3010 1 r) (s.cfg 0x3010 2 r), limit := 1250 }
    | none => s

/-- DIE_SENSORS_DISAGREE: a difference of more than 10.0 °C for 10 s raises 0x3107; 10 s without it ends it. -/
def execDieSensorsDisagree (t : Tick) (r : RegionId) (s : State) : Host.Outcome State Fault Refusal :=
  s.live t fun s =>
    let x := s.die r
    if !x.standing && s.since x.apartSince (10 * secTicks) then
      (s.setDie r { x with standing := true }).raise
        { ev 0x3107 r with value := (s.cfg 0x3010 1 r - s.cfg 0x3010 2 r).natAbs, limit := 100 }
    else if x.standing && s.since x.closeSince (10 * secTicks) then s.setDie r { x with standing := false }
    else s

end Sys2Proof.Machine
end

