-- ==== Sys2Proof/Machine/Sequencer.lean ====
section
/-! DEFINITION. The sequencer: channels, steps, programs, triggers and the supply collapse (chapter 11). -/

namespace Sys2Proof.Machine

def State.progSlot (s : State) (e : Nat) : SlotT := bget {} s.progSlots e
def State.setProgSlot (s : State) (e : Nat) (x : SlotT) : State := { s with progSlots := bset s.progSlots e x }

/-! ### Steps and programs (R271 to R279) -/

def State.stepWord (s : State) (i : Nat) : Nat := s.nat 0x2600 1 i
def opOf (w : Nat) : Nat := w / 0x10000000 % 16
def targetOf (w : Nat) : Nat := w / 0x100000 % 256
def argOf (w : Nat) : Nat := w % 0x100000

/-- An address lies in the range of a program. -/
def State.inProgram (s : State) (p i : Nat) : Bool :=
  decide (s.nat 0x2610 1 p ≤ i) && decide (i < s.nat 0x2610 1 p + s.nat 0x2610 2 p)

/-- The program whose range holds an address. -/
def State.programAt (s : State) (i : Nat) : Option Nat := (List.range 32).find? fun p => s.inProgram p i

/-- The slot that runs a program. -/
def State.slotOf (s : State) (p : Nat) : Option Nat :=
  (List.range 16).find? fun e => decide ((s.progSlot e).program = some p)

def State.progRuns (s : State) (p : Nat) : Bool := (s.slotOf p).isSome

/-- A target that WAITPG and CHECK read (Table 11-3). -/
def isFlag (c : Nat) : Bool :=
  decide (c ≤ 0x97) || decide (0xA0 ≤ c ∧ c ≤ 0xA3) || decide (0xA8 ≤ c ∧ c ≤ 0xAA) || decide (0xB0 ≤ c ∧ c ≤ 0xCF) ||
    decide (c = 0xFF)

/-- The check of one step word (R279). -/
def State.stepValid (s : State) (w : Nat) : Bool :=
  let c := targetOf w
  let a := argOf w
  let jump (i : Nat) := (s.programAt i).isSome
  match opOf w with
  | 0 => decide (c = 0 ∧ a = 0)
  | 1 => decide (c ≤ 0x97) && (decide (a = 0) || decide (0x40 ≤ c ∧ c ≤ 0x7F))
  | 2 => decide (c ≤ 0x97) && (decide (a = 0) || decide (a = 1 ∧ 0x40 ≤ c ∧ c ≤ 0x7F))
  | 3 => decide (c = 0) && decide (a / 0x20000 ≤ 5)
  | 4 =>
    isFlag c && decide (1 ≤ a / 0x800 % 16) &&
      (if a / 0x40000 % 2 = 1 then jump (a % 0x800) else decide (a % 0x800 = 0))
  | 5 => isFlag c && decide (a / 0x800 % 256 = 0) && jump (a % 0x800)
  | 6 => decide (c = 0) && decide (a / 0x800 = 0) && jump (a % 0x800)
  | 7 => decide (c = 0)
  | _ => false

/-- The first address of a program that fails the check (PROGRAM_START_CHECK). -/
def State.failingStep (s : State) (p : Nat) : Option Nat :=
  ((List.range (s.nat 0x2610 2 p)).map (s.nat 0x2610 1 p + ·)).find? fun i => !s.stepValid (s.stepWord i)

/-- The free slot a starting program takes (R277). -/
def State.freeSlot (s : State) (p : Nat) : Option Nat :=
  let free (e : Nat) := (s.progSlot e).program.isNone
  let pref := s.nat 0x2610 5 p
  match (if pref < 4 then ((List.range 4).map (4 * pref + ·)).find? free else none) with
  | some e => some e
  | none => (List.range 16).find? free

/-- The region of a program that runs, else the engine it prefers, else A (assumption 44). -/
def State.progRegion (s : State) (p : Nat) : Nat :=
  match s.slotOf p with
  | some e => e / 4
  | none => if s.nat 0x2610 5 p < 4 then s.nat 0x2610 5 p else 0

/-- An event of a program. -/
def State.raiseProg (s : State) (code p : Nat) (value w4 : Int) : State :=
  s.raise { ev code (s.progRegion p) with value := value, second := p, w4 := w4 }

/-- A program begins in a slot (R282). -/
def State.enterProgram (s : State) (p e i : Nat) : State :=
  let s := s.setProgSlot e { s.progSlot e with program := some p, addr := i, waitEnd := none }
  let s := (((s.put 0x2620 2 p i).put 0x2620 3 p e).bump 0x2620 5 p).put 0x2620 6 p 0
  s.raiseProg 0x3202 p 0 0

/-- A start is refused: result 2, 3 or 4 (R279, R282). -/
def State.refuseProgram (s : State) (p result : Nat) : State :=
  (s.put 0x2620 6 p result).raiseProg 0x3207 p result 0

/-- The engines have gone past a slot in this turn (R276). -/
def State.slotPassed (s : State) (e : Nat) : Bool :=
  match s.stepAt with
  | some (a, i) => decide (a / usTicks = s.now / usTicks) && decide (e < i)
  | none => false

/-- A slot executes no further step in this turn. -/
def State.endTurn (s : State) (e : Nat) : State := s.setProgSlot e { s.progSlot e with doneTurn := some (s.now / usTicks) }

/-- A start of a program by any trigger (R277, R279, R282). The result reads at 0x2620.06. -/
def State.startProgram (s : State) (p : Nat) : State :=
  if s.progRuns p ∨ s.deferred.contains p then (s.put 0x2620 6 p 1).raiseProg 0x320A p 1 0
  else if s.nat 0x2610 2 p = 0 then s.refuseProgram p 4
  else
    match s.failingStep p with
    | some i => (s.put 0x2620 7 p i).refuseProgram p 3
    | none =>
      match s.freeSlot p with
      | some e => (if s.slotPassed e then s.endTurn e else s).enterProgram p e (s.nat 0x2610 1 p)
      | none => s.refuseProgram p 2

/-- A trigger bit of a program (Table 11-6). -/
def State.hasTrigger (s : State) (p n : Nat) : Bool := (s.nat 0x2610 3 p).testBit n

/-- The programs of the KS7 set with a trigger, ascending; none if KS7 is invalid. -/
def State.triggered (s : State) (n : Nat) : List Nat :=
  if s.strapBad [7] then []
  else (List.range 32).filter fun p => s.hasTrigger p n && (s.nat 0x2610 4 p).testBit (s.nat 0x2011 8 0)

/-- A program with the input-loss trigger runs. -/
def State.lossRuns (s : State) : Bool := (List.range 32).any fun p => s.hasTrigger p 1 && s.progRuns p

/-- DEFERRED_PROGRAM_JUDGEMENT (R283), when the last running input-loss program has ended. -/
def State.judgeDeferred (s : State) : State :=
  if s.lossRuns then s
  else
    let ds := s.deferred
    ds.foldl (fun s p =>
      if s.progRuns p then (s.put 0x2620 6 p 1).raiseProg 0x320A p 1 0
      else if s.cfg 0x2510 6 0 = 1 then s.startProgram p
      else s) { s with deferred := [] }

/-- A program leaves its slot with an end code (R282). -/
def State.leaveProgram (s : State) (e code : Nat) : State :=
  match (s.progSlot e).program with
  | some p =>
    let s := s.raiseProg 0x3203 p 0 code
    let s := s.setProgSlot e { s.progSlot e with program := none, waitEnd := none }
    (s.put 0x2620 4 p code).put 0x2620 3 p 0xFF
  | none => s

/-- A program ends; deferred programs are judged where it had the input-loss trigger (R282, R283). -/
def State.endProgram (s : State) (e code : Nat) : State :=
  match (s.progSlot e).program with
  | some p => if s.hasTrigger p 1 then (s.leaveProgram e code).judgeDeferred else s.leaveProgram e code
  | none => s

/-- The program of a slot goes on at an address of its own range, or ends off its range (R280). -/
def State.goOn (s : State) (e i : Nat) : State :=
  match (s.progSlot e).program with
  | some p =>
    if s.inProgram p i then (s.setProgSlot e { s.progSlot e with addr := i, waitEnd := none }).put 0x2620 2 p i
    else (s.raiseProg 0x3208 p 0 0).endProgram e 4
  | none => s

/-- The program of a slot goes on with its next step. -/
def State.goNext (s : State) (e : Nat) : State := s.goOn e ((s.progSlot e).addr + 1)

/-- A program is entered in a slot at an address by a transfer, as if it had started there: dropped where it runs, refused
where its check fails (R279, R280, R282). -/
def State.transferTo (s : State) (q e i : Nat) : State :=
  if s.progRuns q then (s.put 0x2620 6 q 1).raiseProg 0x320A q 1 0
  else
    match s.failingStep q with
    | some j => (s.put 0x2620 7 q j).refuseProgram q 3
    | none => s.enterProgram q e i

/-- A jump, which transfers where the address lies in another program (R280). -/
def State.jumpTo (s : State) (e i : Nat) : State :=
  match (s.progSlot e).program with
  | some p =>
    if s.inProgram p i then s.goOn e i
    else
      match s.programAt i with
      | some q =>
        let s := (s.leaveProgram e 3).transferTo q e i
        if s.hasTrigger p 1 then s.judgeDeferred else s
      | none => s.goOn e i
  | none => s

/-! ### Input good and flags (R268, R272, R281) -/

/-- The mains part of input good. -/
def State.mainsHolds (s : State) : Bool :=
  decide (s.nat 0x2510 2 0 ≤
    ((List.range 3).filter fun ph => (s.nat 0x2510 1 0).testBit ph && decide (s.nat (0x2200 + ph) 1 0 = 2)).length)

/-- The feed part of input good: the selector has a feed in ON with power-good. -/
def State.feedHolds (s : State) : Bool :=
  decide (s.cfg 0x2510 3 0 = 1) && s.selectorOn &&
    ([0, 1].any fun x =>
      match s.inputFeed x with
      | some f => decide ((s.feed f).state = .on) && (s.feed f).powerGood
      | none => false)

/-- The times since which each part holds, and since which neither does. -/
def State.trackInputs (s : State) : State :=
  { s with
    mainsPart := track s.now s.mainsPart s.mainsHolds
    feedPart := track s.now s.feedPart s.feedHolds
    noPart := track s.now s.noPart (!s.mainsHolds && !s.feedHolds) }

/-- The PG flag of a channel: it reads 0 where the input is unused (R267). -/
def State.pgFlag (s : State) (n : Nat) : Bool := decide ((s.seq n).pgMode ≠ 0) && (s.seq n).flag

/-- The group whose objects a slot reads: those of the upper block of a doubles pair are copies (R31, R167). -/
def State.homeGroup (s : State) (g : Nat) : Nat := if s.upperCopy (g / 4) then g - 4 else g

/-- A flag of Table 11-3. -/
def State.flagAt (s : State) (c : Nat) : Bool :=
  if c < 0x40 then s.pgFlag c
  else if c < 0x80 then (s.group (s.homeGroup (c - 0x40))).powerGood
  else if c < 0x98 then (s.feed (c - 0x80)).powerGood
  else if c = 0xA3 then decide (s.nat 0x2210 1 0 = 2)
  else if c < 0xA3 then decide (s.nat (0x2200 + (c - 0xA0)) 1 0 = 2)
  else if c = 0xA8 then decide (s.cfg 0x2510 6 0 = 1)
  else if c = 0xA9 then s.mainsHolds
  else if c = 0xAA then s.feedHolds
  else if c < 0xC0 then (s.nat 0x2520 1 0).testBit (c - 0xB0)
  else if c < 0xD0 then bget false s.watch (c - 0xC0)
  else true

/-! ### Channels (R262, R266 to R270) -/

/-- The blocks whose driver supply a channel switches (R262). -/
def State.guards (s : State) (n : Nat) : List Nat := (List.range 16).filter fun b => decide (s.nat 0x4030 2 b = n)

/-- The first block that forbids the release of a guarded channel. -/
def State.guardRefuses (s : State) (n : Nat) : Option Nat :=
  (s.guards n).find? fun b =>
    !s.blockAtRest b || (s.doubles (b - b % 2) && (!s.blockAtRest (b - b % 2) || !s.blockAtRest (b - b % 2 + 1)))

/-- EN is asserted (R269). -/
def State.assertEn (s : State) (n : Nat) : State :=
  let x := s.seq n
  s.setSeq n { x with commanded := true, flagSeen := if x.commanded then x.flagSeen else s.pgFlag n }

/-- EN is released. -/
def State.releaseEn (s : State) (n : Nat) : State := s.setSeq n { s.seq n with commanded := false, flagSeen := false }

/-- A refused step or EN command (R269, R272). -/
def State.raiseRefused (s : State) (r second : Nat) : State := s.raise { ev 0x3206 r with second := second }

/-- An EN command of the dictionary: a held channel refuses it with 0x3206, and a guarded one refuses it (R262, R269). -/
def State.commandEn (s : State) (n : Nat) (on : Bool) : State :=
  if (s.seq n).held then (s.raiseRefused 0 n).result 0x23
  else if !(s.guards n).isEmpty then s.result 0x23
  else if on then s.assertEn n else s.releaseEn n

/-- EN_ASSERT_COMMAND: 0x2500.06 := 1. -/
def execEnAssertCommand (t : Tick) (src : Nat) (n : SeqId) (s : State) : Host.Outcome State Fault Refusal :=
  s.live t fun s => s.dict (.enAssertCommand t (nodeOf src) n) src 1 false fun s => s.commandEn n true

/-- EN_RELEASE_COMMAND: 0x2500.06 := 2. -/
def execEnReleaseCommand (t : Tick) (src : Nat) (n : SeqId) (s : State) : Host.Outcome State Fault Refusal :=
  s.live t fun s => s.dict (.enReleaseCommand t (nodeOf src) n) src 1 false fun s => s.commandEn n false

/-- The modes and the debounce that were written come into force at a turn; the flag of an input that is no longer used ends (R267,
R288). -/
def State.turnChannels (s : State) : State :=
  (((s.obj.filter fun p => decide (p.1.index = 0x2500)).map fun p => p.1.inst) ++ s.seqs.map fun p => p.1).foldl (fun s n =>
    let x := s.seq n
    let y := { x with mode := s.nat 0x2500 1 n, pgMode := s.nat 0x2500 2 n, debounce := s.nat 0x2500 3 n }
    let y := if y.pgMode = 0 then { y with flag := false, flagSeen := false } else y
    if x = y then s else s.setSeq n y) s

/-- Whether PG(s) is at its active level (R267). -/
def State.pgActive (s : State) (n : Nat) : Bool :=
  match (s.seq n).pgMode with
  | 1 => (s.seq n).pgHigh
  | 2 => !(s.seq n).pgHigh
  | _ => false

/-- PG has been at its level for the debounce time. -/
def State.pgSteady (s : State) (n : Nat) : Bool := decide ((s.seq n).pgSince + (s.seq n).debounce * usTicks ≤ s.now)

/-- PG_FLAG_SET (R267). -/
def execPgFlagSet (t : Tick) (n : SeqId) (s : State) : Host.Outcome State Fault Refusal :=
  s.live t fun s =>
    let x := s.seq n
    if s.pgActive n && s.pgSteady n && !x.flag then s.setSeq n { x with flag := true, flagSeen := x.flagSeen || x.commanded }
    else s

/-- A running program with the input-loss trigger holds a channel in its release set (R270). -/
def State.inReleaseSet (s : State) (n : Nat) : Bool :=
  (List.range 32).any fun p =>
    s.hasTrigger p 1 && s.progRuns p &&
      ((List.range (s.nat 0x2610 2 p)).any fun i =>
        let w := s.stepWord (s.nat 0x2610 1 p + i)
        decide (opOf w = 2) && decide (targetOf w = n))

/-- PG_FLAG_CLEAR (R267, R270). -/
def execPgFlagClear (t : Tick) (n : SeqId) (s : State) : Host.Outcome State Fault Refusal :=
  s.live t fun s =>
    let x := s.seq n
    if x.pgMode ≠ 0 ∧ !s.pgActive n ∧ s.pgSteady n ∧ x.flag then
      let s := s.setSeq n { x with flag := false }
      if x.commanded && !x.held && x.flagSeen && !s.inReleaseSet n then s.raise { ev 0x3204 0 with second := n, stateCode := 1 }
      else s
    else s

/-! ### The steps (R269, R271 to R276) -/

/-- A slot may execute a step in this turn: it has a program, does not wait, has executed fewer than 16 steps, and has not ended
its turn. -/
def State.slotReady (s : State) (e : Nat) : Bool :=
  let x := s.progSlot e
  x.program.isSome && x.waitEnd.isNone && decide (x.steps < 16) && decide (x.doneTurn ≠ some (s.now / usTicks))

/-- The engines execute from SYS cycle 40 of a turn on, one step in a SYS cycle, the slots in ascending order (R276). -/
def State.slotTurn (s : State) (e : Nat) : Bool :=
  decide (40 * cycleTicks ≤ s.now % usTicks) && !((List.range e).any s.slotReady) &&
    match s.stepAt with
    | some (a, _) => decide (a / cycleTicks < s.now / cycleTicks)
    | none => true

/-- A step of a slot runs: it is the slot's place in the turn, and its step has the opcode. The step is counted. -/
def State.runStep (s : State) (e op : Nat) (f : State → Nat → State) : State :=
  let x := s.progSlot e
  let w := s.stepWord x.addr
  if s.slotReady e ∧ s.slotTurn e ∧ opOf w = op then
    f { s.setProgSlot e { x with steps := x.steps + 1 } with stepAt := some (s.now, e) } w
  else s

/-- A feed command of a step: a refusal journals 0x3206 (R272). -/
def State.stepFeed (s : State) (e p f : Nat) (on : Bool) : State :=
  let s := s.channelCommand f on
  if s.nat 0x6830 2 f = 0 then s else s.raiseRefused (e / 4) p

/-- A group command of a step, judged as a dictionary write: the upper block of a doubles pair refuses it, and a refused start
journals 0x2402 (R31, R272). -/
def State.stepGroup (s : State) (g : Nat) (start : Bool) (f : State → State) : State :=
  if s.upperCopy (g / 4) then
    if start then s.raise { ev 0x2402 (g / 4) with stateCode := (s.group (s.homeGroup g)).state.code, second := g } else s
  else f s

/-- What an ENABLE step does (R269, R272). -/
def State.enableStep (s : State) (e p w : Nat) : State :=
  let c := targetOf w
  if c < 0x40 then (if (s.seq c).held then s.raiseRefused (e / 4) c else s.assertEn c)
  else if c < 0x80 then
    let g := c - 0x40
    s.stepGroup g true fun s => s.groupAccept g 3 true fun s => (if argOf w = 0 then s else s.writeTarget g (argOf w)).runGroupCommand g 1
  else s.stepFeed e p (c - 0x80) true

/-- What a RELEASE step does (R262, R272). -/
def State.releaseStep (s : State) (e p w : Nat) : State :=
  let c := targetOf w
  if c < 0x40 then
    match s.guardRefuses c with
    | some b => s.raise { ev 0x2605 b with second := c }
    | none => s.releaseEn c
  else if c < 0x80 then s.stepGroup (c - 0x40) false fun s => s.groupCommand (c - 0x40) (if argOf w = 1 then 3 else 2)
  else s.stepFeed e p (c - 0x80) false

/-- The action of an ENABLE or RELEASE step of a program; it leaves the entry result of the dictionary alone. -/
def State.runAction (s : State) (e p w : Nat) : State :=
  let r := s.lastResult
  (if opOf w = 1 then s.enableStep e p w else s.releaseStep e p w).result r

/-- A step that acts on an object is a command at its region's sequencer input, and from there at that region's input of the chip
arbiter (R37, R474). Its step stands for its acceptance where both arbiters accept it in this SYS cycle; else it waits. -/
def State.stepAction (s : State) (e w : Nat) : State :=
  let r : RegionId := Fin.ofNat 4 (e / 4)
  let p := (s.progSlot e).program.getD 0
  if s.accepting || (s.arbiterFree 2 r && s.nothingBefore 2 (regionInputs r) false (.region r 4) && s.chipTakes (Fin.ofNat 15 r)) then
    ((s.markAccept 2 r).markAccept 3 0).runAction e p w
  else
    let q := s.input (.region r 4)
    s.setInput (.region r 4) { q with items := q.items ++ [⟨s.now - 3 * cycleTicks, .command (.step e p w)⟩] }

/-- STEP_END (R271, R282). -/
def execStepEnd (t : Tick) (e : SlotId) (s : State) : Host.Outcome State Fault Refusal :=
  s.live t fun s => s.runStep e 0 fun s _ => (s.endTurn e).endProgram e 1

/-- STEP_ENABLE (R269, R272). -/
def execStepEnable (t : Tick) (e : SlotId) (s : State) : Host.Outcome State Fault Refusal :=
  s.live t fun s => s.runStep e 1 fun s w => (s.stepAction e w).goNext e

/-- STEP_RELEASE (R262, R269, R272). -/
def execStepRelease (t : Tick) (e : SlotId) (s : State) : Host.Outcome State Fault Refusal :=
  s.live t fun s => s.runStep e 2 fun s w => (s.stepAction e w).goNext e

/-- The units of Table 11-4 in steps. -/
def waitUnit (u : Nat) : Nat :=
  match u with
  | 0 => 10 * usTicks
  | 1 => 100 * usTicks
  | 2 => msTicks
  | 3 => 10 * msTicks
  | 4 => 100 * msTicks
  | 5 => secTicks
  | 6 => 10 * secTicks
  | _ => 60 * secTicks

/-- The start of the turn that runs. -/
def State.turnAt (s : State) : Tick := s.now / usTicks * usTicks

/-- STEP_WAIT (R274, R275): a count of 0 has passed at once. -/
def execStepWait (t : Tick) (e : SlotId) (s : State) : Host.Outcome State Fault Refusal :=
  s.live t fun s => s.runStep e 3 fun s w =>
    let n := argOf w % 0x20000 * waitUnit (argOf w / 0x20000)
    if n = 0 then s.goNext e else (s.endTurn e).setProgSlot e { (s.endTurn e).progSlot e with waitEnd := some (s.turnAt + n) }

/-- Whether the flag of a WAITPG step is at its level. -/
def State.levelReached (s : State) (w : Nat) : Bool := s.flagAt (targetOf w) == decide (argOf w / 0x80000 % 2 = 1)

/-- STEP_WAITPG (R275). -/
def execStepWaitpg (t : Tick) (e : SlotId) (s : State) : Host.Outcome State Fault Refusal :=
  s.live t fun s => s.runStep e 4 fun s w =>
    if s.levelReached w then s.goNext e
    else
      let s := s.endTurn e
      s.setProgSlot e { s.progSlot e with
        waitEnd := some (s.turnAt + argOf w / 0x800 % 16 * waitUnit (argOf w / 0x8000 % 8)) }

/-- STEP_CHECK (R271): jump if the flag is 1 (sense 0) or 0 (sense 1). -/
def execStepCheck (t : Tick) (e : SlotId) (s : State) : Host.Outcome State Fault Refusal :=
  s.live t fun s => s.runStep e 5 fun s w =>
    if s.flagAt (targetOf w) == decide (argOf w / 0x80000 % 2 = 0) then s.jumpTo e (argOf w % 0x800) else s.goNext e

/-- STEP_JUMP (R271, R280). -/
def execStepJump (t : Tick) (e : SlotId) (s : State) : Host.Outcome State Fault Refusal :=
  s.live t fun s => s.runStep e 6 fun s w => s.jumpTo e (argOf w % 0x800)

/-- STEP_MARK (R271): the value in word 4 (Table 13-6). -/
def execStepMark (t : Tick) (e : SlotId) (s : State) : Host.Outcome State Fault Refusal :=
  s.live t fun s => s.runStep e 7 fun s w =>
    (s.raiseProg 0x3205 ((s.progSlot e).program.getD 0) 0 (argOf w)).goNext e

/-- A wait of a slot at a step with the opcode, that is due or not. -/
def State.waitingAt (s : State) (e op : Nat) (due : Bool) (f : State → Nat → State) : State :=
  let x := s.progSlot e
  let w := s.stepWord x.addr
  match x.waitEnd with
  | some n => if opOf w = op ∧ (!due ∨ n ≤ s.now) then f s w else s
  | none => s

/-- WAIT_COMPLETE (R275). -/
def execWaitComplete (t : Tick) (e : SlotId) (s : State) : Host.Outcome State Fault Refusal :=
  s.live t fun s => s.waitingAt e 3 true fun s _ => s.goNext e

/-- WAITPG_LEVEL_REACHED (R275). -/
def execWaitpgLevelReached (t : Tick) (e : SlotId) (s : State) : Host.Outcome State Fault Refusal :=
  s.live t fun s => s.waitingAt e 4 false fun s w =>
    if s.levelReached w then (if s.slotPassed e then s.endTurn e else s).goNext e else s

/-- WAITPG_TIMEOUT (R275): a level that has arrived by then goes before the timeout. -/
def execWaitpgTimeout (t : Tick) (e : SlotId) (s : State) : Host.Outcome State Fault Refusal :=
  s.live t fun s => s.waitingAt e 4 true fun s w =>
    let p := (s.progSlot e).program.getD 0
    if s.levelReached w then s.goNext e
    else if argOf w / 0x40000 % 2 = 1 then (s.raiseProg 0x3209 p 0 0).jumpTo e (argOf w % 0x800)
    else (s.raiseProg 0x3201 p 0 0).goNext e

/-! ### Triggers and commands (R281 to R284) -/

/-- INPUT_GOOD_SET (R281, R283). -/
def execInputGoodSet (t : Tick) (s : State) : Host.Outcome State Fault Refusal :=
  s.live t fun s =>
    let s := s.trackInputs
    let n := s.nat 0x2510 5 0 * msTicks
    if s.cfg 0x2510 6 0 = 0 ∧ (s.since s.mainsPart n ∨ s.since s.feedPart n) then
      let s := s.put 0x2510 6 0 1
      let waits := s.lossRuns
      (s.triggered 2).foldl (fun s p =>
        if waits ∧ !s.progRuns p ∧ !s.deferred.contains p then { s with deferred := s.deferred ++ [p] }
        else s.startProgram p) s
    else s

/-- INPUT_GOOD_CLEAR (R281, R283). -/
def execInputGoodClear (t : Tick) (s : State) : Host.Outcome State Fault Refusal :=
  s.live t fun s =>
    let s := s.trackInputs
    if s.cfg 0x2510 6 0 = 1 ∧ s.since s.noPart (s.nat 0x2510 4 0 * msTicks) then
      let s := s.put 0x2510 6 0 0
      let s := (List.range 16).foldl (fun s e =>
        match (s.progSlot e).program with
        | some p => if s.hasTrigger p 2 then s.endProgram e 5 else s
        | none => s) s
      (s.triggered 1).foldl State.startProgram s
    else s

/-- PROGRAM_START_COMMAND: 0xF040.01 := 1 (R282). -/
def execProgramStartCommand (t : Tick) (src : Nat) (p : ProgId) (s : State) : Host.Outcome State Fault Refusal :=
  s.live t fun s => s.dict (.programStartCommand t (nodeOf src) p) src 1 false fun s =>
    let s := s.startProgram p
    s.result (if s.nat 0x2620 6 p = 0 then 0 else 0x23)

/-- An abort of a program (R284, R389). -/
def State.abortProgram (s : State) (p : Nat) : State :=
  match s.slotOf p with
  | some e => s.endProgram e 2
  | none =>
    let f : Event → Bool := fun x => decide (x.code = 0x3203 ∧ x.second = p ∧ x.w4 = 1)
    let g : Event → Event := fun x => { x with w4 := 2 }
    let ins := (List.range 4).flatMap fun r => [ArbInput.region (Fin.ofNat 4 r) 4, .chip (Fin.ofNat 15 r)]
    if ins.any fun i => s.waits i f then (ins.foldl (fun s i => s.amend i f g) s).put 0x2620 4 p 2
    else if s.cfg 0x2620 4 p = 1 ∨ s.cfg 0x2620 4 p = 3 ∨ s.cfg 0x2620 4 p = 4 then s.result 2
    else s.result 0x23

/-- PROGRAM_ABORT: 0xF040.01 := 2. -/
def execProgramAbort (t : Tick) (src : Nat) (p : ProgId) (s : State) : Host.Outcome State Fault Refusal :=
  s.live t fun s => s.dict (.programAbort t (nodeOf src) p) src 1 false fun s => s.abortProgram p

/-- The power-up programs of the set start (Table 11-6), once in a run. -/
def State.powerUpPrograms (s : State) : State :=
  (s.triggered 0).foldl State.startProgram (s.setRun { s.run with programsRun := true })

/-! ### Supply collapse (R286, R305, R413) -/

/-- The next chip sequence number (R38): 0 is never issued. -/
def nextSeq (n : Nat) : Nat := if (n + 1) % 0x100000000 = 0 then 1 else (n + 1) % 0x100000000

/-- The number `k` further, as the issued numbers run (R38, R39). -/
def seqAhead (n k : Nat) : Nat := if n + k < 0x100000000 then n + k else (n + k) % 0x100000000 + 1

/-- The last-gasp record (R305). -/
def State.lastGasp (s : State) (vaux : Nat) : JRec :=
  let lost := s.journal.queue
  { type := 1, pip := 6, code := 0x4801, seq := nextSeq s.chipSeq, rseq := 0, region := 0, flags := 0, inst := 0
    stamp := s.stamp s.now
    words := [(vaux : Int), (lost.length : Nat),
      (match lost with
      | r :: _ => (r.item.seq : Int)
      | [] => 0),
      (s.fault .chip).firstCode, (s.run.highestDie.getD 0), 0, 0, 0, 0] }

end Sys2Proof.Machine
end

