-- ==== Sys2Proof/Machine/Journal.lean ====
section
/-! DEFINITION. Telemetry, waveform captures and the journal (chapter 12). -/

namespace Sys2Proof.Machine

def State.capture (s : State) (x : Nat) : Capture := bget {} s.captures x
def State.setCapture (s : State) (x : Nat) (c : Capture) : State := { s with captures := bset s.captures x c }

/-! ### Telemetry (R289 to R293) -/

/-- A window of a quantity, by 4·q + w. -/
def State.window (s : State) (kind inst i : Nat) : Window := (bget [] s.tele (kind, inst)).getD i {}

/-- A list with one place changed, padded with defaults. -/
def setPlace {α : Type} (d x : α) : List α → Nat → List α
  | [], 0 => [x]
  | [], n + 1 => d :: setPlace d x [] n
  | _ :: r, 0 => x :: r
  | y :: r, n + 1 => y :: setPlace d x r n

def State.setWindow (s : State) (kind inst i : Nat) (w : Window) : State :=
  { s with tele := bset s.tele (kind, inst) (setPlace {} w (bget [] s.tele (kind, inst)) i) }

/-- The ADC of a voltage input is at its pins: the 12.8 µs of R228 are over. -/
def State.unshorted (s : State) (v : Nat) : Bool := decide (bget 0 s.shorted v ≤ s.now)

/-- A voltage input in its unit, `none` where it names no input or R228 skips its slot. -/
def State.teleInput (s : State) (v : Nat) : Option Int :=
  if v < 48 ∧ s.unshorted v then some (s.inputMilliVolt v) else none

/-- Current of a cell in mA. -/
def State.cellAmp (s : State) (c : Nat) : Option Int :=
  let k := s.cfg 0x5011 5 c
  if k = 0 then none else some (rndDiv ((((s.cell c).meanCode : Int) - s.zero c) * k) 1000)

/-- Temperature of a cell: the highest of the enabled heatsink groups that hold it. -/
def State.cellTemp (s : State) (c : Nat) : Option Int :=
  (((List.range 12).filter fun h => s.sinkOn h && (s.nat (0x2400 + h) (0xA + c / 32) 0).testBit (c % 32)).map fun h =>
    s.cfg (0x2400 + h) 0x18 0).foldl (fun m t =>
      if t = 0x7FFF then m
      else match m with
        | some u => some (max t u)
        | none => some t) none

/-- Output voltage of a group. -/
def State.groupVolt (s : State) (g : Nat) : Option Int := s.teleInput (s.nat (0x6200 + g % 4) 0xE (g / 4))

/-- Output current of a group: its current sense, else the sum of its cells' currents. A BAT group's is positive towards the
bus, while its cells' codes rise with the charge (R139, R289). -/
def State.groupAmp (s : State) (g : Nat) : Option Int :=
  let v := s.nat (0x6300 + g % 4) 1 (g / 4)
  if v < 48 then s.teleInput v
  else if v = 0xFE ∧ s.role g = 4 then some (s.idMilli (s.nat (0x6210 + g % 4) 1 (g / 4)))
  else
    (s.groupCells g).foldl (fun m c =>
      match m, s.cellAmp c with
      | some a, some b => some (if s.role g = 3 then a - b else a + b)
      | _, _ => none) (if (s.groupCells g).isEmpty then none else some 0)

/-- Temperature of a group: the highest of its cells. -/
def State.groupTemp (s : State) (g : Nat) : Option Int :=
  (s.groupCells g).foldl (fun m c =>
    match m, s.cellTemp c with
    | some a, some b => some (max a b)
    | none, b => b
    | a, none => a) none

/-- The present voltage, current and temperature of an element (Table 12-1): kind 0 cell, 1 group, 2 feed, 3 string. -/
def State.quantities (s : State) (kind i : Nat) : Option Int × Option Int × Option Int :=
  match kind with
  | 0 =>
    (match s.cellGroup i with
      | some g => s.groupVolt g
      | none => some 0, s.cellAmp i, s.cellTemp i)
  | 1 => (s.groupVolt i, s.groupAmp i, s.groupTemp i)
  | 2 =>
    if s.feedUse i = 0 then (none, none, none)
    else (if s.nat 0x6800 2 i < 48 ∧ s.unshorted (s.nat 0x6800 2 i) then some (s.outMilli i) else none, some (s.idMilli i), some (rndDiv (s.feed i).tj 100000))
  | _ =>
    if s.cfg 0x7000 1 i = 1 ∧ (s.str i).sampleAt.isSome then
      (if s.unshorted (s.nat 0x7000 2 i) then some (s.str i).volt else none,
        if s.unshorted (s.nat 0x7000 3 i) then some (s.str i).amp else none, if (s.str i).temp = 0x7FFF then none else some (s.str i).temp)
    else (none, none, none)

/-- One sample enters the four windows of a quantity (R290). -/
def Window.take (w : Window) (v : Option Int) : Window :=
  match v with
  | some x => { w with sum := w.sum + x, count := w.count + 1 }
  | none => w

/-- The sample of a turn of one element: power is formed from the sample pair. -/
def State.sampleWindows (s : State) (kind i : Nat) : List Window :=
  let (v, a, t) := s.quantities kind i
  let p := match v, a with
    | some v, some a => some (rndDiv (v * a) 1000)
    | _, _ => none
  let old := bget ([] : List Window) s.tele (kind, i)
  (List.range 16).map fun n =>
    (old.getD n {}).take (match n / 4 with
      | 0 => v
      | 1 => a
      | 2 => p
      | _ => t)

/-- Every element that telemetry keeps. -/
def teleElements : List (Nat × Nat) :=
  ((List.range 128).map fun c => (0, c)) ++ ((List.range 64).map fun g => (1, g)) ++ ((List.range 24).map fun f => (2, f)) ++
    (List.range 4).map fun n => (3, n)

/-- TELEMETRY_SAMPLE (R290), once per turn. -/
def State.turnTelemetry (s : State) : State :=
  { s with tele := teleElements.map fun k => (k, s.sampleWindows k.1 k.2) }

/-- Length of a window in µs. -/
def windowLength (w : Nat) : Nat :=
  match w with
  | 0 => 1000
  | 1 => 100000
  | 2 => 1000000
  | _ => 60000000

/-- The end of one window of one quantity (R291, R292). -/
def Window.close (w : Window) (at0 : Tick) : Window :=
  if w.count = 0 then { w with mean := 0x7FFFFFFF }
  else
    let m := rndDiv w.sum w.count
    { w with
      sum := 0, count := 0, mean := m, cleared := false, closedAt := at0, oldMax := w.heldMax, oldMin := w.heldMin
      heldMax := if w.cleared then m else max w.heldMax m
      heldMin := if w.cleared then m else min w.heldMin m }

/-- A 1 s mean enters the minute. -/
def Window.second (w : Window) (m : Window) : Window :=
  if m.mean = 0x7FFFFFFF then w
  else
    { w with
      minuteMax := some (match w.minuteMax with
        | some x => max x m.mean
        | none => m.mean)
      minuteMin := some (match w.minuteMin with
        | some x => min x m.mean
        | none => m.mean) }

/-- Every window of a length ends. -/
def State.closeWindows (s : State) (w : Nat) : State :=
  { s with
    teleEnd := bset s.teleEnd w s.freeTime
    tele := s.tele.map fun p =>
      (p.1, (List.range 16).map fun n =>
        let x := p.2.getD n {}
        if n % 4 = w then x.close s.now
        else if n % 4 = 3 ∧ w = 2 then x.second ((p.2.getD (n - 1) {}).close s.now)
        else x) }

/-- TREND_RECORD (R296): the record of a trend entry, from the window as it stands at its end. -/
def State.trendEvent (s : State) (e : Nat) : Option Event :=
  let a := s.nat 0x8020 (e + 1) 0
  if a = 0 then none
  else
    let i := a / 0x10000
    let n := s.nat 0x8021 (e + 1) 0
    let w := s.window ((i - 0x7A00) / 0x100) n (4 * (i / 0x10 % 4) + 3)
    some { ev 0x4810 0 with
      area := [(a : Int), n, (w.close s.now).mean, w.minuteMax.getD 0x7FFFFFFF, w.minuteMin.getD 0x7FFFFFFF, w.count] }

/-- A trend record or capture header enters at the journal input of the chip arbiter (R295); the journal holds it while the
input is full (assumption 186). -/
def State.note (s : State) (e : Event) : State :=
  let q := s.input (.chip 14)
  s.setInput (.chip 14) { q with items := q.items ++ [⟨s.now, .event { e with time := s.now }⟩] }

/-- The minute of every quantity starts anew. -/
def State.clearMinutes (s : State) : State :=
  { s with tele := s.tele.map fun p => (p.1, p.2.map fun w => { w with minuteMax := none, minuteMin := none }) }

/-- Whether a window ends now and has not been ended yet. -/
def State.windowDue (s : State) (w : Nat) : Bool :=
  decide (s.freeTime % windowLength w = 0) && decide (bget 0 s.teleEnd w ≠ s.freeTime)

/-- TELEMETRY_WINDOW_END (R291, R292, R296). The last second of a minute ends before the minute. -/
def execTelemetryWindowEnd (t : Tick) (w : WindowId) (s : State) : Host.Outcome State Fault Refusal :=
  s.live t fun s =>
    if s.windowDue w then
      if w.val = 3 then
        let s := if s.windowDue 2 then s.closeWindows 2 else s
        let s := ((List.range 64).filterMap s.trendEvent).foldl State.note s
        (s.closeWindows 3).clearMinutes
      else s.closeWindows w
    else s

/-- The code of a telemetry element kind. -/
def teleKind : TeleKind → Nat
  | .cell => 0
  | .group => 1
  | .feed => 2
  | .string => 3

/-- The number of elements of a kind. -/
def teleCount (kind : Nat) : Nat :=
  match kind with
  | 0 => 128
  | 1 => 64
  | 2 => 24
  | _ => 4

/-- A window with a mean has ended in the present SYS cycle. -/
def Window.closedNow (w : Window) (now : Tick) : Bool := decide (0 < w.closedAt ∧ w.closedAt / cycleTicks = now / cycleTicks)

/-- Both held values are set by the next window mean; of a window that ends in the SYS cycle of the clear it is that mean (R292).
Until then they hold none. -/
def Window.clear (w : Window) (now : Tick) : Window :=
  if w.closedNow now then { w with heldMax := w.mean, heldMin := w.mean, oldMax := 0x7FFFFFFF, oldMin := 0x7FFFFFFF }
  else { w with heldMax := 0x7FFFFFFF, heldMin := 0x7FFFFFFF, cleared := true }

/-- The held maximum and minimum that a read-and-clear returns: those before the clear, and so before a window that ends in the
same SYS cycle (R292). -/
def Window.heldBefore (w : Window) (now : Tick) (maximum : Bool) : Int :=
  match w.closedNow now, maximum with
  | true, true => w.oldMax
  | true, false => w.oldMin
  | false, true => w.heldMax
  | false, false => w.heldMin

/-- The held values of a quantity are cleared (R292). -/
def State.clearHeld (s : State) (kind inst i : Nat) : State :=
  s.setWindow kind inst i ((s.window kind inst i).clear s.now)

/-- HELD_READ_AND_CLEAR: a read of sub-index .04 or .05 answers the held value and clears (R292). -/
def execHeldReadAndClear (t : Tick) (src : Nat) (kind : TeleKind) (q w : Fin 4) (inst : Nat) (maximum : Bool) (s : State) :
    Host.Outcome State Fault Refusal :=
  s.live t fun s =>
    let s := s.setAuth src { s.authRec src with lastRequest := s.now }
    let k := teleKind kind
    if inst < teleCount k then
      let i := 4 * q.val + w.val
      let x := s.window k inst i
      ({ s with lastRead := x.heldBefore s.now maximum }.clearHeld k inst i).result 0
    else s.result 0x12

/-- HELD_CLEAR: 1 written to sub-index .06 (R292). -/
def execHeldClear (t : Tick) (src : Nat) (kind : TeleKind) (q w : Fin 4) (inst value : Nat) (s : State) :
    Host.Outcome State Fault Refusal :=
  s.live t fun s => s.dict (.heldClear t (nodeOf src) kind q w inst value) src 1 false fun s =>
    let k := teleKind kind
    if teleCount k ≤ inst then s.result 0x12
    else if value = 1 then s.clearHeld k inst (4 * q.val + w.val)
    else s.result 0x23

/-- CLEAR_ALL_HELD: 1 written to 0x7E00.01 (R292). -/
def execClearAllHeld (t : Tick) (src : Nat) (value : Nat) (s : State) : Host.Outcome State Fault Refusal :=
  s.live t fun s => s.dict (.clearAllHeld t (nodeOf src) value) src 1 false fun s =>
    if value = 1 then
      { s with tele := teleElements.map fun k =>
          (k, (List.range 16).map fun n => (s.window k.1 k.2 n).clear s.now) }
    else s.result 0x23

/-! ### Captures (R297 to R300) -/

/-- The trigger configuration that a capture holds: source, width, centre and shift of the sixteen slots, and the full
scale of the voltage inputs used. -/
def State.slotConfig (s : State) (x : Nat) : List (Nat × Nat × Int × Nat) :=
  (List.range 16).map fun i =>
    (s.nat (0x8030 + x) (i + 1) 0, s.nat (0x8030 + x) (i + 0x11) 0, s.cfg (0x8030 + x) (i + 0x21) 0,
      s.nat (0x8030 + x) (i + 0x31) 0)

/-- A trigger is armed with an empty buffer. -/
def State.armCapture (s : State) (x : Nat) : State :=
  let c := s.slotConfig x
  let scales := ((List.range 48).filter fun v => c.any fun p => decide (p.1 = 0x80 + v)).map fun v => (v, s.cfg 0x7800 1 v)
  let s := { s with storage := { s.storage with
    badLines := s.storage.badLines.filter fun n => decide (n < 0xDC00 + 8192 * x ∨ 0xDC00 + 8192 * (x + 1) ≤ n) } }
  s.setCapture x { state := .armed, config := c, scales := scales }

/-- The mean of the conversions of a turn that a function picks. -/
def turnMean (samples : List Sample) (pick : Sample → Option Nat) (latest : Nat) : Int :=
  match samples.filterMap pick with
  | [] => latest
  | l => rndDiv (l.foldl (· + ·) 0 : Nat) l.length

/-- The raw value of a capture source in the turn that ends (Table 12-4). -/
def State.rawSource (s : State) (samples : List Sample) (src : Nat) : Int :=
  if src < 0x80 then
    let x := s.cell src
    if x.turnCount = 0 then x.latestCode else rndDiv x.turnSum x.turnCount
  else if src < 0xB0 then
    turnMean samples (fun p =>
      match p with
      | .volt v c => if v.val = src - 0x80 then some c else none
      | _ => none) (bget 0 s.volts (src - 0x80))
  else if src < 0xC8 then
    turnMean samples (fun p =>
      match p with
      | .isns f c => if f.val = src - 0xB0 then some c else none
      | _ => none) (s.feed (src - 0xB0)).isns
  else if src < 0xE0 then
    turnMean samples (fun p =>
      match p with
      | .vds f c => if f.val = src - 0xC8 then some c else none
      | _ => none) (s.feed (src - 0xC8)).vds
  else bget 0 s.acs (src - 0xE0)

/-- The octets of the slots from one on: a 16-bit channel takes two (R297). -/
def State.slotOctets (s : State) (samples : List Sample) : List (Nat × Nat × Int × Nat) → List Nat
  | [] => []
  | (src, width, centre, shift) :: r =>
    if src = 0xFF ∨ 0xE2 < src then 0 :: s.slotOctets samples r
    else
      let raw := s.rawSource samples src
      if width = 1 then
        match r with
        | _ :: r' => leOctets 2 raw ++ s.slotOctets samples r'
        | [] => [(raw % 256).toNat]
      else (limitInt ((raw - centre) / (2 ^ shift : Nat)) (-128) 127 % 256).toNat :: s.slotOctets samples r

/-- The instant of the turn that ends, for a trigger that records (R299). -/
def State.turnCapture (s : State) (samples : List Sample) (x : Nat) : State :=
  let c := s.capture x
  let turn := s.now / usTicks - 1
  match c.state with
  | .armed =>
    s.setCapture x { c with before := (s.slotOctets samples c.config :: c.before).take 16000, turn := turn }
  | .triggered =>
    if c.after.length < 12000 then
      s.setCapture x { c with after := s.slotOctets samples c.config :: c.after, turn := turn }
    else s
  | _ => s

/-- The captures of a turn, and the sums of the cells' conversions start anew. -/
def State.turnCaptures (s : State) (samples : List Sample) : State :=
  let s := (List.range 4).foldl (fun s x => s.turnCapture samples x) s
  { s with cells := s.cells.map fun p => (p.1, { p.2 with turnSum := 0, turnCount := 0 }) }

/-- A trigger fires (R298, R299): 1 event, 2 move, 3 command; from ARMED, else it is ignored and counted. -/
def State.fireCapture (s : State) (x cause seq : Nat) (at? : Tick) : State :=
  let c := s.capture x
  match c.state with
  | .armed =>
    let turn := at? / usTicks
    let k := c.turn + 1 - turn
    s.setCapture x { c with
      state := .triggered, after := (c.before.take k).drop (k - 12000), before := (c.before.drop k).take 4000
      trigStamp := s.stamp (turn * usTicks), cause := cause, eventSeq := seq }
  | _ => (s.bump (0x8040 + x) 8 0).raiseLimited x { ev 0x4812 0 with second := x }

/-- CAPTURE_EVENT_FIRE (R298): an accepted event fires the triggers that it matches. -/
def State.eventFires (s : State) (code pip seq : Nat) (at? : Tick) : State :=
  (List.range 4).foldl (fun s x =>
    let i := 0x8040 + x
    if 1 ≤ s.nat i 4 0 ∧ Nat.land code (s.nat i 2 0) = s.nat i 1 0 ∧ s.nat i 3 0 ≤ pip then s.fireCapture x 1 seq at?
    else s) s

/-- CAPTURE_ARM: 0xF050.01 := 1 (R299, R303). -/
def execCaptureArm (t : Tick) (src : Nat) (x : TrigId) (s : State) : Host.Outcome State Fault Refusal :=
  s.live t fun s => s.dict (.captureArm t (nodeOf src) x) src 1 false fun s =>
    match (s.capture x).state with
    | .idle => s.armCapture x
    | .armed => s
    | .triggered => if s.journal.store = 1 then s.result 0x23 else s.armCapture x
    | .flushing => s.result 0x23

/-- CAPTURE_TRIGGER: 0xF050.01 := 2 (R298). -/
def execCaptureTrigger (t : Tick) (src : Nat) (x : TrigId) (s : State) : Host.Outcome State Fault Refusal :=
  s.live t fun s => s.dict (.captureTrigger t (nodeOf src) x) src 1 false fun s => s.fireCapture x 3 0 s.now

/-- CAPTURE_DISARM: 0xF050.01 := 3 (R299). -/
def execCaptureDisarm (t : Tick) (src : Nat) (x : TrigId) (s : State) : Host.Outcome State Fault Refusal :=
  s.live t fun s => s.dict (.captureDisarm t (nodeOf src) x) src 1 false fun s =>
    if (s.capture x).state = .armed then s.setCapture x { s.capture x with state := .idle } else s.result 0x23

/-- CAPTURE_RECORDING_END (R299, R300, R303): instant 15,999 is recorded; the header is journalled and the flush begins. -/
def execCaptureRecordingEnd (t : Tick) (x : TrigId) (s : State) : Host.Outcome State Fault Refusal :=
  s.live t fun s =>
    let c := s.capture x
    if c.state = .triggered ∧ 12000 ≤ c.after.length ∧ s.journal.store = 1 then
      (s.setCapture x { c with state := .flushing, header := none, part := 0 }).note
        { ev 0x4811 0 with
          area := [((x.val + 256 * c.cause : Nat) : Int), c.eventSeq, (min 4000 c.before.length : Nat)] ++
            stampWords c.trigStamp ++ [4855] }
    else s

/-- An octet of a capture buffer (R297). -/
def Capture.octet (c : Capture) (x i : Nat) : Nat :=
  if i < 6144 then Config.descriptorOctet c.config c.scales i % 256
  else
    let n := (i - 6144) / 16
    let inst : Option (List Nat) :=
      if n < 4000 then c.before[3999 - n]?
      else if n - 4000 < c.after.length then c.after[c.after.length - 1 - (n - 4000)]?
      else none
    match inst with
    | some l => l.getD ((i - 6144) % 16) 0
    | none => Config.staleOctet x i % 256

/-- The 54 octets of a capture part; the last is padded with zeros (R300). -/
def Capture.piece (c : Capture) (x index : Nat) : List Nat :=
  (List.range 54).map fun j => if 54 * index + j < 262144 then c.octet x (54 * index + j) else 0

/-! ### The journal store (R301 to R304) -/

abbrev slotCount : Nat := 33554432

/-- The first usable slot at or after a slot, in ring order: retired blocks are passed over. -/
def usableFrom (retired : List Nat) : Nat → Nat → Nat
  | 0, n => n
  | k + 1, n => if retired.contains (n / 2048) then usableFrom retired k ((n / 2048 + 1) * 2048 % slotCount) else n

def Journal.after (j : Journal) (n : Nat) : Nat := usableFrom j.retired 400 ((n + 1) % slotCount)

/-- An accepted record enters the write queue (R302, R303). Of a queue with 1,792 records or more, pip-1 and pip-2 records
are discarded; without a store the newest 2,048 stay. -/
def State.enqueue (s : State) (r : JRec) : State :=
  let j := s.journal
  if j.store = 1 ∧ 1792 ≤ j.queue.length ∧ r.pip ≤ 2 then
    (s.bump 0x8010 5 0).setJournal { j with
      discarded := j.discarded + 1
      firstLost := if j.discarded = 0 then r.seq else j.firstLost
      lastLost := r.seq }
  else
    let q := j.queue ++ [{ slot := j.next, item := r, entered := s.now }]
    s.setJournal { j with
      queue := if j.store = 1 then q else q.drop (q.length - 2048)
      next := j.after j.next }

/-- The SRAM ring alone is kept (R303). -/
def State.ringOnly (s : State) : State :=
  s.setJournal { s.journal with store := 2, page := none, partOf := none, erasing := none }

/-- The store has failed: 0x4816, and the SRAM ring alone (R303). -/
def State.failStore (s : State) : State :=
  s.ringOnly.raise
    { ev 0x4816 0 with value := s.journal.retired.length, limit := 327 }

/-- A block is retired (R301): 0x4815, its slots read as erased; more than 2 % of the 16,384 blocks fail the store. -/
def State.retireBlock (s : State) (blk : Nat) : State :=
  let j := s.journal
  let s := s.setJournal { j with
    retired := blk :: j.retired, slots := j.slots.filter fun p => decide (p.1 / 2048 ≠ blk)
    oldest := if j.oldest / 2048 = blk then usableFrom (blk :: j.retired) 400 j.oldest else j.oldest }
  let s := s.raise { ev 0x4815 0 with value := blk }
  if 327 < s.journal.retired.length then s.failStore else s

/-- The usable block ahead of a slot's block. -/
def Journal.ahead (j : Journal) (slot : Nat) : Nat :=
  usableFrom j.retired 400 ((slot / 2048 + 1) * 2048 % slotCount) / 2048

/-- The parts of a capture that are still to be written: a part with a failed SRAM line is left out (R419). -/
def State.partsLeft (s : State) (x : Nat) : List Nat :=
  let bad := s.storage.badLines.filter fun n => decide (0xDC00 + 8192 * x ≤ n ∧ n < 0xDC00 + 8192 * (x + 1))
  ((List.range 4855).drop (s.capture x).part).filter fun k =>
    bad.all fun n => decide (n < 0xDC00 + 8192 * x + 54 * k / 32 ∨ 0xDC00 + 8192 * x + (54 * k + 53) / 32 < n)

/-- The part that a slot holds, counted from 1; 0 for none. -/
def SlotRec.partEnd : SlotRec → Nat
  | .part _ i _ => i + 1
  | _ => 0

/-- The page that is due (R302): the waiting records of the first page, closed with filler where the 10 ms rule closes it;
else 32 parts of a capture that is being flushed. -/
def State.duePage (s : State) : Option (List (Nat × SlotRec) × Option Nat) :=
  let j := s.journal
  match j.queue with
  | q :: _ =>
    if 32 ≤ j.queue.length ∨ q.entered + 10 * msTicks ≤ s.now then
      let p := q.slot / 32
      some ((List.range 32).map fun k =>
        let n := 32 * p + k
        (n, match j.queue.find? fun r => decide (r.slot = n) with
          | some r => SlotRec.record r.item
          | none => .filler), none)
    else none
  | [] =>
    match (List.range 4).find? fun x =>
        decide ((s.capture x).state = .flushing) && (s.capture x).header.isSome && !(s.partsLeft x).isEmpty with
    | some x =>
      let c := s.capture x
      let parts := s.partsLeft x
      some ((List.range 32).map fun k =>
        (j.next + k, match parts[k]? with
          | some i => SlotRec.part (c.header.getD 0) i (c.piece x i)
          | none => .filler), some x)
    | none => none

/-- CAPTURE_FLUSH_COMPLETE (R299): the last part is written. -/
def execCaptureFlushComplete (t : Tick) (x : TrigId) (s : State) : Host.Outcome State Fault Refusal :=
  s.live t fun s =>
    let c := s.capture x
    if c.state = .flushing ∧ c.header.isSome ∧ (s.partsLeft x).isEmpty then
      if s.cfg (0x8040 + x) 5 0 = 1 then s.armCapture x else s.setCapture x { c with state := .idle }
    else s

/-- JOURNAL_PAGE_WRITE (R301, R302): the page is programmed; before the first slot of a block, the next block ahead is
erased. A page closed by the 10 ms rule gives its free slots to filler. -/
def execJournalPageWrite (t : Tick) (s : State) : Host.Outcome State Fault Refusal :=
  s.live t fun s =>
    let j := s.journal
    if j.store = 1 ∧ j.page.isNone ∧ j.erasing.isNone then
      match s.duePage with
      | some (l, x) =>
        let first := (l.headD (0, .filler)).1
        if first % 2048 = 0 ∧ j.ready ≠ some (first / 2048) then s.setJournal { j with erasing := some (j.ahead first) }
        else
          s.setJournal { j with
            page := some l, partOf := x
            next := if j.next / 32 = first / 32 then j.after (first + 31) else j.next }
      | none => s
    else s

/-- Records queued for slots of a retired block, and those after them, take new slots in order (R304). -/
def Journal.reassign (j : Journal) (slot : Nat) : Journal :=
  let start := usableFrom j.retired 400 slot
  let go := j.queue.foldl (fun (a : List QRec × Nat) q => (a.1 ++ [{ q with slot := a.2 }], j.after a.2)) ([], start)
  { j with queue := go.1, next := go.2 }

/-- The next slot to be written, after a block was retired: that of the first record that waits, else the next free one. -/
def Journal.setWrite (j : Journal) : Journal :=
  { j with write := match j.queue with
    | q :: _ => q.slot
    | [] => j.next }

/-- RECORDS_DISCARDED_NOTE (R302), when space has returned. -/
def State.noteDiscarded (s : State) : State :=
  let j := s.journal
  if 0 < j.discarded ∧ j.queue.length < 1792 then
    (s.setJournal { j with discarded := 0 }).raise
      { ev 0x4813 0 with value := j.discarded, w4 := j.discarded, w5 := j.firstLost, w6 := j.lastLost }
  else s

/-- JOURNAL_PAGE_WRITTEN (R301, R302, R304). -/
def execJournalPageWritten (t : Tick) (ok : Bool) (s : State) : Host.Outcome State Fault Refusal :=
  s.live t fun s =>
    let j := s.journal
    match j.page with
    | some l =>
      let first := (l.headD (0, .filler)).1
      if ok then
        let next := j.after (first + 31)
        let s := s.setJournal { j with
          page := none, partOf := none, slots := l.foldl (fun b p => bset b p.1 p.2) j.slots
          queue := j.queue.filter fun q => !(l.any fun p => decide (p.1 = q.slot) && decide (p.2 = .record q.item))
          write := next, wraps := if next < first then j.wraps + 1 else j.wraps }
        let s := match j.partOf with
          | some x => s.setCapture x { s.capture x with part := l.foldl (fun (m : Nat) (p : Nat × SlotRec) => max m p.2.partEnd) (s.capture x).part }
          | none => s
        s.noteDiscarded
      else
        let s := s.setJournal { j with page := none, partOf := none }
        let s := s.retireBlock (first / 2048)
        s.setJournal (s.journal.reassign first).setWrite
    | none => s

/-- JOURNAL_BLOCK_ERASED (R301): the erase of the next block ahead completes or fails. -/
def execJournalBlockErased (t : Tick) (ok : Bool) (s : State) : Host.Outcome State Fault Refusal :=
  s.live t fun s =>
    let j := s.journal
    match j.erasing with
    | some blk =>
      let head := match j.queue with
        | q :: _ => q.slot
        | [] => j.next
      if ok then
        s.setJournal { j with
          erasing := none, ready := some (head / 2048), slots := j.slots.filter fun p => decide (p.1 / 2048 ≠ blk)
          oldest := if j.oldest / 2048 = blk then usableFrom j.retired 400 ((blk + 1) * 2048 % slotCount) else j.oldest }
      else
        let s := s.setJournal { j with erasing := none }
        let s := s.retireBlock blk
        if s.journal.store = 1 then s.setJournal { s.journal with erasing := some (s.journal.ahead head) } else s
    | none => s

/-! ### Search (R304, R400) -/

/-- SEQUENCE_SEARCH: a write to 0x8011.01. -/
def execSequenceSearch (t : Tick) (src : Nat) (seq : Nat) (s : State) : Host.Outcome State Fault Refusal :=
  s.live t fun s => s.dict (.sequenceSearch t (nodeOf src) seq) src 1 false fun s =>
    if seq < 0x100000000 then
      ((s.put 0x8011 1 0 seq).put 0x8011 2 0 0xFFFFFFFE).setJournal { s.journal with search := some (seq, s.now) }
    else s.result 0x13

/-- The slot that holds a chip sequence number, in the write queue or in the ring. -/
def State.findSlot (s : State) (seq : Nat) : Option Nat :=
  let j := s.journal
  match j.queue.find? fun q => decide (q.item.seq = seq) with
  | some q => some q.slot
  | none =>
    if j.store = 1 then
      (j.slots.find? fun p =>
        match p.2 with
        | .record r => decide (r.seq = seq)
        | _ => false).map fun p => p.1
    else none

/-- SEQUENCE_SEARCH_COMPLETE. -/
def execSequenceSearchComplete (t : Tick) (s : State) : Host.Outcome State Fault Refusal :=
  s.live t fun s =>
    match s.journal.search with
    | some (seq, _) =>
      (s.put 0x8011 2 0 ((s.findSlot seq).getD 0xFFFFFFFF)).setJournal { s.journal with search := none }
    | none => s

/-- The 64 octets that slot n reads as (R400): from the queue, else from the ring; else erased. -/
def State.slotRead (s : State) (n : Nat) : List Nat :=
  let j := s.journal
  match j.queue.find? fun q => decide (q.slot = n) with
  | some q => q.item.octets
  | none =>
    match (if j.store = 1 then bget none (j.slots.map fun p => (p.1, some p.2)) n else none) with
    | some r => r.octets
    | none => List.replicate 64 0xFF

end Sys2Proof.Machine
end

