-- ==== Sys2Proof/Machine/Arbiters.lean ====
section
/-! DEFINITION. The block and region arbiters (R35, R36, R40, R474), and what the acceptance of an event by the chip arbiter does: its
number, the first fault of its elements (R50), the advisory flags (R319), the triggers (R298) and its record. -/

namespace Sys2Proof.Machine

/-! ### One acceptance -/

/-- An input without the item at a place: the first of the items that its source holds enters it now (R40). -/
def InQueue.without (q : InQueue) (n : Nat) (t : Tick) : InQueue :=
  let l := q.items.eraseIdx n
  { q with items := l.take 31 ++ ((l.drop 31).take 1).map (fun x => { x with arrived := t }) ++ l.drop 32 }

/-- One acceptance of an arbiter: at most one in a SYS cycle, and none without a place beyond it. -/
def State.arbitrate (s : State) (level num : Nat) (inputs : List ArbInput) (commandsOnly : Bool)
    (f : State → Payload → State) : State :=
  if s.arbiterFree level num && s.roomBeyond level num then
    match winner level (inputs.filterMap fun i => (s.candidate level i commandsOnly).map fun c => (i, c)) with
    | some (i, n, x) => f ((s.setInput i ((s.input i).without n s.now)).markAccept level num) x.payload
    | none => s
  else s

/-! ### Block and region arbiters -/

/-- BLOCK_ARBITER_ACCEPT (R35): the event goes on to the region fault arbiter. -/
def execBlockArbiterAccept (t : Tick) (b : BlockId) (s : State) : Host.Outcome State Fault Refusal :=
  s.live t fun s =>
    s.arbitrate 1 b (blockInputs b) false fun s p => s.offer (.region (Fin.ofNat 4 (b / 4)) (Fin.ofNat 6 (b % 4))) p

/-- REGION_ARBITER_ACCEPT (R36): an event takes the next region sequence number; a command takes none (R474). -/
def execRegionArbiterAccept (t : Tick) (r : RegionId) (s : State) : Host.Outcome State Fault Refusal :=
  s.live t fun s =>
    s.arbitrate 2 r (regionInputs r) false fun s p =>
      match p with
      | .event e =>
        let n := (bget 0 s.regionSeq r.val + 1) % 65536
        { s with regionSeq := bset s.regionSeq r.val n }.offer (.chip (Fin.ofNat 15 r)) (.event { e with region := r, rseq := n })
      | .command c => s.offer (.chip (Fin.ofNat 15 r)) (.command c)

/-! ### The chip arbiter -/

/-- SEQUENCE_FLOOR_WRITE (R39): a new floor once the numbers come within 2²³ of the one in force. -/
def State.keepFloor (s : State) : State :=
  if (s.seqFloor + 0x100000000 - s.chipSeq) % 0x100000000 ≤ 8388608 then
    let f := seqAhead s.chipSeq 16777216
    { s.appendRecord (.startCount (s.nat 0x2000 2 0) f) with seqFloor := f }
  else s

/-- FIRST_FAULT_LATCH (R50): the first accepted fault since the state was last ended. -/
def State.latchFirst (s : State) (e : Event) (o : Elem) : State :=
  let r := s.fault o
  if r.inFault ∧ r.firstCode = 0 ∧ r.endedAt ≤ e.time ∧ r.raised.contains (e.code, e.raisedAs) then
    s.setFault o { r with firstCode := e.code, firstSeq := s.chipSeq }
  else s

/-- A pip-2 event sets its advisory flag (R319). -/
def State.advise (s : State) (code : Nat) : State :=
  if pipOf code = 2 then
    (((s.put 0x8004 1 0 (Nat.lor (s.nat 0x8004 1 0) (2 ^ (code / 0x1000)) : Nat)).put 0x8004 2 0 code).bump 0x8004 3 0)
  else s

/-- The record of an event (R294, R295, R316). -/
def State.recordOfEvent (s : State) (e : Event) : JRec :=
  { type := if e.code = 0x4810 then 2 else if e.code = 0x4811 then 3 else 1
    pip := pipOf e.code, code := e.code, seq := s.chipSeq
    rseq := if e.region < 4 then e.rseq else 0
    region := if e.region < 4 then e.region else 0
    flags := if e.region < 4 then 1 else 0
    inst := e.inst, stamp := s.stamp e.time
    words :=
      if e.area.isEmpty then
        [e.value, e.limit, e.stateCode, e.second, e.w4, e.w5, e.w6, e.w7, if e.injected then 0x80000000 else 0]
      else e.area }

/-- The header of a capture is accepted: its number names the capture (R300). -/
def State.headerAccepted (s : State) (e : Event) : State :=
  if e.code = 0x4811 then
    let x := ((e.area.headD 0).toNat) % 256
    (s.put (0x8040 + x) 7 0 s.chipSeq).setCapture x { s.capture x with header := some s.chipSeq }
  else s

/-- An event is accepted by the chip arbiter (R37). -/
def State.acceptEvent (s : State) (e : Event) : State :=
  let n := nextSeq s.chipSeq
  let s := ({ s with chipSeq := n }.setAlways { s.always with lastSeq := n }).keepFloor
  let s := (e.owners.foldl (fun s o => s.latchFirst e o) s).advise e.code
  let s := s.headerAccepted e
  let s := if e.code = 0x4810 ∨ e.code = 0x4811 then s else s.eventFires e.code (pipOf e.code) n e.time
  s.enqueue (s.recordOfEvent e)

/-! ### Events merged (R40) -/

/-- Words 5 and 6 of 0x470A (Table 13-6). -/
def mergedWords : ArbInput → Nat × Nat
  | .block b i => (1 + 256 * b.val, if i.val = 8 then 0xFF else 8 * b.val + i.val)
  | .region r i => (2 + 256 * r.val, i.val)
  | .chip i => (3, i.val)

/-- EVENTS_MERGED: space has returned, and one note counts the discarded events. -/
def execEventsMerged (t : Tick) (input : ArbInput) (s : State) : Host.Outcome State Fault Refusal :=
  s.live t fun s =>
    let q := s.input input
    if 0 < q.discarded ∧ q.items.length < 32 then
      let w := mergedWords input
      let e := { ev 0x470A 0 with time := s.now, value := q.discarded, w4 := q.firstDiscarded, w5 := w.1, w6 := w.2 }
      (s.setInput input { q with discarded := 0, firstDiscarded := 0 }).offer input (.event e)
    else s

end Sys2Proof.Machine
end

