-- ==== Sys2Proof/Machine/Battery.lean ====
section
/-! DEFINITION. The commands of the battery estimator (chapter 09). -/

namespace Sys2Proof.Machine

/-- The estimator runs for a string: the string is enabled and KS5 is valid (R123, R222). -/
def State.estimates (s : State) (n : Nat) : Bool := decide (s.cfg 0x7000 1 n = 1) && !s.strapBad [5]

/-! ### One sample (R223, R227 to R235, R241, R242) -/

/-- The temperatures of a string's inputs as the thermal manager reports them, substitution included (R223, R254); none where
every input is open or shorted. -/
def State.stringTemps (s : State) (n : Nat) : List Int :=
  let ts := [s.nat 0x7000 6 n, s.nat 0x7000 7 n].filter fun t => decide (t < 48)
  if ts.all fun t => decide (s.nat 0x2411 3 t = 2 ∨ s.nat 0x2411 3 t = 3) then []
  else (ts.map fun t => s.cfg 0x2411 1 t).filter fun v => decide (v ≠ 0x7FFF)

/-- Temperatures of a string; without any the tables use 25.0 °C and 0x6403 is raised (R223). -/
def State.sampleTemps (s : State) (n : Nat) : State :=
  let x := s.str n
  match s.stringTemps n with
  | [] =>
    let s := s.setStr n { x with temp := 250, tempLost := true, permitted := false, permitSince := none }
    if x.tempLost then s else s.raise (ev 0x6403 n)
  | t :: ts =>
    s.setStr n { x with
      temp := rndDiv (ts.foldl (· + ·) t) (ts.length + 1), tMin := ts.foldl min t, tMax := ts.foldl max t
      tempLost := false }

/-- String current in mA of a mean current code, after a chain offset in 1/65,536 of a code (R223, R228). -/
def State.meanCurrent (s : State) (n code : Nat) (offset : Int) : Int :=
  rndDiv ((((code : Int) * 65536 - offset) * 2000 - s.cfg 0x7000 4 n * 1073741824) * s.cfg 0x7000 5 n) 1073741824000

/-- A current at or above the fast-stepping threshold (R227). -/
def State.fastCurrent (s : State) (n : Nat) (i : Int) : Bool :=
  decide (s.cfg 0x7110 0xA 0 * s.cfg 0x7000 8 n ≤ (i.natAbs : Int) * 1000)

/-- A sample is due (R227): its step has passed, 250 µs in fast stepping and 62.5 ms in slow, or the mean of the latest 250 µs
calls for fast stepping. -/
def State.sampleDue (s : State) (n latest : Nat) : Bool :=
  let x := s.str n
  match x.sampleAt with
  | none => true
  | some a =>
    let step := if x.fast || s.fastCurrent n (s.meanCurrent n latest x.offset) then 250 * usTicks else 62500 * usTicks
    decide (a + step ≤ s.now)

/-- Voltage, chain offset, current and stepping of a sample (R223, R227, R228). -/
def State.sampleInputs (s : State) (n volt amp latest shorted : Nat) : State :=
  let x := s.str n
  let off := if x.fast then x.offset else x.offset + ((shorted : Int) * 65536 - x.offset) / 16
  let i := s.meanCurrent n amp off
  let above := s.fastCurrent n (s.meanCurrent n latest off)
  let since := track s.now x.belowFast (!above)
  s.setStr n { x with
    volt := rndDiv ((volt : Int) * s.cfg 0x7800 1 (s.nat 0x7000 2 n)) 16384, amp := i, offset := off
    belowFast := since, fast := above || (x.fast && !s.since since secTicks) }

/-- Charge is counted (R229). -/
def State.sampleCount (s : State) (n : Nat) : State :=
  let x := s.str n
  let dt : Nat := match x.sampleAt with
    | some a => s.now - a
    | none => 0
  let dq := x.amp * dt * (if 0 < x.amp then s.cfg 0x7110 0xB 0 else 1000)
  let q := min (x.qRem + dq) (s.capacity n * mAhUnits)
  let out := max (-x.amp) 0 * 65536
  s.setStr n { x with
    qRem := q, qAbs := x.qAbs + dq, sampleAt := some s.now
    firstSample := if x.firstSample.isNone then some s.now else x.firstSample
    rate := x.rate + (out - x.rate) * lowPass dt (60 * secTicks) / fxOne
    socV := s.socOf n x.volt x.amp x.temp }

/-- Usable charge in mAh (R229). -/
def State.usable (s : State) (n : Nat) : Int :=
  let x := s.str n
  let c := s.capacity n
  let rate := if s.cfg 0x7000 8 n = 0 then 0 else x.rate * 1000 * 16 / s.cfg 0x7000 8 n
  let eff := s.effAt rate x.temp
  max 0 (x.qRem - c * mAhUnits * (1000 * tableScale - eff) / (1000 * tableScale)) / mAhUnits

/-- Without a state record, the charge is taken from the voltage after 1 s of samples (R236). -/
def State.sampleStart (s : State) (n : Nat) : State :=
  let x := s.str n
  if x.started then s
  else if s.since x.firstSample secTicks then
    let s := (s.put 0x7030 1 n (s.cfg 0x7000 8 n)).put 0x7030 2 n 0
    (s.setStr n { x with qRem := s.chargeOf n x.socV, started := true }).raise (ev 0x6103 n)
  else s

/-- Count against voltage (Table 09-4), once the count stands (R236). The floor of count state 1 outlives the charge that is
counted back, and "unverified" lasts to a usable rest point: the first row ends count state 2 alone. -/
def State.sampleJudge (s : State) (n : Nat) : State :=
  let x := s.str n
  let ends (q : Int) (st : Nat) : State := s.setStr n { x with qRem := q, countState := st }
  if !x.started then s else
  let lvd := s.cfg 0x7010 7 n * max 1 (bget 0 s.obj ⟨0x2011, 6, 0⟩)
  let vEmpty := decide (x.volt ≤ lvd)
  if x.qRem ≤ 0 ∧ s.cfg 0x7110 9 0 * 1000 < x.socV ∧ x.countState ≠ 1 then
    let s := (s.put 0x7030 5 n 1).put 0x7030 2 n (min (s.cfg 0x7030 2 n) 500)
    (s.setStr n { x with qRem := 0, countState := 1 }).raise { ev 0x6301 n with value := rndDiv x.socV 1000, limit := s.cfg 0x7110 9 0 }
  else if vEmpty ∧ s.socCount n ≤ 100000 ∧ (x.countState = 1 ∨ x.countState = 2) ∧
      (0 < x.qRem ∨ x.socV ≤ s.cfg 0x7110 9 0 * 1000) then ends (max 0 x.qRem) 0
  else if x.qRem ≤ 0 then ends 0 x.countState
  else if x.countState = 1 ∧ x.amp < 0 then
    ends (min x.qRem (s.chargeOf n (x.socV / 50000 * 50000))) 1
  else if vEmpty ∧ 100000 < s.socCount n then
    if x.countState = 2 then s
    else (s.setStr n { x with countState := 2 }).raise { ev 0x6302 n with value := x.volt, limit := lvd }
  else if x.countState = 2 then ends x.qRem 0
  else s

/-- The rest timer, and a hold that a string breaks by leaving rest (R231, R238). -/
def State.sampleRest (s : State) (n : Nat) : State :=
  let x := s.str n
  let rest := decide ((x.amp.natAbs : Int) * 1000 < s.cfg 0x7110 3 0 * s.cfg 0x7000 8 n)
  let broken := x.restSince.isSome && !rest && decide (1 ≤ x.hold ∧ x.hold ≤ 3)
  let s := s.setStr n { x with restSince := track s.now x.restSince rest, restTaken := x.restTaken && rest }
  if broken then s.endHold (s.nat 0x7000 9 n) 4 else s

/-- Charge permission (R241): forbidden from the first sample that breaks a limit; the first sample of all may permit. -/
def State.samplePermit (s : State) (n : Nat) : State :=
  let x := s.str n
  let lo := s.cfg 0x7010 1 n
  let hi := s.cfg 0x7010 2 n
  let spare := !x.tempLost && decide (lo + 20 ≤ x.tMin) && decide (x.tMax ≤ hi - 20)
  let bad := decide (x.tMin < lo) || decide (hi < x.tMax)
  let was := x.permitted || (decide (x.firstSample = some s.now) && !x.tempLost)
  let s := s.setStr n { x with permitted := was && !bad, permitSince := track s.now x.permitSince spare }
  if was && bad then
    s.raise { ev 0x6401 n with value := if x.tMin < lo then x.tMin else x.tMax, limit := if x.tMin < lo then lo else hi }
  else s

/-- The allowed charge current, the full-charge tail and the voltage watches (R242, R244). -/
def State.sampleAllow (s : State) (n : Nat) : State :=
  let x := s.str n
  let g := s.nat 0x7000 9 n
  let cells := max 1 (bget 0 s.obj ⟨0x2011, 6, 0⟩)
  let bus := s.measured g
  let vChg := min (s.cfg 0x7010 3 n * cells) (bus - 500)
  let band := max 1 (s.cfg 0x7010 4 n)
  let taper := limitInt (vChg - x.volt) 0 band
  let on := s.stringConnected n
  let allow := if on ∧ x.permitted ∧ x.hold = 0 then s.cfg 0x7000 0xD n * taper / band else 0
  let tail := decide (max x.amp 0 * 1000 < s.cfg 0x7010 5 n * s.cfg 0x7000 8 n)
  let tapering := decide (taper < band)
  s.setStr n { x with
    allow := allow, tailSince := track s.now x.tailSince tail, tapering := tapering, full := x.full && tail && tapering
    topDone := x.topDone && decide (s.cfg 0x7110 2 0 * 1000 ≤ s.socCount n)
    lvdSince := track s.now x.lvdSince (decide (x.volt ≤ s.cfg 0x7010 7 n * cells))
    reconnectSince := track s.now x.reconnectSince (x.lowDisconnected && decide (s.cfg 0x7010 9 n ≤ bus)) }

/-- A test ends at the floor with a bottom rest hold (R239). -/
def State.sampleTest (s : State) (n : Nat) : State :=
  let x := s.str n
  let g := s.nat 0x7000 9 n
  let floor := s.cfg 0x7120 5 0 * 1000
  if x.hold = 4 ∧ (s.socCount n ≤ floor ∨ x.socV ≤ floor) then (s.endHold g 7).beginHold g 2 else s

/-- ESTIMATOR_SAMPLE (R227): the codes are the string voltage, the means of the current input's conversions since the
previous sample and over the latest 250 µs, and the mean of the 64 conversions with the input shorted, which counts in slow
stepping. A sample that is not due takes no part. -/
def execEstimatorSample (t : Tick) (n : StringId) (voltCode : Nat) (current : CurrentCodes) (shortedCode : Nat) (s : State) :
    Host.Outcome State Fault Refusal :=
  s.live t fun s =>
    if s.estimates n ∧ s.sampleDue n current.latest then
      let s := if (s.str n).fast then s else { s with shorted := bset s.shorted (s.nat 0x7000 3 n) (s.now + 12800 * usTicks / 1000) }
      (((((((((s.sampleInputs n voltCode current.mean current.latest shortedCode).sampleTemps n).sampleCount n).sampleStart
        n).sampleJudge n).sampleRest n).samplePermit n).sampleAllow n).sampleTest n)
    else s

/-! ### Rest points and learning (R231 to R234) -/

/-- Capacity is measured from two anchors and learned, or rejected (R232, R233). -/
def State.learn (s : State) (n : Nat) (a b : Anchor) : State :=
  let d := (b.soc - a.soc).natAbs
  let paired := a.fresh && decide (s.nat 0x7110 5 0 * 1000 ≤ d) && decide (0 < d) &&
    decide (b.time ≤ a.time + s.nat 0x7110 6 0 * 3600 * secTicks)
  if paired then
    let m := rndDiv (((b.charge - a.charge).natAbs : Nat) * 1000000) (d * mAhUnits.toNat)
    let nom := s.cfg 0x7000 8 n
    let s := s.put 0x7030 0xD n m
    if 2 * m < nom ∨ 6 * nom < 5 * m then s.raise { ev 0x6205 n with value := m, limit := nom }
    else
      let c := s.capacity n
      let new := if s.cfg 0x7030 2 n = 0 then m else c + rndDiv (m - c) (2 ^ s.nat 0x7110 0xC 0)
      let s := ((s.put 0x7030 1 n new).put 0x7030 2 n 1000).put 0x7030 3 n 0
      let s := (s.put 0x7030 4 n 0).put 0x7030 5 n 0
      let s := s.overtakeAnchors n
      let s := s.setStr n { s.str n with qRem := s.chargeOf n b.soc }
      (s.raise { ev 0x6202 n with value := m, w4 := new }).writeRecord n
  else s

/-- A usable rest point corrects the count and is offered for learning (R231, R232). -/
def State.usableRest (s : State) (n : Nat) : State :=
  let x := s.str n
  let before := rndDiv (s.socCount n) 1000
  let b : Anchor := { soc := x.socV, time := s.now, charge := x.qAbs, fresh := true }
  let s := s.setStr n { x with qRem := s.chargeOf n x.socV, countState := 0, started := true }
  let s := s.raise { ev 0x6304 n with w4 := before, w5 := rndDiv x.socV 1000 }
  let lowHalf := decide (x.socV < 500000)
  let s := match if lowHalf then x.high else x.low with
    | some a => s.learn n a b
    | none => s
  s.setStr n (if lowHalf then { s.str n with low := some b } else { s.str n with high := some b })

/-- REST_POINT (R231): the rest has lasted the rest time. -/
def execRestPoint (t : Tick) (n : StringId) (s : State) : Host.Outcome State Fault Refusal :=
  s.live t fun s =>
    let x := s.str n
    if s.estimates n ∧ !x.restTaken ∧ s.since x.restSince (s.nat 0x7110 4 0 * 60 * secTicks) then
      let s := (s.setStr n { x with restTaken := true }).raise { ev 0x6201 n with value := rndDiv x.socV 1000 }
      (if s.usableSoc x.socV then s.usableRest n else s).writeRecord n
    else s

/-- CONFIDENCE_DECAY (R234), each day. -/
def execConfidenceDecay (t : Tick) (n : StringId) (s : State) : Host.Outcome State Fault Refusal :=
  s.live t fun s =>
    let x := s.str n
    if s.estimates n ∧ x.dayAt + 86400 * secTicks ≤ s.now then
      let days := s.cfg 0x7030 3 n + 1
      let s := (s.setStr n { x with dayAt := s.now }).put 0x7030 3 n (min days 65535)
      let s := s.put 0x7030 2 n (max 0 (s.cfg 0x7030 2 n - s.cfg 0x7110 7 0))
      if s.cfg 0x7110 8 0 ≤ days ∧ s.cfg 0x7030 4 n = 0 then
        (s.put 0x7030 4 n 1).raise { ev 0x6203 n with value := days, limit := s.cfg 0x7110 8 0 }
      else s
    else s

/-- BATTERY_STATE_RECORD (R236), every 10 min. -/
def execBatteryStateRecord (t : Tick) (n : StringId) (s : State) : Host.Outcome State Fault Refusal :=
  s.live t fun s =>
    if s.estimates n ∧ (s.str n).recordAt + 600 * secTicks ≤ s.now then s.writeRecord n else s

/-! ### Table commit (R226) -/

/-- The sub-indices of a table, in order. -/
def tableSubs (index : Nat) : List Nat :=
  (List.range (if index = 0x7100 then 168 else if index = 0x7102 then 64 else 8)).map (· + 1)

/-- Whether a staged entry breaks R226. -/
def State.badEntry (s : State) (index sub : Nat) : Bool :=
  let v := s.cfg index sub 0
  if index = 0x7100 then decide ((sub - 1) % 21 ≠ 0) && decide (v < s.cfg index (sub - 1) 0)
  else if index = 0x7102 then decide (v < 10 ∨ 2000 < v)
  else decide (1 < sub) && decide (v ≤ s.cfg index (sub - 1) 0)

/-- The staged tables are checked, table by table, and become the tables in use (R226). -/
def State.commitTables (s : State) : State :=
  let bad := ([0x7100, 0x7101, 0x7102, 0x7103] : List Nat).flatMap fun i => (tableSubs i).filter (s.badEntry i)
  match bad with
  | b :: _ => ((s.put 0x7104 2 0 b).raise { ev 0x6101 0 with value := b }).result 0x23
  | [] =>
    let s := { s with
      tables := s.obj.filter fun p => decide (0x7100 ≤ p.1.index ∧ p.1.index ≤ 0x7103)
      tableClass := s.chemClass }
    (List.range 4).foldl State.overtakeAnchors (s.put 0x7104 2 0 0)

/-- TABLE_COMMIT: 0x7104.03 := 1 (R226). -/
def execTableCommit (t : Tick) (src : Nat) (value : Nat) (s : State) : Host.Outcome State Fault Refusal :=
  s.live t fun s =>
    s.dict (.tableCommit t (nodeOf src) value) src 2 false fun s => if value = 1 then s.commitTables else s.result 0x23

/-! ### Holds and tests (R237 to R240) -/

/-- A command of 0xF030 to the group of an enabled string (R237, R239). -/
def State.dictString (s : State) (c : Instr) (src n : Nat) (f : State → Nat → State) : State :=
  s.dict c src 1 false fun s => if s.estimates n then f s (s.nat 0x7000 9 n) else s.result 0x23

/-- A refused hold or test command: the result reads at 0x7121.02 (R238). -/
def State.refuseHold (s : State) (n code : Nat) : State := (s.put 0x7121 2 n code).result 0x23

/-- REST_HOLD_START: 0xF030.01 := 1. -/
def execRestHoldStart (t : Tick) (src : Nat) (n : StringId) (s : State) : Host.Outcome State Fault Refusal :=
  s.live t fun s => s.dictString (.restHoldStart t (nodeOf src) n) src n fun s g =>
    if s.holdRuns g then s.refuseHold n 5 else s.beginHold g 3

/-- REST_HOLD_ABORT: 0xF030.01 := 2. -/
def execRestHoldAbort (t : Tick) (src : Nat) (n : StringId) (s : State) : Host.Outcome State Fault Refusal :=
  s.live t fun s => s.dictString (.restHoldAbort t (nodeOf src) n) src n fun s g =>
    if s.holdRuns g ∧ !s.testRuns g then s.endHold g 2 else s.lateAbort g 0x6502

/-- REST_HOLD_END (R238): the hold has lasted its duration. -/
def execRestHoldEnd (t : Tick) (n : StringId) (s : State) : Host.Outcome State Fault Refusal :=
  s.live t fun s =>
    let x := s.str n
    let minutes := s.nat 0x7120 (if x.hold = 1 then 2 else 4) 0
    if 1 ≤ x.hold ∧ x.hold ≤ 3 ∧ x.holdAt + minutes * 60 * secTicks ≤ s.now then s.endHold (s.nat 0x7000 9 n) 1 else s

/-- The preconditions of a capacity test (R239). -/
def State.testReady (s : State) (g : Nat) : Bool :=
  ((List.range 3).all fun ph => !(s.nat 0x7120 9 0).testBit ph || decide (s.nat (0x2200 + ph) 1 0 = 2)) &&
    ((s.connectedOf g).all fun n =>
      match (s.str n).high with
      | some a => decide (s.now < a.time + s.nat 0x7110 6 0 * 3600 * secTicks)
      | none => false) &&
    (s.stringsOf g).all fun n => decide ((s.str n).countState = 0)

/-- CAPACITY_TEST_START: 0xF030.02 := 1 (R239). -/
def execCapacityTestStart (t : Tick) (src : Nat) (n : StringId) (s : State) : Host.Outcome State Fault Refusal :=
  s.live t fun s => s.dictString (.capacityTestStart t (nodeOf src) n) src n fun s g =>
    if s.holdRuns g then s.refuseHold n 5
    else if !s.testReady g then s.refuseHold n 6
    else s.beginHold g 4

/-- CAPACITY_TEST_ABORT: 0xF030.02 := 2 (R240). -/
def execCapacityTestAbort (t : Tick) (src : Nat) (n : StringId) (s : State) : Host.Outcome State Fault Refusal :=
  s.live t fun s => s.dictString (.capacityTestAbort t (nodeOf src) n) src n fun s g =>
    if s.testRuns g then s.endHold g 2 else s.lateAbort g 0x6504

/-- Mains return with a connected string at or below the low band starts a bottom rest hold (R237). -/
def State.bottomHolds (s : State) (ph : Nat) : State :=
  if (s.nat 0x7120 9 0).testBit ph ∧ s.cfg 0x7120 3 0 = 1 ∧ !s.strapBad [5] then
    s.batteryGroups.foldl (fun s g =>
      if !s.holdRuns g ∧ ((s.connectedOf g).any fun n => decide (s.socCount n ≤ s.cfg 0x7110 1 0 * 1000)) then
        s.beginHold g 2
      else s) s
  else s

/-! ### Charging and disconnects (R241 to R244) -/

/-- CHARGE_PERMIT (R241): both limits met with 2.0 °C to spare for 60 s. -/
def execChargePermit (t : Tick) (n : StringId) (s : State) : Host.Outcome State Fault Refusal :=
  s.live t fun s =>
    let x := s.str n
    if s.estimates n ∧ !x.permitted ∧ s.since x.permitSince (60 * secTicks) then
      (s.setStr n { x with permitted := true }).raise { ev 0x6402 n with value := x.temp }
    else s

/-- Whether every connected string of a group is at full charge, and none has had its top hold (R237). -/
def State.topHoldDue (s : State) (g : Nat) : Bool :=
  let ns := s.connectedOf g
  decide (s.cfg 0x7120 1 0 = 1) && !ns.isEmpty && !s.holdRuns g &&
    ns.all fun n => (s.str n).full && !(s.str n).topDone

/-- FULL_CHARGE (R242): taper below 1 and the charge current below the tail for the dwell; then R237. -/
def execFullCharge (t : Tick) (n : StringId) (s : State) : Host.Outcome State Fault Refusal :=
  s.live t fun s =>
    let x := s.str n
    if s.estimates n ∧ !x.full ∧ x.tapering ∧ s.since x.tailSince (s.nat 0x7010 6 n * 60 * secTicks) then
      let s := (s.setStr n { x with full := true }).raise { ev 0x6505 n with value := x.amp }
      let g := s.nat 0x7000 9 n
      if s.topHoldDue g then s.beginHold g 1 else s
    else s

/-- BAT_LIMIT_UPDATE (R243), every 1 ms. -/
def execBatLimitUpdate (t : Tick) (g : GroupId) (s : State) : Host.Outcome State Fault Refusal :=
  s.live t fun s =>
    if s.role g = 3 ∧ !s.strapBad [5] then
      let ns := s.connectedOf g
      let j := 0x6210 + g.val % 4
      let b := g.val / 4
      let cl := s.cfg j 1 b
      let dl := s.cfg j 2 b
      let step := s.cfg 0x7130 1 0
      let high := ns.any fun n => decide ((s.str n).allow = 0 ∨ (s.str n).allow < max (s.str n).amp 0)
      let barred := ns.any fun n => !(s.str n).permitted || decide ((s.str n).hold ≠ 0)
      let cl := if ns.isEmpty || barred then 0 else if high then cl * 15 / 16 else min (cl + step) (s.cfg 0x7130 2 0)
      let deep := ns.any fun n => decide (s.cfg 0x7000 0xE n < max (-(s.str n).amp) 0)
      let dl := if ns.isEmpty then 0 else if deep then dl * 15 / 16 else min (dl + step) (s.cfg 0x7130 3 0)
      (s.put j 1 b cl).put j 2 b dl
    else s

/-- The disconnect of a string is commanded off, with its record and the end of a test of its group (R236, R240, R244). -/
def State.disconnectString (s : State) (n : Nat) : State :=
  let s := s.setStr n { s.str n with lowDisconnected := true, reconnectSince := none }
  let f := s.nat 0x7000 0xB n
  if f < 24 ∧ s.stringConnected n then s.feedOff f
  else (if f < 24 then s.feedOff f else s).stringDropped n

/-- LOW_VOLTAGE_DISCONNECT (R244, R236, R240). -/
def execLowVoltageDisconnect (t : Tick) (n : StringId) (s : State) : Host.Outcome State Fault Refusal :=
  s.live t fun s =>
    let x := s.str n
    if s.estimates n ∧ !x.lowDisconnected ∧ s.since x.lvdSince (s.nat 0x7010 8 n * msTicks) then
      let s := s.raise { ev 0x6303 n with
        value := x.volt, limit := s.cfg 0x7010 7 n * max 1 (bget 0 s.obj ⟨0x2011, 6, 0⟩), stateCode := 1 }
      s.disconnectString n
    else s

/-- STRING_RECONNECT (R244). -/
def execStringReconnect (t : Tick) (n : StringId) (s : State) : Host.Outcome State Fault Refusal :=
  s.live t fun s =>
    let x := s.str n
    let f := s.nat 0x7000 0xB n
    if s.estimates n ∧ x.lowDisconnected ∧ s.since x.reconnectSince (10 * secTicks) ∧
        (s.group (s.nat 0x7000 9 n)).relayOpen ∧ f < 24 ∧ (s.feed f).state = .off then
      let s := s.setStr n { x with lowDisconnected := false, reconnectSince := none }
      (s.feedInrush f .ramp).raise { ev 0x6602 n with value := x.volt, stateCode := 2 }
    else s

end Sys2Proof.Machine
end

