-- ==== Sys2Proof/Machine/Resets.lean ====
section
/-! DEFINITION. The reset commands (R44 to R49, R246, R324, R325), and the collection of faults: watchdogs, clocks, driver
faults, the test mode, injection and the auto-restart (chapter 13). -/

namespace Sys2Proof.Machine

/-- A reset command: its key, its refusal, its effect (R45, R46). -/
def State.keyed (s : State) (key : Nat) (refused : Bool) (f : State → State) : State :=
  if key ≠ resetKey then s.result 0x23 else if refused then s.result 0x23 else (f s).result 0

/-! ### Cells, blocks and regions (R47) -/

/-- What a reset does to a cell (R47): its fault state and latches end; a stopped one also clears its ripple detector and its
local protection, and goes to IDLE, unless a fault detected in this SYS cycle stands (R45). A slope source that a running cell still misses is detected again (R45). -/
def State.clearCell (s : State) (c : Nat) : State :=
  let s := s.endFault (.cell c)
  let x := s.cell c
  match x.state with
  | .idle | .fault =>
    s.setCell c { x with
      state := if x.state = .fault then s.restState c else .idle, noRipple := false, ripples := [], ripplesBelow := 0, ripplesAbove := 0, sums := {}
      ended := none, ceilingRun := 0, ceilingTripped := false, ceilingForced := false, overRange := 0
      slopeLost := false, limitedSince := none }
  | _ =>
    let s := s.setCell c { x with noRipple := false, ceilingRun := 0, ceilingTripped := false }
    if x.slopeLost then s.raise { ev 0x1203 c with stateCode := x.state.code } else s

/-- A cell that is reset (R47), and the heatsink groups that stop it again (R45, R257). -/
def State.resetCell (s : State) (c : Nat) : State := (s.clearCell c).meetSinks c

/-- CELL_RESET: 0xF020.01. -/
def execCellReset (t : Tick) (src : Nat) (c : CellId) (key : Nat) (s : State) : Host.Outcome State Fault Refusal :=
  s.live t fun s => s.dict (.cellReset t (nodeOf src) c key) src 1 false fun s =>
    s.keyed key (s.inFault (.block (c / 8)) || s.inFault (.region (c / 32)) || s.inFault .chip) fun s => s.resetCell c

/-- A context returns to its initial state, output at zero, banks kept (R47). A context that its fault had taken out of RUN
is in RUN again while it is enabled. -/
def State.resetCtx (s : State) (k : Nat) : State :=
  let x := s.ctx k
  s.setCtx k { x.initial with
    state := if s.cfg 0x6100 1 k = 1 then .run else .disabled, holdSteps := 0, setpoint := 0, y := 0, periods := 0 }

/-- A block that is reset: each cell by its own state; the group manager, but for the sense ratio (R164), and every context
only where the whole block is stopped (R47), else the contexts in FAULT (R116). -/
def State.resetBlock (s : State) (b : Nat) : State :=
  let stopped := s.blockAtRest b
  let s := ((List.range 8).map (8 * b + ·)).foldl State.resetCell (s.endFault (.block b))
  let s := s.meetLatch b
  if stopped then
    let s := ((List.range 4).map (4 * b + ·)).foldl (fun s g =>
      (s.dropRelays g).setGroup g { rho := (s.group g).rho, rhoCount := (s.group g).rhoCount }) s
    ((List.range 16).map (16 * b + ·)).foldl State.resetCtx s
  else (((List.range 16).map (16 * b + ·)).filter fun k => decide ((s.ctx k).state = .fault)).foldl State.resetCtx s

/-- The blocks that a reset of a block reaches (R48). -/
def State.resetBlocks (s : State) (b : Nat) : List Nat :=
  if s.doubles (b - b % 2) then [b - b % 2, b - b % 2 + 1] else [b]

/-- BLOCK_RESET: 0xF020.02. -/
def execBlockReset (t : Tick) (src : Nat) (b : BlockId) (key : Nat) (s : State) : Host.Outcome State Fault Refusal :=
  s.live t fun s => s.dict (.blockReset t (nodeOf src) b key) src 1 false fun s =>
    let bs := s.resetBlocks b
    s.keyed key (s.inFault (.region (b / 4)) || s.inFault .chip || bs.any fun i => decide (s.cfg 0x4030 1 i = 1)) fun s =>
      bs.foldl State.resetBlock s

/-- The suspect flags of a region's thermal manager are cleared. -/
def State.clearSuspects (s : State) (r : Nat) : State :=
  ((List.range 48).filter fun t => decide (s.tempRegion t = r) && decide (s.cfg 0x2411 4 t = 1)).foldl (fun s t =>
    let s := s.put 0x2411 4 t 0
    if s.nat 0x2411 3 t = 1 then s.put 0x2411 3 t 0 else s) s

/-- The faults of a region whose cause is still present (R45): inputs that are open or shorted, and groups that throttle. -/
def State.regionCauses (s : State) (r : Nat) : List Event :=
  ((List.range 48).filter fun t => decide (s.tempRegion t = r) && decide (s.nat 0x2411 3 t = 2 ∨ s.nat 0x2411 3 t = 3)).map
      (fun t => { ev (if s.nat 0x2411 3 t = 2 then 0x3102 else 0x3103) r with
        value := s.cfg 0x2411 2 t, second := t, stateCode := s.nat 0x2411 3 t }) ++
    ((List.range 12).filter fun h => s.sinkOn h && decide (s.sinkRegion h = r) && (s.sink h).throttling).map
      fun h => { ev 0x3110 r with value := s.cfg (0x2400 + h) 0x18 0, limit := s.cfg (0x2400 + h) 0xE 0 }

/-- REGION_RESET: 0xF020.03. The region's own effects apply only where the whole region is stopped (R47). -/
def execRegionReset (t : Tick) (src : Nat) (r : RegionId) (key : Nat) (s : State) : Host.Outcome State Fault Refusal :=
  s.live t fun s => s.dict (.regionReset t (nodeOf src) r key) src 2 false fun s =>
    s.keyed key (s.inFault .chip) fun s =>
      let bs := (List.range 4).map (4 * r.val + ·)
      let stopped := bs.all s.blockAtRest
      let causes := s.regionCauses r
      let s := bs.foldl State.resetBlock (s.endFault (.region r))
      let s := if stopped then
          ((List.range 4).map (4 * r.val + ·)).foldl (fun s e => s.endProgram e 6) (s.clearSuspects r)
        else s
      causes.foldl State.raise s

/-! ### Chip, strings and services -/

/-- The earliest handover boundary: at least four turns ahead (R342). -/
def State.boundaryAhead (s : State) : Tick := (s.now / usTicks + 5) * usTicks

/-- The active starts an ordered handover of a cause (R342). -/
def State.propose (s : State) (cause : Nat) : State :=
  s.setTwin { s.twin with
    deferred := none
    handover := some { boundary := s.boundaryAhead, cause := cause, giving := true, hard := false, begun := false, moved := []
                       drill := decide (cause = 3) } }

/-- CHIP_RESET: 0xF020.04. An active with an IN STEP standby makes a forced swap first, and resets once it is complete
(R344, R449). A standby and a chip in recovery mode accept it too (R337, R432). -/
def execChipReset (t : Tick) (src : Nat) (key : Nat) (s : State) : Host.Outcome State Fault Refusal :=
  s.boot t src fun s => s.dict (.chipReset t (nodeOf src) key) src 2 true fun s =>
    s.keyed key false fun s =>
      if s.twinState = .active ∧ s.partnerInStep then
        let s := s.setTwin { s.twin with resetAfter := some (11, 0) }
        if s.twin.handover.isSome then s else s.propose 2
      else s.enterReset 11 0

/-- The faults of a string whose cause is still present (R45, R246). -/
def State.stringCauses (s : State) (n : Nat) : List Event :=
  let x := s.str n
  let lo := s.cfg 0x7010 1 n
  let hi := s.cfg 0x7010 2 n
  let lvd := s.cfg 0x7010 7 n * max 1 (bget 0 s.obj ⟨0x2011, 6, 0⟩)
  let warm := if x.tempLost then [ev 0x6403 n]
    else if x.firstSample.isSome ∧ (x.tMin < lo ∨ hi < x.tMax) then
      [{ ev 0x6401 n with value := if x.tMin < lo then x.tMin else x.tMax, limit := if x.tMin < lo then lo else hi }]
    else []
  let empty := if x.countState = 1 ∧ x.qRem ≤ 0 ∧ s.cfg 0x7110 9 0 * 1000 < x.socV then
      [{ ev 0x6301 n with value := rndDiv x.socV 1000, limit := s.cfg 0x7110 9 0 }]
    else []
  let low := if x.lowDisconnected ∧ x.volt ≤ lvd then [{ ev 0x6303 n with value := x.volt, limit := lvd, stateCode := 2 }] else []
  if s.estimates n then warm ++ empty ++ low else []

/-- STRING_RESET: 0xF020.06 (R45, R246); it changes no estimate, flag or anchor. -/
def execStringReset (t : Tick) (src : Nat) (n : StringId) (key : Nat) (s : State) : Host.Outcome State Fault Refusal :=
  s.live t fun s => s.dict (.stringReset t (nodeOf src) n key) src 1 false fun s => s.keyed key false fun s =>
    (s.stringCauses n).foldl State.raise ((s.endFault (.string n)).overtakeAnchors n)

/-- The faults of a service whose cause is still present (R45, R325): lost readings and a selector without a feed, an
isolated node and a duplicate ID, a twin link that is still down, a journal store that has failed. -/
def State.serviceCauses (s : State) (svc : Nat) : List Event :=
  match svc with
  | 0 =>
    ((List.range 24).filter fun f => s.feedLive f && ((s.feed f).vdsLost || (s.feed f).isnsLost)).map (fun f =>
        { ev 0x5501 f with
          value := if (s.feed f).vdsLost then (s.feed f).vds else (s.feed f).isns
          stateCode := if (s.feed f).state = .on then 2 else 1 }) ++
      (if s.selectorOn ∧ s.selector.noneGood then [{ ev 0x5402 0 with stateCode := 4 }] else []) ++
      (if s.selectorOn ∧ s.selector.blocked then [{ ev 0x5403 0 with limit := 1000, stateCode := 3 }] else [])
  | 1 => (if s.ring.isolated then [ev 0x7103 0] else []) ++ (if s.ring.duplicate then [ev 0x7202 0] else [])
  | 2 => if (s.fault (.service 2)).raised.contains (0x8101, 0) ∧ s.cfg 0x1200 3 0 ≠ 2 then [ev 0x8101 0] else []
  | _ =>
    if s.journal.store = 1 then []
    else [{ ev 0x4816 0 with value := if s.journal.store = 2 then (s.journal.retired.length : Int) else 0, limit := 327 }]

/-- SERVICE_RESET: 0xF020.07 (R325). What still stands is raised again at once (R45). -/
def execServiceReset (t : Tick) (src : Nat) (svc : SvcId) (key : Nat) (s : State) : Host.Outcome State Fault Refusal :=
  s.live t fun s => s.dict (.serviceReset t (nodeOf src) svc key) src 1 false fun s =>
    s.keyed key (s.inFault .chip) fun s =>
      (s.serviceCauses svc).foldl State.raise (s.endFault (.service svc))

/-! ### Watchdogs, clocks and driver faults (R315, R322, R446) -/

/-- A processor has missed its watchdog; a second one within 10 s is 0x4706. -/
def State.watchdogMissed (s : State) : State :=
  let again := match s.run.watchdogAt with
    | some a => decide (s.now < a + 10 * secTicks)
    | none => false
  let s := (s.setRun { s.run with watchdogAt := some s.now }).setStorage { s.storage with watchdogSeen := true }
  if again then s.chipTrip (ev 0x4706 0) else s

/-- PROCESSOR_WATCHDOG: 0x4705. Which processor missed it is in no record (Table 13-5). -/
def execProcessorWatchdog (t : Tick) (_processor : Fin 2) (s : State) : Host.Outcome State Fault Refusal :=
  s.live t fun s => (s.raise (ev 0x4705 0)).watchdogMissed

/-- REFERENCE_LOST (R322): the always-on domain acts without SYS. -/
def execReferenceLost (t : Tick) (s : State) : Host.Outcome State Fault Refusal :=
  s.wired t fun s => s.enterReset 3 0x4702

/-- PLL_UNLOCK (R322). -/
def execPllUnlock (t : Tick) (_which : Pll) (s : State) : Host.Outcome State Fault Refusal :=
  s.wired t fun s => s.enterReset 3 0x4703

/-- DRIVER_FAULT (R315): DRVFLT_N(b) low for at least 200 ns. -/
def execDriverFault (t : Tick) (b : BlockId) (s : State) : Host.Outcome State Fault Refusal :=
  s.live t fun s =>
    let x := s.driver b
    if !s.blockAtRest b then s.blockTrip (ev 0x2603 b)
    else if x.reported then s
    else (s.setDriver b { x with reported := true }).raise (ev 0x2606 b)

/-- CROSSING_TIMEOUT (R446): 0x2107 where the transfer carried a block's loop data, else 0x4704. -/
def execCrossingTimeout (t : Tick) (loopBlock : Option BlockId) (s : State) : Host.Outcome State Fault Refusal :=
  s.live t fun s =>
    match loopBlock with
    | some b => s.blockTrip { ev 0x2107 b with value := 8, limit := 8 }
    | none => s.raise { ev 0x4704 0 with value := 8, limit := 8 }

/-! ### Factory test mode (R326, R327) -/

/-- The cells that an injection names: those that belong to a group in the block, or in the region (R327). -/
def State.injectedCells (s : State) (code inst : Nat) : List Nat :=
  let span := if code / 0x1000 = 3 then (List.range 32).map (32 * inst + ·) else (List.range 8).map (8 * inst + ·)
  span.filter fun c => (s.cellGroup c).isSome

/-- The events of an accepted injection (R327). -/
def State.injection (s : State) : List Event :=
  let code := s.nat 0xF060 1 0
  let inst := s.nat 0xF060 2 0
  let e := { ev code inst with value := s.cfg 0xF060 3 0, injected := true }
  if [0x3105, 0x3112, 0x3113].contains code then
    (s.injectedCells code inst).map fun c => { e with second := c, owners := [.cell c] }
  else if ownedByCells code then [{ e with owners := (s.injectedCells code inst).map Elem.cell }]
  else [e]

/-- INJECT_EXECUTE: 0xF060.04 := 1, with vendor authority, in test mode. The events enter in the next turn. -/
def execInjectExecute (t : Tick) (src : Nat) (value : Nat) (s : State) : Host.Outcome State Fault Refusal :=
  s.live t fun s =>
    s.dict (.injectExecute t (nodeOf src) value) src 3 true fun s =>
      let code := s.nat 0xF060 1 0
      if s.cfg 0x8007 1 0 ≠ 1 then (s.put 0xF060 5 0 1).result 0x23
      else if value ≠ 1 then s.result 0x23
      else if pipOf code = 0 ∨ code = 0x4801 ∨ code = 0x4810 ∨ code = 0x4811 then (s.put 0xF060 5 0 2).result 0x23
      else if instanceLimit code ≤ s.nat 0xF060 2 0 then (s.put 0xF060 5 0 3).result 0x23
      else (s.put 0xF060 5 0 0).setRun { s.run with injected := s.run.injected ++ s.injection }

/-! ### The auto-restart (R323) -/

/-- The delay of an auto-restart has passed; after 0x4701 it counts only while the die is cool. -/
def State.restartDue (s : State) : Bool :=
  let delay := s.nat 0x2700 2 0 * msTicks
  match s.run.stopAt with
  | some a =>
    if s.run.stopCode = 0x4701 then
      decide (delay ≤ s.run.coolSteps + (match s.run.coolSince with
        | some c => s.now - c
        | none => 0))
    else decide (a + delay ≤ s.now)
  | none => false

/-- The auto-restarts of the past 60 min. -/
def State.recentRestarts (s : State) : List Tick := s.always.restarts.filter fun a => decide (s.now < a + 3600 * secTicks)

/-- AUTO_RESTART: after a chip stop, within the hourly limit. -/
def execAutoRestart (t : Tick) (s : State) : Host.Outcome State Fault Refusal :=
  s.live t fun s =>
    if s.restartDue ∧ s.cfg 0x2700 1 0 = 1 ∧ s.recentRestarts.length < s.nat 0x2700 3 0 then
      let code := s.run.stopCode
      (s.setAlways { s.always with restarts := s.now :: s.recentRestarts }).enterReset 7 code
    else s

end Sys2Proof.Machine
end

