-- ==== Sys2Proof/Machine/Trackers.lean ====
section
/-! DEFINITION. The commands of the mains trackers, the frame tracker, PPS_IN and the load map (chapter 07). -/

namespace Sys2Proof.Machine

/-! ### Mains (R177 to R179) -/

def State.mainsState (s : State) (ph : Nat) : Nat := s.nat (0x2200 + ph) 1 0

/-- PFC groups of a phase enter MAINS WAIT where R136 says so. -/
def State.mainsWaits (s : State) (ph : Nat) : State :=
  ((List.range 64).filter fun g => decide (s.role g = 1) && decide (s.pfcPhase g = ph)).foldl State.enterMainsWait s

def State.raiseMains (s : State) (code ph : Nat) : State :=
  s.raise { ev code 0 with value := s.vrms ph, stateCode := s.mainsState ph, second := ph }

/-- The tracker locks at a rising crossing (R179): MA = 0 there. -/
def State.lockMains (s : State) (ph period : Nat) : State :=
  let x := s.mainsT ph
  let outage := decide (3 ≤ s.mainsState ph)
  let ahead := decide (32768 ≤ s.mainsAngle ph)
  let s := s.setMains ph { x with
    zeroAt := s.now, period := period, good := 0, goodPeriod := none, entered := s.now
    cycle := s.mainsCycle ph s.now + (if ahead || !outage then 1 else 0) }
  let s := s.put (0x2200 + ph) 1 0 2
  let s := s.raiseMains 0x4601 ph
  if outage then s.bottomHolds ph else s

/-- A half cycle ends invalid (R178, R179): the count falls to 0. -/
def State.invalidHalf (s : State) (ph : Nat) : State :=
  let x := s.mainsT ph
  let s := s.put (0x2200 + ph) 6 0 0
  let s := s.setMains ph { x with
    good := 0, goodPeriod := none, lastPeriod := none, firstHalf := false, lastRise := none, lastFall := none }
  match s.mainsState ph with
  | 1 => s.put (0x2200 + ph) 1 0 0
  | 2 =>
    let s := (s.put (0x2200 + ph) 1 0 3).setMains ph { s.mainsT ph with entered := s.now }
    (s.raiseMains 0x4602 ph).mainsLossHolds ph
  | _ => s

/-- A valid cycle ends at a rising crossing (R179): it is counted in every state. -/
def State.validCycle (s : State) (ph period : Nat) : State :=
  let x := s.mainsT ph
  let s := (s.put (0x2200 + ph) 3 0 ((1000 * secTicks + period / 2) / period : Nat)).bump (0x2200 + ph) 6 0
  match s.mainsState ph with
  | 2 =>
    let wrapped := decide (32768 ≤ s.mainsAngle ph)
    s.setMains ph { x with zeroAt := s.now, period := period, cycle := s.mainsCycle ph s.now + (if wrapped then 1 else 0) }
  | 1 =>
    let near : Bool := match x.goodPeriod with
      | some p => decide (100 * ((period : Int) - p).natAbs ≤ p)
      | none => true
    let n := if near then x.good + 1 else 1
    if 3 ≤ n then s.lockMains ph period else s.setMains ph { x with good := n, goodPeriod := some period }
  | 3 => if 2 ≤ x.good then s.lockMains ph period else s.setMains ph { x with good := x.good + 1 }
  | 4 => if 2 ≤ x.good then s.lockMains ph period else s.setMains ph { x with good := x.good + 1 }
  | _ => s

/-- Whether the half cycle that a crossing closes is valid (R178). -/
def State.halfValid (s : State) (ph : Nat) (rising : Bool) (opened : Tick) (rms : Nat) : Bool :=
  let x := s.mainsT ph
  let ma := s.mainsAngle ph
  let position : Bool :=
    if s.mainsState ph = 2 then
      (if rising then decide (ma ≤ 0x1000 ∨ 0xF000 ≤ ma) else decide (0x7000 ≤ ma ∧ ma ≤ 0x9000))
    else
      match x.lastPeriod with
      | some p => decide (16 * (2 * ((s.now - opened : Nat) : Int) - (p : Int)).natAbs ≤ 2 * p)
      | none => true
  let period : Bool :=
    match (if rising then x.lastRise else x.lastFall) with
    | some r => decide (45 * (s.now - r) ≤ secTicks ∧ secTicks ≤ 66 * (s.now - r))
    | none => true
  position && period && decide (s.nat (0x2200 + ph) 5 0 ≤ rms)

/-- A crossing opens a half cycle. -/
def State.openHalf (s : State) (ph : Nat) (rising : Bool) : State :=
  let x := s.mainsT ph
  s.setMains ph { x with
    opened := some (s.now, rising)
    lastPeriod := if rising then (match x.lastRise with
      | some r => if r < s.now then some (s.now - r) else x.lastPeriod
      | none => none) else x.lastPeriod
    lastRise := if rising then some s.now else x.lastRise
    lastFall := if rising then x.lastFall else some s.now }

/-- A crossing closes the half cycle that ran, and opens the next (R178, R179). Acquisition counts its cycles from the
rising crossing that starts it. -/
def State.crossing (s : State) (ph : Nat) (rising : Bool) (rms : Nat) : State :=
  let x := s.mainsT ph
  let before := s.mainsState ph
  let closed : State :=
    match x.opened with
    | some (o, _) =>
      let s := s.put (0x2200 + ph) 4 0 rms
      if s.halfValid ph rising o rms then
        if rising then
          match x.lastRise with
          | some r => if x.firstHalf then (s.setMains ph { x with firstHalf := false }).validCycle ph (s.now - r) else s
          | none => s
        else s.setMains ph { x with firstHalf := true }
      else s.invalidHalf ph
    | none => s.setMains ph { x with firstHalf := false }
  let s := closed.openHalf ph rising
  if rising ∧ before = 0 then
    ((s.put (0x2200 + ph) 1 0 1).put (0x2200 + ph) 6 0 0).setMains ph { s.mainsT ph with firstHalf := false }
  else s

/-- MAINS_ZERO_CROSSING (R178, R179, R136), with the rms voltage of the half cycle that it closes. Samples that are clipped below
the 10 V of the hysteresis show no crossing. -/
def execMainsZeroCrossing (t : Tick) (ph : PhaseId) (rising : Bool) (rmsDeciVolt : Nat) (s : State) :
    Host.Outcome State Fault Refusal :=
  s.live t fun s =>
    let full := s.nat (0x2200 + ph) 7 0
    if full < 100 then s else (s.crossing ph rising (min rmsDeciVolt full)).mainsWaits ph

/-- Whether the running half cycle has outlasted its limit (R178). -/
def State.halfOverdue (s : State) (ph : Nat) : Bool :=
  let x := s.mainsT ph
  match x.opened with
  | some (o, rising) =>
    if s.mainsState ph = 2 then
      decide (x.zeroAt + x.period * (if rising then 9 else 17) / 16 ≤ s.now)
    else
      match x.lastPeriod with
      | some p => decide (o + p / 2 + p / 16 ≤ s.now)
      | none => decide (o + 12500 * usTicks ≤ s.now)
  | none => false

/-- HALF_CYCLE_END (R178, R179, R136): no closing crossing in time. -/
def execHalfCycleEnd (t : Tick) (ph : PhaseId) (rmsDeciVolt : Nat) (s : State) : Host.Outcome State Fault Refusal :=
  s.live t fun s =>
    if s.halfOverdue ph then
      let s := s.put (0x2200 + ph) 4 0 (min rmsDeciVolt (s.nat (0x2200 + ph) 7 0))
      let s := s.invalidHalf ph
      (s.setMains ph { s.mainsT ph with opened := none }).mainsWaits ph
    else s

/-- MAINS_LOST (R179): ten cycles of the last locked period in HOLDOVER. -/
def execMainsLost (t : Tick) (ph : PhaseId) (s : State) : Host.Outcome State Fault Refusal :=
  s.live t fun s =>
    let x := s.mainsT ph
    if s.mainsState ph = 3 ∧ x.entered + 10 * x.period ≤ s.now then
      (s.put (0x2200 + ph) 1 0 4).raiseMains 0x4603 ph
    else s

/-! ### The load map (R194) -/

/-- The load map is cleared. -/
def State.clearMap (s : State) : State := { (s.put 0x2230 5 0 0).put 0x2230 6 0 0 with loadMap := [] }

/-- The map's source in mA. -/
def State.mapSample (s : State) : Option Int :=
  let src := s.nat 0x2230 1 0
  if src < 48 then some (s.inputMilliVolt src)
  else if src = 0xFE then
    some (((List.range 24).filter fun f => (s.nat 0x2230 2 0).testBit f).foldl (fun a f => a + s.idMilli f) 0)
  else none

/-- Each turn's sample goes to the bin of FP, while the map learns. -/
def State.turnMap (s : State) : State :=
  if s.nat 0x2210 1 0 = 2 ∧ s.frame.learnWait = 0 then
    match s.mapSample with
    | some v =>
      let i := s.positionAt s.now / 1024
      let b := bget ({} : MapBin) s.loadMap i
      { s with loadMap := bset s.loadMap i { b with sum := b.sum + v, count := b.count + 1 } }
    | none => s
  else s

/-- The end of a frame: the bin means move, and the map may become valid. -/
def State.learnFrame (s : State) : State :=
  let bins := (List.range 64).map fun i => (i, bget ({} : MapBin) s.loadMap i)
  let k : Nat := s.nat 0x2230 3 0
  if bins.all fun b => decide (0 < b.2.count) then
    let first := decide (s.nat 0x2230 6 0 = 0)
    let s := s.bump 0x2230 6 0
    let s := { s with
      loadMap := bins.map fun (i, b) =>
        let m := b.sum * 65536 / (b.count : Int)
        (i, { sum := 0, count := 0, mean := if first then m else b.mean + (m - b.mean) / ((2 ^ k : Nat) : Int) }) }
    if 4 * (2 ^ k : Nat) ≤ s.nat 0x2230 6 0 then s.put 0x2230 5 0 1 else s
  else { s with loadMap := bins.map fun (i, b) => (i, { b with sum := 0, count := 0 }) }

/-- MAP_CLEAR: 0x2230.08 := 1. -/
def execMapClear (t : Tick) (src : Nat) (value : Nat) (s : State) : Host.Outcome State Fault Refusal :=
  s.live t fun s => s.dict (.mapClear t (nodeOf src) value) src 2 false fun s => if value = 1 then s.clearMap else s.result 0x23

/-! ### Strobes (R181 to R186) -/

def State.setFrame (s : State) (x : FrameT) : State := { s with frame := x }
def State.frameState (s : State) : Nat := s.nat 0x2210 1 0
def State.toFrame (s : State) (st : Nat) : State := s.put 0x2210 1 0 st
def State.raiseFrame (s : State) (code : Nat) : State := s.raise { ev code 0 with stateCode := s.frameState }

/-- When forecasts become able to run again after a suspension or a discard, 0x4617 is journalled (R196). -/
def State.noteResumed (s : State) : State :=
  if s.frame.interrupted ∧ s.cfg 0x2230 7 0 = 1 ∧ s.forecastsAble then
    (s.setFrame { s.frame with interrupted := false }).raiseFrame 0x4617
  else s

/-- Forecasts are discarded for a number of further frames. -/
def State.discardForecasts (s : State) (frames : Nat) : State :=
  s.setFrame { s.frame with discarded := true, discardLeft := some frames, interrupted := true }

/-- FP is set at an accepted strobe: the written settings come into force (R181, R198), and a PPS edge that waits is
timed (R189). -/
def State.alignFrame (s : State) : State :=
  let x := s.frame
  let offset := s.nat 0x2210 8 0
  let old := s.positionAt s.now
  let forwards := decide ((offset + 65536 - old) % 65536 < 32768)
  let c := s.frameCycle s.now
  let stood := decide (s.nat 0x2210 1 0 < 2)
  let cycle := if stood || (forwards && decide (offset < old)) then c + 1 else if !forwards && decide (old < offset) then c - 1 else c
  let s := if x.ppsWaits then
      match x.ppsAt with
      | some a => s.put 0x2211 3 0 ((s.now - a) * 5 / 128 : Nat)
      | none => s
    else s
  (s.setFrame { x with
    alignAt := s.now, alignFp := offset, expect := 1, lastStrobe := s.now, ppsWaits := false
    floor := s.nat 0x2210 5 0, guard0 := s.nat 0x2210 7 0, offset := offset
    cycle := cycle, boundaryCycle := if stood then cycle else x.boundaryCycle }).put 0x2210 0xB 0 0

/-- The tracker locks or relocks at an edge: no guard suspension, and 2 further frames before the map learns and forecasts may run
again. A frame start that this edge itself passes over is none of the two. -/
def State.lockFrame (s : State) : State :=
  let s := s.alignFrame
  let frames := if s.frame.boundaryCycle < s.frame.cycle then 3 else 2
  let s := s.setFrame { s.frame with
    suspended := false, learnWait := frames, blockStart := some (s.now / cycleTicks * cycleTicks), blockCount := 0, prevBlock := none, stepEdges := 0
    discardLeft := if s.frame.discarded then some frames else none }
  ((s.toFrame 2).raiseFrame 0x4611).noteResumed

/-- The end of a block of 4,096 strobes (R183). -/
def State.learnBlock (s : State) (blk : Nat) : State :=
  let x := s.frame
  match x.prevBlock with
  | none => s.setFrame { x with prevBlock := some blk }
  | some p =>
    let period := s.framePeriod
    let dev := ((blk : Int) - p).natAbs * 65536000000000 / period
    let stab := max (x.floor * 65536) (max (x.stab * 15 / 16) dev)
    let s := s.put 0x2210 3 0 ((period : Int) + ((blk : Int) - period) / 4)
    (s.setFrame { x with prevBlock := some blk, stab := stab }).put 0x2210 4 0 ((stab + 32768) / 65536 : Nat)

/-- An accepted strobe counts for its block (R183). Edges are timed to one SYS cycle. -/
def State.countStrobe (s : State) : State :=
  let x := s.frame
  let at0 := s.now / cycleTicks * cycleTicks
  match x.blockStart with
  | none => s.setFrame { x with blockStart := some at0, blockCount := 0 }
  | some b =>
    if x.blockCount + 1 = 4096 then
      (s.setFrame { x with blockStart := some at0, blockCount := 0 }).learnBlock ((at0 - b) * stepUnits / 4096)
    else s.setFrame { x with blockCount := x.blockCount + 1 }

/-- A strobe within ±2 µs of prediction (R184). -/
def State.acceptStrobe (s : State) : State :=
  if s.frameState = 3 then
    let s := s.alignFrame.toFrame 2
    ((s.setFrame { s.frame with suspended := false, blockStart := none }).raiseFrame 0x4611).noteResumed
  else s.alignFrame.countStrobe

/-- Acquisition starts anew from the latest edge (R182). -/
def State.acquireFrame (s : State) : State :=
  (s.toFrame 1).setFrame { s.frame with edge := some (s.now / cycleTicks * cycleTicks), interval := none, cycle := s.frameCycle s.now }

/-- An edge in ACQUIRE (R182). -/
def State.acquireEdge (s : State) : State :=
  let x := s.frame
  let at0 := s.now / cycleTicks * cycleTicks
  match x.edge with
  | none => s.acquireFrame
  | some e =>
    let i := at0 - e
    if i < msTicks ∨ 20 * msTicks < i then (s.raiseLimited 0 { ev 0x4615 0 with value := ((i / usTicks : Nat) : Int), stateCode := 1 }).acquireFrame
    else
      match x.interval with
      | none => s.setFrame { x with edge := some at0, interval := some i }
      | some j =>
        if ((i : Int) - j).natAbs ≤ usTicks then
          let p := (i + j) * stepUnits / 2
          let old := s.nat 0x2210 3 0
          let s := if 0 < old ∧ old < 1000 * ((p : Int) - old).natAbs then s.clearMap else s
          let s := (s.put 0x2210 3 0 p).put 0x2210 4 0 1000
          (s.setFrame { s.frame with stab := 65536000, edge := none, interval := none }).lockFrame
        else s.acquireFrame

/-- An edge off prediction starts STEP (R186): forecasts are discarded up to its outcome. -/
def State.beginStep (s : State) : State :=
  let left := s.frameState
  let s := s.raiseFrame 0x4614
  let s := (s.toFrame 4).setFrame { s.frame with candidate := s.now, returnTo := left, stepEdges := 0, blockStart := none }
  s.setFrame { s.frame with discarded := true, interrupted := true }

/-- An edge in STEP (R186). -/
def State.stepEdge (s : State) : State :=
  let x := s.frame
  let d := (s.now - x.candidate) * stepUnits
  let near := decide ((((d : Int) - s.framePeriod).natAbs) ≤ nsUnits 2000)
  if near then (s.bump 0x2210 0xC 0).lockFrame
  else if s.strobeDeviation s.now ≤ nsUnits 2000 then
    let s := s.raiseFrame 0x4616
    let s := s.setFrame { x with discarded := x.discardLeft.isSome, stepEdges := 0 }
    let s := (s.toFrame x.returnTo).alignFrame
    (if x.returnTo = 2 then s.raiseFrame 0x4611 else s).noteResumed
  else if 7 ≤ x.stepEdges then s.acquireFrame
  else s.setFrame { x with candidate := s.now, stepEdges := x.stepEdges + 1 }

/-- FRAME_STROBE (R181 to R186). -/
def execFrameStrobe (t : Tick) (s : State) : Host.Outcome State Fault Refusal :=
  s.live t fun s =>
    match s.frameState with
    | 0 => s.acquireFrame
    | 1 => s.acquireEdge
    | 4 => s.stepEdge
    | _ => if s.strobeDeviation s.now ≤ nsUnits 2000 then s.acceptStrobe else s.beginStep

/-- STROBE_MISS (R184): the window of the next predicted strobe has passed. -/
def execStrobeMiss (t : Tick) (s : State) : Host.Outcome State Fault Refusal :=
  s.live t fun s =>
    let x := s.frame
    if (s.frameState = 2 ∨ s.frameState = 3) ∧
        x.expect * s.framePeriod + nsUnits 2000 < (s.now - x.alignAt) * stepUnits then
      let s := (s.bump 0x2210 0xB 0).setFrame { x with expect := x.expect + 1, blockStart := none }
      if s.frameState = 2 ∧ s.nat 0x2210 9 0 ≤ s.nat 0x2210 0xB 0 then
        (s.raise { ev 0x4612 0 with value := s.cfg 0x2210 0xB 0, limit := s.cfg 0x2210 9 0, stateCode := 2 }).toFrame 3
      else s
    else s

/-- FORECAST_SUSPEND (R185): g exceeds 1/32 of the learned period, in any state. -/
def execForecastSuspend (t : Tick) (s : State) : Host.Outcome State Fault Refusal :=
  s.live t fun s =>
    if 0 < s.nat 0x2210 3 0 ∧ s.guardBeyond ∧ !s.frame.suspended then
      (s.setFrame { s.frame with suspended := true, interrupted := true }).raiseFrame 0x4613
    else s

/-! ### PPS (R189) -/

/-- PPS_EDGE. -/
def execPpsEdge (t : Tick) (s : State) : Host.Outcome State Fault Refusal :=
  s.live t fun s =>
    if s.cfg 0x2211 1 0 = 1 then
      let s := match s.frame.ppsAt with
        | some a => s.put 0x2211 2 0 (((s.now - a) * 5 / 128 : Nat) - 1000000000 : Int)
        | none => s
      (s.put 0x2211 4 0 1).setFrame { s.frame with
        ppsAt := some s.now, ppsWaits := true, ppsFrom := some s.now, ppsNoted := false }
    else s

/-- PPS_ABSENT: 3 s without an edge since the latest one or since PPS was enabled, once. -/
def execPpsAbsent (t : Tick) (s : State) : Host.Outcome State Fault Refusal :=
  s.live t fun s =>
    if s.cfg 0x2211 1 0 = 1 ∧ !s.frame.ppsNoted ∧ s.since s.frame.ppsFrom (3 * secTicks) then
      ((s.put 0x2211 4 0 0).setFrame { s.frame with ppsNoted := true }).raise (ev 0x4618 0)
    else s

/-! ### Frame boundary and forecasts (R194, R195) -/

/-- The rise of a bin in mA. -/
def State.riseOf (s : State) (i : Nat) : Int :=
  ((bget ({} : MapBin) s.loadMap i).mean - (bget ({} : MapBin) s.loadMap ((i + 63) % 64)).mean) / 65536

/-- The bin with the largest rise, ties to the lower bin. -/
def State.topRise (s : State) : List Nat → Option Nat
  | [] => none
  | i :: r =>
    match s.topRise r with
    | none => some i
    | some j => if s.riseOf i < s.riseOf j then some j else some i

/-- The `n` bins with the largest rises. -/
def State.topRises (s : State) : Nat → List Nat → List Nat
  | 0, _ => []
  | n + 1, l =>
    match s.topRise l with
    | none => []
    | some i => i :: s.topRises n (l.filter fun j => decide (j ≠ i))

/-- The burst starts: at most four, in FP order (R195). -/
def State.bursts (s : State) : List Nat :=
  let all := (List.range 64).filter fun i => decide (s.cfg 0x2230 4 0 ≤ s.riseOf i)
  let top := s.topRises 4 all
  (List.range 64).filter fun i => top.contains i

/-- Control word of a forecast move (R195). -/
def State.forecastControl (s : State) (bin lead : Nat) : Int :=
  let period := s.framePeriod
  let units := min (nsUnits (1000 * lead)) (period / 2) + s.guardUnits
  let ahead := (units * 65536 + period - 1) / period
  0x94C00000 + ((1024 * bin : Nat) - (ahead : Int)) % 65536

/-- Place 960 + 16q + t is written, or disabled where there is no burst or no target. -/
def State.placeForecast (s : State) (bursts : List Nat) (place : Nat) : State :=
  let q := (place - 960) / 16
  let t := (place - 960) % 16
  let target := s.nat 0x2232 (t + 1) 0
  match bursts[q]? with
  | some bin =>
    if target = 0xFF then s.put 0x2300 1 place (s.cfg 0x2300 1 place % 0x80000000)
    else
      let s := (s.put 0x2300 1 place (s.forecastControl bin (s.nat 0x2233 (t + 1) 0))).put 0x2300 2 place 1
      let s := (s.put 0x2300 3 place 0).put 0x2300 5 place target
      (s.put 0x2300 4 place 0).put 0x2300 6 place 0
  | none => s.put 0x2300 1 place (s.cfg 0x2300 1 place % 0x80000000)

/-- FORECAST_PLACEMENT: all 64 places in one step. -/
def State.placeForecasts (s : State) : State :=
  if s.cfg 0x2230 7 0 = 1 ∧ s.cfg 0x2230 5 0 = 1 then
    let b := s.bursts
    ((List.range 64).map (960 + ·)).foldl (fun s p => s.placeForecast b p) s
  else s

/-- FRAME_BOUNDARY (R186, R194, R195): FP has passed zero. -/
def execFrameBoundary (t : Tick) (s : State) : Host.Outcome State Fault Refusal :=
  s.live t fun s =>
    if 2 ≤ s.frameState ∧ s.frame.boundaryCycle < s.frameCycle s.now then
      let s := if s.frame.learnWait = 0 then s.learnFrame else s
      let x := s.frame
      let s := s.setFrame { x with
        boundaryCycle := s.frameCycle s.now, learnWait := x.learnWait - 1
        discarded := match x.discardLeft with
          | some n => decide (1 < n ∨ s.frameState = 4)
          | none => x.discarded
        discardLeft := match x.discardLeft with
          | some n => if s.frameState = 4 then some n else if 1 < n then some (n - 1) else none
          | none => none }
      s.placeForecasts.noteResumed
    else s

end Sys2Proof.Machine
end

