-- ==== Sys2Proof/Machine/WriteRules.lean ====
section
/-! DEFINITION. The configuration objects: where an address lies in the directory (R391 to R393), the own rule of each
object against a value (the rules that the object tables name), the effect of an accepted value, and the judgement of a
stored settings set (R473). -/

namespace Sys2Proof.Machine

/-! ### The directory -/

/-- The address at which an object of a doubles pair is held: the objects of the upper block are copies (R31, R144). -/
def State.homeAddr (s : State) (a : Addr) : Addr :=
  let d := a.index / 0x10
  if (d = 0x600 ∨ d = 0x620 ∨ d = 0x621 ∨ d = 0x630 ∨ d = 0x631) ∧ a.index % 0x10 < 4 ∧ s.upperCopy a.inst then
    { a with inst := a.inst - 1 }
  else a

/-- The role that selects the sub-indices of 0x6210+j and the windows of 0x6200+j (R391, Table 05-9). -/
def State.addrRole (s : State) (a : Addr) : Nat :=
  if 0x6210 ≤ a.index ∧ a.index < 0x6214 then s.roleOf (a.index - 0x6210) (s.homeAddr a).inst
  else if 0x6200 ≤ a.index ∧ a.index < 0x6204 then s.roleOf (a.index - 0x6200) (s.homeAddr a).inst
  else 0

/-- The row of sub-index 0x00: UNSIGNED8, read only (R391). -/
def rowZero (index : Nat) : ObjRow :=
  { base := index, count := 1, lo := 0, hi := 0, type := .u8, access := .ro
    kind := match (rowsFor index).find? fun r => r.covers index with
      | some r => r.kind
      | none => .none
    default := 0, range := none, authority := 2 }

/-- The row of an address, or the result code of R391 and R392. -/
def State.locate (s : State) (a : Addr) : Except Nat ObjRow :=
  if !indexExists a.index then .error 0x10
  else
    match (if a.sub = 0 then some (rowZero a.index) else findRow (s.addrRole a) a.index a.sub) with
    | some r => if a.inst < r.kind.count then .ok r else .error 0x12
    | none => .error 0x11

/-- An address word: index in [31:16], sub-index in [15:8] (R191, R371). -/
def addrWord (w inst : Nat) : Addr := { index := w / 0x10000 % 0x10000, sub := w / 0x100 % 0x100, inst := inst }

/-- The authority that a value needs: operator for a clear (R380), else what the row names. -/
def ObjRow.need (r : ObjRow) : Nat := if r.clears then 1 else r.authority

/-! ### The rings' maps (R371, R390) -/

/-- The octets of the value that an address names, 0 where it names none. -/
def State.sizeOf (s : State) (a : Addr) : Nat :=
  match s.locate a with
  | .ok r => r.type.size
  | .error _ => 0

/-- Whether an entry of the transmit map is allowed: empty, or an object of class RO, RW or RWS of 8 octets or fewer. -/
def State.txAllowed (s : State) (w inst : Nat) : Bool :=
  decide (w = 0) ||
    (decide (w % 0x100 = 0) &&
      match s.locate (addrWord w inst) with
      | .ok r => decide (r.type ≠ .octets) && (match r.access with
        | .ro | .rw | .rws => true
        | _ => false)
      | .error _ => false)

/-- The length of the image that a transmit map makes, with entry `e` as given. -/
def State.txLength (s : State) (e w inst : Nat) : Nat :=
  (List.range 64).foldl (fun n i =>
    let w' := if i = e then w else s.nat 0x1400 (i + 1) 0
    let inst' := if i = e then inst else s.nat 0x1401 (i + 1) 0
    if w' = 0 then n else n + s.sizeOf (addrWord w' inst')) 0

def State.refuseRing (s : State) (a : Addr) (v : Int) : Bool :=
  let e := a.sub - 1
  match a.index with
  | 0x1400 =>
    let i := s.nat 0x1401 a.sub 0
    !s.txAllowed v.toNat i || decide (256 < s.txLength e v.toNat i)
  | 0x1401 =>
    let w := s.nat 0x1400 a.sub 0
    !s.txAllowed w v.toNat || decide (256 < s.txLength e w v.toNat)
  | 0x1230 => decide (a.sub = 3 ∧ 4 < v)
  | _ => false

/-! ### Chip configuration (0x2000 to 0x2FFF) -/

/-- The enabled pools. -/
def State.poolOn (s : State) (p : Nat) : Bool := decide (s.cfg (0x2100 + p) 0x1A 0 = 1)

/-- R158, R159. -/
def State.refusePool (s : State) (p sub : Nat) (v : Int) : Bool :=
  let i := 0x2100 + p
  if sub ≤ 0x10 then s.poolOn p
  else if sub = 0x12 then decide (v ≤ s.cfg i 0x13 0)
  else if sub = 0x13 then decide (s.cfg i 0x12 0 ≤ v)
  else if sub = 0x1A ∧ v = 1 then
    (s.members p).any fun g =>
      decide (s.role g ≠ 2) || decide (s.cfg (0x6300 + g % 4) 3 (g / 4) = 0) ||
        (List.range 4).any fun q => decide (q ≠ p) && s.poolOn q && (s.members q).contains g
  else false

/-- Whether the words of a move are valid under a control word (R190, R192). -/
def State.moveValid (s : State) (n control : Nat) : Bool :=
  let base := control / 0x10000000 % 8
  let again := control.testBit 23
  let time := s.nat 0x2300 2 n
  let interval := s.nat 0x2300 3 n
  (decide (base = 0) || decide (1 ≤ time ∧ time < 0x10000) || decide (5 ≤ base)) &&
    (if base = 0 ∧ again then decide (interval ≠ 0) else decide (interval = 0))

/-- R190 to R192, R195. -/
def State.refuseMove (s : State) (n sub : Nat) (v : Int) : Bool :=
  let control := s.nat 0x2300 1 n
  let on := control.testBit 31
  let w := v.toNat
  (decide (960 ≤ n) && decide (s.cfg 0x2230 7 0 = 1)) ||
    (decide (sub ≠ 7) && on && (decide (sub ≠ 1) || decide (w % 0x80000000 ≠ control % 0x80000000))) ||
    (decide (sub = 1) && (decide (4 < w / 0x10000000 % 8) || decide (7 < w / 0x1000000 % 16) || decide (w / 0x10000 % 0x40 ≠ 0) ||
      (w.testBit 31 && !s.moveValid n w))) ||
    (decide (sub = 4) && decide (w % 0x100 ≠ 0))

/-- The levels of a heatsink group with one of them changed: throttle, stop, latch and hysteresis (R251). -/
def State.sinkLevels (s : State) (h sub : Nat) (v : Int) : Bool :=
  let at' (i : Nat) := if i = sub then v else s.cfg (0x2400 + h) i 0
  decide (at' 0xE ≤ at' 0x11) && decide (at' 0x11 < at' 0x12) && decide (at' 0x13 < at' 0x11 - at' 0xE)

/-- R251. A sensor belongs to at most one group. -/
def State.refuseSink (s : State) (h sub : Nat) (v : Int) : Bool :=
  let on := s.sinkOn h
  if sub ≤ 8 then
    on || (decide (v ≠ 0xFF) && (List.range 12).any fun i => decide (i ≠ h) && (s.sensors i).contains v.toNat)
  else if sub ≤ 0xD then on
  else if sub = 0xE ∨ sub = 0x11 ∨ sub = 0x12 ∨ sub = 0x13 then on && !s.sinkLevels h sub v
  else if sub = 0x17 ∧ v = 1 then
    (s.sensors h).isEmpty || ((s.sensors h).any fun t => decide (s.cfg 0x2410 1 t = 0)) || !s.sinkLevels h 0 0
  else false

/-- Whether two programs' ranges overlap, or one runs past the store, with one descriptor changed (R278). -/
def State.programClash (s : State) (p sub : Nat) (v : Int) : Bool :=
  let start (q : Nat) := if q = p ∧ sub = 1 then v else s.cfg 0x2610 1 q
  let len (q : Nat) := if q = p ∧ sub = 2 then v else s.cfg 0x2610 2 q
  decide (0 < len p) &&
    (decide (2048 < start p + len p) ||
      (List.range 32).any fun q =>
        decide (q ≠ p) && decide (0 < len q) && decide (start q < start p + len p) && decide (start p < start q + len q))

/-- A watch address names a BOOLEAN or an unsigned object of 32 bits or fewer, or is unset (R273). -/
def State.watchAllowed (s : State) (w inst : Nat) : Bool :=
  decide (w = 0) ||
    (decide (w / 0x20 % 8 = 0) &&
      match s.locate (addrWord w inst) with
      | .ok r => (match r.type with
        | .bool | .u8 | .u16 | .u32 => true
        | _ => false) && decide (r.access ≠ .wo)
      | .error _ => false)

/-- Objects 0x2000 to 0x2FFF. -/
def State.refuse2 (s : State) (a : Addr) (v : Int) : Bool :=
  let w := v.toNat
  if a.index < 0x2200 then s.refusePool (a.index - 0x2100) a.sub v
  else if a.index = 0x2230 ∧ a.sub = 1 then decide (0x30 ≤ v ∧ v < 0xFE)
  else if a.index = 0x2232 then decide (0x44 ≤ v ∧ v < 0xFF)
  else if a.index = 0x2300 then s.refuseMove a.inst a.sub v
  else if 0x2400 ≤ a.index ∧ a.index < 0x240C then s.refuseSink (a.index - 0x2400) a.sub v
  else if a.index = 0x2410 ∧ a.sub = 1 then
    decide (v = 2 ∧ s.cfg 0x2011 2 0 ≠ 0) || (decide (v = 0) && (List.range 12).any fun h => s.sinkOn h && (s.sensors h).contains a.inst)
  else if a.index = 0x2500 ∧ (a.sub = 1 ∨ a.sub = 2) then decide (2 < v)
  else if a.index = 0x2510 ∧ a.sub = 1 then decide (7 < v)
  else if a.index = 0x2530 then !s.watchAllowed w (s.nat 0x2531 a.sub 0)
  else if a.index = 0x2531 then !s.watchAllowed (s.nat 0x2530 a.sub 0) w
  else if a.index = 0x2600 then (List.range 32).any fun p => s.progRuns p && s.inProgram p a.inst
  else if a.index = 0x2610 then
    s.progRuns a.inst || (decide (a.sub = 1 ∨ a.sub = 2) && s.programClash a.inst a.sub v)
  else false

/-! ### Blocks, cells and contexts (0x4000 to 0x61FF) -/

/-- A source of a computed power: cell, group-sum and voltage codes (R94). -/
def State.powerSource (s : State) (b code : Nat) : Bool :=
  decide (code < 8) || (decide (code < 0x10) && s.doubles (b - b % 2)) || decide (0x20 ≤ code ∧ code < 0x24) ||
    decide (0x30 ≤ code ∧ code < 0x60)

def State.refuseBlock (s : State) (b index sub : Nat) (v : Int) : Bool :=
  if index = 0x4020 then
    !(decide (v = 0xFFFF) || (s.powerSource b (v.toNat / 256) && s.powerSource b (v.toNat % 256)))
  else if index = 0x4030 ∧ sub = 4 then decide (s.cfg 0x4030 5 b ≤ v)
  else if index = 0x4030 ∧ sub = 5 then decide (v ≤ s.cfg 0x4030 4 b)
  else false

/-- A slope source code (R71). -/
def slopeCode (v : Int) : Bool := decide (0 ≤ v ∧ v < 0x30) || decide (0x40 ≤ v ∧ v < 0x43) || decide (v = 0xFF)

/-- A mode whose dead times R341 bounds on a twin chip. -/
def legMode (m : Int) : Bool := decide (m = 1 ∨ m = 3 ∨ m = 4)

/-- Whether a new period of a cell would break the budget of an engine whose enabled context it triggers (R107). -/
def State.budgetBroken (s : State) (c : Nat) (v : Int) : Bool :=
  let s' := s.put 0x5010 2 c v
  [c / 8, (c / 8) - (c / 8) % 2 + (1 - (c / 8) % 2)].any fun b =>
    s'.overBudget (s'.enabledCtxs b)

/-- R53, R56, R66, R71, R74, R87, R107, R341. -/
def State.refuseCell (s : State) (c index sub : Nat) (v : Int) : Bool :=
  let m := s.cfg 0x5010 1 c
  let twin := decide (s.cfg 0x2011 2 0 ≠ 0)
  let running := match (s.cell c).state with
    | .idle | .fault => false
    | _ => true
  if index < 0x5010 then false
  else
    running ||
      (match index, sub with
      | 0x5010, 1 =>
        (decide (v ≠ 1) && decide (s.cfg 0x5012 1 c = 1)) ||
          (twin && legMode v && (decide (s.cfg 0x5010 4 c < 1536) || decide (s.cfg 0x5010 5 c < 1536)))
      | 0x5010, 2 => decide (v ≤ s.cfg 0x5010 3 c) || s.budgetBroken c v
      | 0x5010, 3 => decide (s.cfg 0x5010 2 c ≤ v)
      | 0x5010, 4 => twin && legMode m && decide (v < 1536)
      | 0x5010, 5 => twin && legMode m && decide (v < 1536)
      | 0x5012, 1 => decide (v = 1 ∧ m ≠ 1)
      | 0x5013, 4 => !slopeCode v
      | 0x5013, 5 => !slopeCode v
      | _, _ => false)

/-- A feedback source code of Table 04-2. -/
def State.feedbackCode (s : State) (base : Nat) (v : Int) : Bool :=
  decide (0 ≤ v ∧ v < 8) || (decide (8 ≤ v ∧ v < 0x10) && s.doubles base) || decide (0x20 ≤ v ∧ v < 0x24) ||
    decide (0x30 ≤ v ∧ v < 0x64) || decide (0x70 ≤ v ∧ v < 0x80) || decide (v = 0xFF)

/-- A destination code of Table 04-3. -/
def State.destCode (s : State) (base : Nat) (v : Int) : Bool :=
  decide (0 ≤ v ∧ v < 4) || decide (0x10 ≤ v ∧ v < 0x20) || decide (0x20 ≤ v ∧ v < 0x24) || decide (0x30 ≤ v ∧ v < 0x38) ||
    (decide (0x38 ≤ v ∧ v < 0x40) && s.doubles base) || decide (v = 0xFF)

/-- R90, R93, R97, R150. -/
def State.refuseCtx (s : State) (k index sub : Nat) (v : Int) : Bool :=
  let base := s.ctxBase k
  let enabled := decide ((s.ctx k).state ≠ .disabled)
  if index = 0x6100 then
    (enabled && decide (sub ≠ 8)) ||
      (match sub with
      | 3 => decide (8 ≤ v) && !s.doubles base
      | 5 => !s.feedbackCode base v
      | 9 => !s.destCode base v
      | _ => false)
  else if index = 0x6140 then
    !(decide (v = 0) || decide (0x20 ≤ v ∧ v < 0x24) || decide (0x40 ≤ v ∧ v < 0x44)) ||
      (enabled && decide (v ≠ 0) && decide (s.cfg 0x6100 7 k ≠ 2))
  else false

/-! ### Groups (0x6000, 0x6200 to 0x63FF) -/

/-- R30, R31. -/
def State.refuseSlot (s : State) (j b sub : Nat) (v : Int) : Bool :=
  let w := v.toNat
  let pair := b - b % 2
  s.upperCopy b || s.blockRuns b || (s.doubles pair && s.blockRuns (pair + 1)) ||
    (if sub = 1 then
      ((List.range 4).any fun i => decide (i ≠ j) && decide (Nat.land w (s.nat (0x6000 + i) 1 b) ≠ 0)) ||
        (decide (w = 0) && decide (s.roleOf j b ≠ 0)) || (s.doubles pair && decide (w ≠ if j = 0 then 0xFF else 0))
    else if sub = 2 then decide (v ≠ 0) && decide (s.nat (0x6000 + j) 1 b = 0)
    else false)

/-- R125, R144. -/
def State.refuseRole (s : State) (j b sub : Nat) (v : Int) : Bool :=
  let g := 4 * b + j
  s.upperCopy b || ((s.group g).state.running && !(decide (s.role g = 3) && decide (sub ≤ 2))) ||
    (decide (s.role g = 3) && decide (sub = 5) && decide (15 < v)) || (decide (s.role g = 1) && decide (sub = 2) && decide (v = 0))

/-- R153, R163, R172. -/
def State.refusePhase (s : State) (j b sub : Nat) (v : Int) : Bool :=
  let i := 0x6300 + j
  s.upperCopy b || (decide (sub = 1 ∨ 0xE ≤ sub) && (s.group (4 * b + j)).state.running) ||
    (match sub with
    | 1 => decide (48 ≤ v ∧ v ≠ 0xFE ∧ v ≠ 0xFF) || (decide (v = 0xFE) && decide (s.role (4 * b + j) ≠ 4))
    | 4 => decide (v ≤ s.cfg i 5 b)
    | 5 => decide (s.cfg i 4 b ≤ v)
    | 0xE => decide (v ≤ s.cfg i 0xF b)
    | 0xF => decide (s.cfg i 0xE b ≤ v)
    | _ => false)

/-- Objects 0x6000 to 0x67FF. -/
def State.refuse6 (s : State) (a : Addr) (v : Int) : Bool :=
  let j := a.index % 0x10
  match a.index / 0x10 with
  | 0x600 => s.refuseSlot j a.inst a.sub v
  | 0x610 => s.refuseCtx a.inst a.index a.sub v
  | 0x614 => s.refuseCtx a.inst a.index a.sub v
  | 0x620 => s.upperCopy a.inst || (decide (a.sub = 6) && decide (s.cfg a.index 7 a.inst < v)) ||
      (decide (a.sub = 7) && decide (v < s.cfg a.index 6 a.inst))
  | 0x621 => s.refuseRole j a.inst a.sub v
  | 0x630 => s.refusePhase j a.inst a.sub v
  | 0x631 => s.upperCopy a.inst
  | _ => false

/-! ### Feeds and strings (0x6800 to 0x77FF) -/

/-- R207, R213, R216. -/
def State.refuseFeed (s : State) (f index sub : Nat) (v : Int) : Bool :=
  let at' (i : Nat) := if i = sub then v else s.cfg 0x6800 i f
  if index = 0x6820 then false
  else
    decide ((s.feed f).state ≠ .off ∧ (s.feed f).state ≠ .latched) ||
      (if index = 0x6800 then
        (decide (sub = 0xC ∨ sub = 0xD ∨ sub = 0xE) && !(decide (at' 0xC < at' 0xD) && decide (at' 0xD < at' 0xE))) ||
          (decide (sub = 1) && decide (v = 2 ∨ v = 3) && (List.range 24).any fun i => decide (i ≠ f) && decide (s.cfg 0x6800 1 i = v)) ||
          (decide (sub = 0x10) && decide (3 < v)) || (decide (sub = 0x18) && decide (1 < v))
      else if sub = 0xB then decide (v ≤ s.cfg 0x6810 0xC f)
      else if sub = 0xC then decide (s.cfg 0x6810 0xB f ≤ v)
      else false)

/-- R222: what an enabled string needs. -/
def State.stringComplete (s : State) (n : Nat) : Bool :=
  let f := s.nat 0x7000 0xB n
  decide (s.nat 0x7000 2 n < 48) && decide (s.nat 0x7000 3 n < 48) &&
    (decide (s.nat 0x7000 6 n < 48) || decide (s.nat 0x7000 7 n < 48)) && decide (0 < s.nat 0x7000 8 n) &&
    decide (s.nat 0x7000 9 n < 64) && decide (f < 24) && decide (s.feedUse f = 4) && decide (s.nat 0x6800 0x19 f = n)

/-- Objects 0x6800 to 0x7FFF. -/
def State.refuse7 (s : State) (a : Addr) (v : Int) : Bool :=
  match a.index with
  | 0x6800 => s.refuseFeed a.inst a.index a.sub v
  | 0x6810 => s.refuseFeed a.inst a.index a.sub v
  | 0x6840 =>
    decide (a.sub = 3 ∧ s.cfg 0x6840 4 0 ≤ v) || decide (a.sub = 4 ∧ v ≤ s.cfg 0x6840 3 0)
  | 0x7000 => if a.sub = 1 then decide (v = 1) && !s.stringComplete a.inst else decide (s.cfg 0x7000 1 a.inst = 1)
  | 0x7010 =>
    decide (a.sub ≤ 2) &&
      (decide (v < (classDefaults s.chemClass).getD 4 0) || decide ((classDefaults s.chemClass).getD 5 0 < v))
  | 0x7120 => decide (a.sub = 9) && decide (7 < v)
  | _ => false

/-! ### Journal and captures (0x8000 to 0x8FFF) -/

/-- A capture source code (Table 12-4). -/
def captureSource (v : Int) : Bool := decide (0 ≤ v ∧ v < 0xE3) || decide (v = 0xFF)

/-- A trend entry is empty or names the 60 s window of a telemetry quantity (R296). -/
def trendAllowed (w : Nat) : Bool :=
  decide (w = 0) || (isTelemetry (w / 0x10000) && decide (w / 0x10000 % 0x10 = 3) && decide (w % 0x10000 = 0x100))

/-- Objects 0x8000 to 0x8FFF. -/
def State.refuse8 (s : State) (a : Addr) (v : Int) : Bool :=
  let t := a.index % 0x10
  match a.index / 0x10 with
  | 0x802 =>
    decide (a.index = 0x8020) && !trendAllowed v.toNat
  | 0x803 =>
    decide ((s.capture t).state ≠ .idle) || (decide (a.sub ≤ 0x10) && !captureSource v) ||
      (decide (0x11 ≤ a.sub ∧ a.sub ≤ 0x20) && decide (1 < v))
  | 0x804 => decide (a.sub ≤ 4) && decide ((s.capture t).state ≠ .idle)
  | _ => false

/-! ### The own rule and the effect of a value -/

/-- Whether an object's own rule refuses a value: its range (Table rows), "write 0 to clear", and the rules above. -/
def State.ownRule (s : State) (r : ObjRow) (a : Addr) (v : Int) : Bool :=
  (r.clears && decide (v ≠ 0)) ||
    (match r.range with
    | some (lo, hi) => !(decide (lo ≤ v ∧ v ≤ hi) || (r.orFF && decide (v = 0xFF)))
    | none => false) ||
    (match a.index / 0x1000 with
    | 1 => s.refuseRing a v
    | 2 => s.refuse2 a v
    | 4 => s.refuseBlock a.inst a.index a.sub v
    | 5 => s.refuseCell a.inst a.index a.sub v
    | 6 => if a.index < 0x6800 then s.refuse6 a v else s.refuse7 a v
    | 7 => s.refuse7 a v
    | 8 => s.refuse8 a v
    | 0xF => decide (a.index = 0xF060 ∧ s.cfg 0x8007 1 0 ≠ 1)
    | _ => false)

/-- A staging coefficient takes a value (R111). -/
def Coeffs.put (c : Coeffs) (sub : Nat) (v : Int) : Coeffs :=
  match sub with
  | 1 => { c with form := v }
  | 2 => { c with b0 := v }
  | 3 => { c with b1 := v }
  | 4 => { c with b2 := v }
  | 5 => { c with b3 := v }
  | 6 => { c with a1 := v }
  | 7 => { c with a2 := v }
  | 8 => { c with a3 := v }
  | 9 => { c with kb := v }
  | 0xA => { c with uMin := v }
  | _ => { c with uMax := v }

/-- A permission that is withdrawn puts its BRIDGE_HOLD to a static low and ends relay-open of its group (R245). -/
def State.relayRules (before s : State) : State :=
  (List.range 4).foldl (fun s r =>
    if before.relayPermitted r ∧ !s.relayPermitted r then
      let gs := (List.range 64).filter fun g => decide (s.role g = 3) && (s.nat (0x6210 + g % 4) 5 (g / 4)).testBit r
      gs.foldl (fun s g => s.setGroup g { s.group g with relayOpen := false, relayEdge := none, powerGood := false })
        { s with bridge := bset s.bridge r .low }
    else s) s

/-- A heatsink group is enabled or disabled: its trackers start anew, and so do the deviations of its sensors (R252). The stops
that it has sent keep their deadline (R258). -/
def State.freshSink (s : State) (h : Nat) : State :=
  let s := (s.sensors h).foldl (fun s t => s.setTempIn t { s.tempIn t with deviates := none }) s
  s.setSink h { stops := (s.sink h).stops }

/-- What an accepted value does beside being held: fresh trackers of what it enables, and the rules that name a write. -/
def State.writeEffect (s : State) (a : Addr) (old v : Int) : State :=
  match a.index with
  | 0x2210 => if a.sub = 8 then s.discardForecasts 2 else s
  | 0x2211 =>
    if a.sub = 1 ∧ old ≠ v then
      s.setFrame { s.frame with ppsAt := none, ppsWaits := false, ppsFrom := if v = 1 then some s.now else none, ppsNoted := false }
    else s
  | 0x2230 => if a.sub ≤ 2 then s.clearMap else s
  | 0x2300 =>
    if a.sub = 1 ∧ v.toNat.testBit 31 ∧ !old.toNat.testBit 31 then
      { s with moves := bset s.moves a.inst { enabledAt := s.now } }
    else s
  | 0x2410 => if a.sub = 1 ∧ old ≠ v then s.setTempIn a.inst {} else s
  | 0x2411 =>
    if old = 0 then s
    else
      let s := if s.nat 0x2411 3 a.inst = 1 then s.put 0x2411 3 a.inst 0 else s
      s.setTempIn a.inst { s.tempIn a.inst with deviates := none }
  | 0x6840 => if a.sub = 1 then (if v = 0 then s.setSelector {} else if old = 0 then s.startSelector else s) else s
  | 0x7000 => if a.sub = 1 ∧ old = 0 ∧ v = 1 then s.setStr a.inst { s.str a.inst with
      firstSample := none, sampleAt := none, permitted := false, permitSince := none, restSince := none, restTaken := false
      hold := 0, tailSince := none, full := false, lvdSince := none, reconnectSince := none, belowFast := none, fast := false } else s
  | _ =>
    if 0x6200 ≤ a.index ∧ a.index < 0x6204 ∧ (a.sub = 6 ∨ a.sub = 7) then s.clampTarget (4 * a.inst + a.index % 0x10)
    else if 0x2100 ≤ a.index ∧ a.index < 0x2104 ∧ a.sub = 0x1A ∧ old ≠ v then
      s.setPool (a.index - 0x2100) { rotateFrom := s.now }
    else if 0x2400 ≤ a.index ∧ a.index < 0x240C ∧ a.sub = 0x17 ∧ old ≠ v then s.freshSink (a.index - 0x2400)
    else if 0x6000 ≤ a.index ∧ a.index < 0x6004 ∧ a.sub = 2 ∧ old ≠ v then
      let g := 4 * a.inst + a.index % 0x10
      let s := State.clearRatio { s with obj := s.obj.filter fun p =>
        !(decide (p.1.inst = a.inst) && (decide (p.1.index = a.index + 0x210) ||
          (decide (p.1.index = a.index + 0x200) && decide (p.1.sub = 6 ∨ p.1.sub = 7)))) } g
      if v = 0 then s else s.clampTarget g
    else if ((0x6000 ≤ a.index ∧ a.index < 0x6004) ∨ (0x6300 ≤ a.index ∧ a.index < 0x6304)) ∧ a.sub = 1 ∧ old ≠ v then
      s.clearRatio (4 * a.inst + a.index % 0x10)
    else s

/-- A value that passed every check is held and takes effect. -/
def State.holdValue (s : State) (a : Addr) (v : Int) : State :=
  if a.index = 0x6110 then
    s.setCtx a.inst { s.ctx a.inst with staging := (s.ctx a.inst).staging.put a.sub v }
  else
    let old := s.cfg a.index a.sub a.inst
    State.relayRules s (((s.put a.index a.sub a.inst v).writeEffect a old v))

/-- A configuration object is written with a value of its type: its own rule, then its effect. The enable of a context, the
doubles flag and a setpoint target have judgements of their own (R90, R125, R170). -/
def State.writeConfig (s : State) (r : ObjRow) (a : Addr) (v : Int) : State :=
  if a.index = 0x6100 ∧ a.sub = 1 then s.writeEnable a.inst v.toNat
  else if a.index = 0x6000 ∧ a.sub = 3 then (if s.upperCopy a.inst then s.result 0x23 else s.writeDoubles a.inst v.toNat)
  else if a.index / 0x10 = 0x620 ∧ a.sub = 3 then
    if s.upperCopy a.inst then s.result 0x23 else s.commandTarget (4 * a.inst + a.index % 0x10) v
  else if s.ownRule r a v then s.result 0x23
  else (s.holdValue a v).result 0

/-! ### A stored set (R118, R226, R399, R408, R473) -/

/-- The RWS objects that were ever written. -/
def State.rwsObjects (s : State) : Bank Addr Int :=
  s.obj.filter fun p =>
    match s.locate p.1 with
    | .ok r => decide (r.access = .rws)
    | .error _ => false

/-- What a store captures (R409). -/
def State.captureSet (s : State) : SettingsSet :=
  { objs := s.rwsObjects, tables := s.tables, tableClass := s.tableClass,
    banks := (s.ctxs.filter fun (p : Nat × Ctx) => decide (p.2.active ≠ ({} : Coeffs))).map fun (p : Nat × Ctx) => (p.1, p.2.active) }

/-- `a` comes before `b` in ascending order of index, sub-index and instance. -/
def Addr.before (a b : Addr) : Bool :=
  decide (a.index < b.index) ||
    (decide (a.index = b.index) && (decide (a.sub < b.sub) || (decide (a.sub = b.sub) && decide (a.inst < b.inst))))

/-- An address enters an ascending list once. -/
def insertAddr (a : Addr) : List Addr → List Addr
  | [] => [a]
  | b :: r => if a = b then b :: r else if a.before b then a :: b :: r else b :: insertAddr a r

def sortAddrs (l : List Addr) : List Addr := l.foldl (fun r a => insertAddr a r) []

/-- The enable objects of R473. -/
def isEnable (a : Addr) : Bool :=
  decide (a.index = 0x6100 ∧ a.sub = 1) || decide (0x2100 ≤ a.index ∧ a.index < 0x2104 ∧ a.sub = 0x1A) ||
    decide (0x2400 ≤ a.index ∧ a.index < 0x240C ∧ a.sub = 0x17) || decide (a.index = 0x7000 ∧ a.sub = 1) ||
    decide (a.index = 0x6840 ∧ a.sub = 1) || decide (a.index = 0x2230 ∧ a.sub = 7) || decide (a.index = 0x2300 ∧ a.sub = 1)

/-- An enable object with its enable cleared: a move keeps the other bits of its control word. -/
def clearedEnable (a : Addr) (v : Int) : Int := if a.index = 0x2300 then v % 0x80000000 else 0

/-- Every enable is taken as cleared (R473, step 1). -/
def State.clearEnables (s : State) : State :=
  let s := { s with ctxs := s.ctxs.map fun (p : Nat × Ctx) => (p.1, { p.2.initial with state := .disabled }) }
  ((s.obj.map fun p => p.1).filter isEnable).foldl (fun s a =>
    s.holdValue a (clearedEnable a (s.cfg a.index a.sub a.inst))) s

/-- The value that a set gives an object: the stored one, else the default. -/
def State.setValue (s : State) (set : SettingsSet) (a : Addr) : Int :=
  match bget none (set.objs.map fun p => (p.1, some p.2)) a with
  | some v => v
  | none => s.dflt a.index a.sub a.inst

/-- One object takes its value of the set, or keeps what it has and counts as kept. -/
def State.restoreOne (p : State × Nat) (a : Addr) (v : Int) : State × Nat :=
  let (s, kept) := p
  match s.locate a with
  | .ok r =>
    if s.cfg a.index a.sub a.inst = v then p
    else if r.type.holds v then
      let s' := s.writeConfig r a v
      if s'.lastResult ≤ 1 then (s', kept) else (s.result 0, kept + 1)
    else (s, kept + 1)
  | .error _ => (s, kept + 1)

/-- The stored values are judged as one set (R473); with the state that results, the number of objects kept. -/
def State.restoreSet (s : State) (set : SettingsSet) : State × Nat :=
  let all := sortAddrs (s.rwsObjects.map (fun p => p.1) ++ set.objs.map fun p => p.1)
  let s := { s.clearEnables with tables := set.tables, tableClass := set.tableClass }
  let s := (List.range 256).foldl (fun s k =>
    let c := bget ({} : Coeffs) set.banks k
    if (s.ctx k).active = c ∧ (s.ctx k).staging = c then s else s.setCtx k { s.ctx k with active := c, staging := c }) s
  let p := all.foldl (fun p a =>
    if isEnable a ∧ a.index ≠ 0x2300 then p
    else State.restoreOne p a (if isEnable a then clearedEnable a (p.1.setValue set a) else p.1.setValue set a)) (s, 0)
  (all.filter isEnable).foldl (fun p a => State.restoreOne p a (p.1.setValue set a)) p

/-- The settings in force by a set: the set's, or the defaults of a factory marker (R408). -/
def State.applySet (s : State) (set : SettingsSet) : State × Nat :=
  if set.factory then s.restoreSet { tableClass := s.chemClass } else s.restoreSet set

end Sys2Proof.Machine
end

