-- ==== Sys2Proof/Machine/Storage.lean ====
section
/-! DEFINITION. Persistent storage (chapter 17, R398, R399): the store and its abort, both restores, compaction, and the
repair of SRAM lines by their memory class. -/

namespace Sys2Proof.Machine

/-! ### The store (R398, R409 to R411) -/

/-- Records are appended in order, all of them or none. -/
def Storage.appendAll : Storage → List RecBody → Option Storage
  | x, [] => some x
  | x, b :: r =>
    match x.append b with
    | some y => y.appendAll r
    | none => none

/-- The number of parts of a set, 1 to 256. -/
def SettingsSet.parts (x : SettingsSet) : Nat :=
  Config.settingsParts x.objs.length x.tables.length x.banks.length % 256 + 1

/-- The parts of the captured set are written, with consecutive sequences, once there is room for all of them. -/
def Storage.writeParts (x : Storage) : Storage :=
  if x.phase = 1 ∧ x.parts = 0 then
    match x.appendAll ((List.range x.captured.parts).map RecBody.part) with
    | some y => { y with firstPart := x.nextSeq, parts := x.captured.parts }
    | none => x
  else x

/-- Step 1 of a store: the battery state of each enabled string, and the run times (R409). -/
def State.storeRecords (s : State) : State :=
  (((List.range 4).filter fun n => decide (s.cfg 0x7000 1 n = 1)).foldl State.writeRecord s).saveRunTimes

/-- A store starts: every RWS object is captured (R409). -/
def State.startStore (s : State) : State :=
  let set := s.captureSet
  let s := s.storeRecords
  let x := { s.storage with phase := 1, captured := set, firstPart := 0, parts := 0, storeDone := false }
  (s.setStorage x.writeParts).put 0xF010 2 0 1

/-- A store or restore runs. -/
def State.storing (s : State) : Bool := decide (s.storage.phase ≠ 0)

/-- STORE: 0xF010.01 := 0x5354_4F52 (R398, R409). -/
def execStore (t : Tick) (src : Nat) (key : Nat) (s : State) : Host.Outcome State Fault Refusal :=
  s.live t fun s => s.dict (.store t (nodeOf src) key) src 2 false fun s =>
    if key ≠ 0x53544F52 ∨ s.storing then s.result 0x23 else s.startStore.result 0

/-- A store ends with a result (0xF010.02). -/
def State.endStore (s : State) (result : Nat) : State :=
  (s.setStorage { s.storage with phase := 0, captured := {}, firstPart := 0, parts := 0, storeDone := decide (result = 0) }).put
    0xF010 2 0 result

/-- The completion of a store is accepted by the chip arbiter (R409). -/
def State.storeAccepted (s : State) : State := if s.storage.phase = 3 then s.endStore 0 else s

/-- The head sector is retired, and the head moves to a fresh sector (R411). -/
def Storage.retireHead (x : Storage) : Storage :=
  match x.used.getLast? with
  | some h =>
    let y := { x with retired := h.number :: x.retired }
    y.openSector.getD y
  | none => x

/-- The record at the head fails its read-back: its sector is retired (R411). -/
def Storage.failHead (x : Storage) : Storage :=
  let y := { x with used := match x.used.reverse with
    | h :: older =>
      (({ h with records := match h.records.reverse with
          | r :: rest => (({ r with damaged := true } : FlashRec) :: rest).reverse
          | [] => [] } : Sector) :: older).reverse
    | [] => [] }
  y.retireHead

/-- A record is appended; one that fails its first read-back is written again in a fresh sector (R411). -/
def Storage.appendChecked (x : Storage) (b : RecBody) (rewritten : Bool) : Option Storage :=
  match x.append b with
  | some y => if rewritten then y.failHead.append b else some y
  | none => none

/-- STORE_COMPLETE (R409, R411): the commit mark is written and read back, in a fresh sector where its first read-back failed, and
the completion is offered to the chip arbiter at the storage controller's input (R474). -/
def execStoreComplete (rewritten : At Bool) (s : State) : Host.Outcome State Fault Refusal :=
  s.live rewritten.time fun s =>
    let x := s.storage.writeParts
    if x.phase = 1 ∧ x.parts ≠ 0 then
      match x.appendChecked (.commit x.firstPart x.parts x.captured false) rewritten.brings with
      | some y =>
        let s := if rewritten.brings then s.raise (ev 0x9104 0) else s
        (s.setStorage { y with phase := 3 }).place 10 (.completion false) State.storeAccepted
      | none => s
    else s

/-- The void line of the newest commit mark is programmed: its set is incomplete (R410). -/
def Storage.voidNewest (x : Storage) : Storage :=
  match (x.valid.filter fun r => match r.body with
      | .commit _ _ _ _ => true
      | _ => false).getLast? with
  | some c =>
    { x with used := x.used.map fun u =>
        { u with records := u.records.map fun q =>
            match q.body with
            | .commit a n set _ => if q.seq = c.seq then { q with body := .commit a n set true } else q
            | _ => q } }
  | none => x

/-- STORE_ABORT: 0xF010.03 := 1 (R389, R410). Before the commit mark is known to be written, whether it was already being programmed is
free: then it stands with its void line programmed. While its completion waits for the chip arbiter, the abort still wins. -/
def execStoreAbort (t : Tick) (src : Nat) (value : Nat) (s : State) : Host.Outcome State Fault Refusal :=
  s.live t fun s => s.dict (.storeAbort t (nodeOf src) value) src 2 false fun s =>
    if value ≠ 1 then s.result 0x23
    else if s.storage.phase = 1 then
      let (b, s) := s.draw 1
      let x := s.storage
      let y := if b = 1 ∧ x.parts ≠ 0 then (x.append (.commit x.firstPart x.parts x.captured true)).getD x else x
      ((s.setStorage y).endStore 3).result 0
    else if s.storage.phase = 3 then ((s.setStorage s.storage.voidNewest).endStore 3).result 0
    else if s.storage.storeDone then s.result 2
    else s.result 0x23

/-- STORE_FAILED (R411): a record failed its read-back twice, or the set finds no room. -/
def execStoreFailed (t : Tick) (s : State) : Host.Outcome State Fault Refusal :=
  s.live t fun s =>
    let x := s.storage.writeParts
    if s.storage.phase = 1 then
      let s := if x.parts = 0 then s
        else ((((s.setStorage x.retireHead).raise (ev 0x9104 0)).setStorage x.retireHead.retireHead).raise (ev 0x9104 0))
      (s.raise (ev 0x9203 0)).endStore 2
    else s

/-! ### Restores (R399, R435, R473) -/

/-- The oldest settings format that the running image reads (R435). -/
def Storage.oldest (x : Storage) : Nat :=
  match (x.slot x.running).2 with
  | some i => i.oldest
  | none => 0

/-- The set that the running image starts from: the newest in a format that it reads (R435). -/
def Storage.inForce (x : Storage) : Option StoredSet :=
  x.sets.find? fun y => decide (x.oldest ≤ y.format ∧ y.format ≤ x.format)

/-- RESTORE_STORED: 0xF011.01 := 0x4C4F_4144. The call carries the flash lines that failed their check while it read (R402). -/
def execRestoreStored (t : Tick) (src : Nat) (call : RestoreCall) (s : State) :
    Host.Outcome State Fault Refusal :=
  s.live t fun s => s.dict (.restoreStored t (nodeOf src) call) src 2 false fun s =>
    if call.key ≠ 0x4C4F4144 ∨ s.storing then s.result 0x23
    else if (List.range 64).any fun g => decide ((s.group g).state ≠ .stopped) then (s.put 0xF011 3 0 1).result 0x23
    else
      let s := s.readFlash call.flashReads
      let (s, kept) := s.applySet ((s.storage.inForce.map fun y => y.set).getD { factory := true })
      ((s.put 0xF011 3 0 (if kept = 0 then 0 else 2)).put 0xF011 4 0 (min kept 65535 : Nat)).result 0

/-- RESTORE_FACTORY: 0xF011.02 := 0x4641_4354: a factory marker (R408). -/
def execRestoreFactory (t : Tick) (src : Nat) (key : Nat) (s : State) : Host.Outcome State Fault Refusal :=
  s.live t fun s => s.dict (.restoreFactory t (nodeOf src) key) src 2 false fun s =>
    if key ≠ 0x46414354 ∨ s.storing then s.result 0x23
    else
      let s := s.appendRecord (.commit s.storage.nextSeq 0 { factory := true } false)
      ((s.put 0xF011 3 0 0).put 0xF011 4 0 0).result 0

/-! ### Compaction (R412, R436) -/

/-- Kind and instance of the records of which the newest is in force (R407); none for parts and marks. -/
def RecBody.key : RecBody → Option (Nat × Nat)
  | .battery n _ => some (0x10, n)
  | .runTime _ => some (0x11, 0)
  | .startCount _ _ => some (0x12, 0)
  | .lastGasp _ => some (0x20, 0)
  | .slot n _ _ => some (0x30, n)
  | _ => none

/-- A record is the newest of its kind and instance among those that a function takes. -/
def newestOfKind (rs : List FlashRec) (take : FlashRec → Bool) (r : FlashRec) : Bool :=
  r.body.key.isSome && take r &&
    match (rs.filter fun q => take q && decide (q.body.key = r.body.key)).getLast? with
    | some q => decide (q.seq = r.seq)
    | none => false

/-- A record is a part or the commit mark of a set. -/
def FlashRec.inSet (r : FlashRec) (y : StoredSet) : Bool :=
  match r.body with
  | .part n => decide (n < y.count) && decide (r.origin = (y.setSeq + n) % 0x100000000)
  | .commit setSeq _ _ voided => decide (setSeq = y.setSeq) && !voided
  | _ => false

/-- The format of the CONFIRMED slot, which a fallback of the running TRIAL would read (R436). -/
def Storage.fallbackFormat (x : Storage) : Option Nat :=
  if (x.slot x.running).1 = 3 ∧ (x.slot (1 - x.running)).1 = 4 then (x.slot (1 - x.running)).2.map fun i => i.format else none

/-- The settings sets that compaction keeps. -/
def Storage.keptSets (x : Storage) : List StoredSet :=
  x.sets.take 2 ++
    match x.fallbackFormat with
    | some f => (x.sets.find? fun y => decide (y.format = f)).toList
    | none => []

/-- A record of a source sector that compaction copies. -/
def Storage.keeps (x : Storage) (r : FlashRec) : Bool :=
  !voidedBy x.records r &&
    (newestOfKind x.valid (fun _ => true) r || (x.keptSets.any fun y => r.inSet y) ||
      match x.fallbackFormat with
      | some f => newestOfKind x.valid (fun q => decide (q.format = f)) r
      | none => false)

/-- A copy keeps its type, format version and payload, and takes a new sequence. -/
def Storage.copyRec (x : Storage) (r : FlashRec) : Option Storage :=
  (x.append r.body).map fun y =>
    { y with used := y.used.map fun u =>
        { u with records := u.records.map fun q =>
            if q.seq = x.nextSeq then { q with format := r.format, origin := r.origin } else q } }

def Storage.copyAll : Storage → List FlashRec → Option Storage
  | x, [] => some x
  | x, r :: rs =>
    match x.copyRec r with
    | some y => y.copyAll rs
    | none => none

/-- The sector that a step compacts: first one that needed a margin re-read, else the oldest; never the head. -/
def Storage.source (x : Storage) : Option Sector :=
  match x.used.dropLast.find? fun u => u.marginRead with
  | some u => some u
  | none => x.used.dropLast.head?

/-- A source sector is erased; a retired one is not used again. -/
def Storage.eraseSource (x : Storage) (n : Nat) : Storage :=
  { x with
    used := x.used.filter fun u => decide (u.number ≠ n)
    erased := if x.retired.contains n then x.erased else x.erased ++ [n]
    erases := bset x.erases n (bget 0 x.erases n + 1) }

/-- The marks and copies of a compaction step (R412): the start mark, the copies, and the commit mark. -/
def Storage.compactMarks (x : Storage) (u : Sector) (commit : Bool) : Option Storage :=
  match (x.append (.compactionStart u.number)).bind fun a => a.copyAll (u.records.filter x.keeps) with
  | some b => if commit then b.append (.compactionCommit x.nextSeq) else some b
  | none => none

/-- A compaction step up to its commit mark, or without it; the erase that follows the mark has begun. -/
def Storage.compactUpTo (x : Storage) (commit : Bool) : Option Storage :=
  match x.source with
  | some u => (x.compactMarks u commit).map fun y =>
      { y with used := y.used.map fun v => if v.number = u.number ∧ commit then { v with tornHeader := true } else v }
  | none => none

/-- One compaction step (R412). -/
def Storage.compact (x : Storage) : Option Storage :=
  match x.source with
  | some u => (x.compactMarks u true).map fun y => y.eraseSource u.number
  | none => none

/-- Compaction is called for (R412). -/
def Storage.compactionDue (x : Storage) : Bool :=
  decide (x.erased.length < 6) || (decide (x.phase = 1) && decide (x.parts = 0) && decide (x.writeParts.parts = 0))

/-- COMPACTION_STEP, with the flash lines that failed their check while it read (R402). -/
def execCompactionStep (flashReads : At (List (Nat × Bool))) (s : State) : Host.Outcome State Fault Refusal :=
  s.live flashReads.time fun s =>
    if s.storage.compactionDue then
      let s := s.readFlash flashReads.brings
      match s.storage.compact with
      | some x => (s.setStorage x.writeParts).bump 0x9020 3 0
      | none => s
    else s

/-! ### SRAM lines (R416 to R421) -/

/-- The memory classes of Table 17-5, in its order. -/
inductive MemClass where
  | code | coefficient | shadow | loopState | queue | capture | data
  deriving DecidableEq, Repr

/-- The class of a line (Table 17-5). -/
def memClass (line : Nat) : MemClass :=
  if line < 0xC000 then .code
  else if line < 0xC400 then .coefficient
  else if line < 0xC800 then .shadow
  else if line < 0xCC00 then .loopState
  else if line < 0xDC00 then .queue
  else if line < 0x15C00 then .capture
  else .data

/-- A failed line is good again: 0x9101 (R419). -/
def State.lineRepaired (s : State) (line : Nat) : State :=
  let s := s.setStorage { s.storage with badLines := s.storage.badLines.filter fun n => decide (n ≠ line) }
  (s.bump 0x9030 1 0).raise (ev 0x9101 0)

/-- A failed line stays failed (R419, R433). -/
def State.lineFailed (s : State) (line : Nat) : State :=
  let x := s.storage
  (s.setStorage { x with
    repairFailed := true, badLines := if x.badLines.contains line then x.badLines else line :: x.badLines }).bump 0x9030 2 0

/-- The context whose line of the coefficient, shadow or loop-state partition fails: four lines each (assumption 46). -/
def lineCtx (line : Nat) : Nat := line % 1024 / 4

/-- 0x2105 (R119): the context enters FAULT with its output frozen, and the cells that it feeds stop. -/
def State.ctxMemoryFault (s : State) (k : Nat) : State :=
  let s := s.raiseEngine 0x2105 k 0 0
  (s.setCtx k { s.ctx k with state := .fault, uHold := (s.ctx k).u, ready := none }).stopFed k

/-- A loop-state line is recomputed: the next evaluation presets as after a release (R113, R114, R419). -/
def State.recompute (s : State) (k : Nat) : State :=
  s.setCtx k { s.ctx k with preset := true, uHold := (s.ctx k).u }

/-- The record that a queue line holds is dropped (R419); the queue is a ring of 2,048 places (assumption 46). -/
def State.dropQueued (s : State) (line : Nat) : State :=
  let place := (line - 0xCC00) / 2
  let j := s.journal
  match j.queue.find? fun q => decide (q.slot % 2048 = place) with
  | some q =>
    (s.bump 0x8010 5 0).setJournal { j with
      queue := j.queue.filter fun r => decide (r.slot ≠ q.slot)
      discarded := j.discarded + 1
      firstLost := if j.discarded = 0 then q.item.seq else j.firstLost
      lastLost := q.item.seq }
  | none => s

/-- The good data for a line exists (Table 17-6): a code line comes from the flash, with a margin re-read where it needs one. -/
def State.lineSource (s : State) (line : Nat) (source : LineRead) : State × Bool :=
  match memClass line with
  | .code => s.refetch source
  | .coefficient => (s, decide (source ≠ .failed) && !s.storage.badLines.contains (line + 1024))
  | .shadow => (s, decide (source ≠ .failed) && !s.storage.badLines.contains (line - 1024))
  | .loopState => (s, true)
  | _ => (s, false)

/-- What a failed repair does to the reader (Table 17-6). -/
def State.readerFault (s : State) (line : Nat) : State :=
  match memClass line with
  | .code => s.raise (ev 0x9102 0)
  | .coefficient =>
    match (s.ctx (lineCtx line)).state with
    | .disabled => s.raise (ev 0x9102 0)
    | .fault => s
    | _ => s.ctxMemoryFault (lineCtx line)
  | .queue => s.dropQueued line
  | .data => s.raise (ev 0x9102 0)
  | _ => s

/-- A line that fails its CRC is repaired by its class. -/
def State.repairLine (s : State) (line : Nat) (source : LineRead) : State × Bool :=
  let (s, good) := s.lineSource line source
  if good then
    let s := s.lineRepaired line
    (if memClass line = .loopState then s.recompute (lineCtx line) else s, true)
  else (s.lineFailed line, false)

/-! ### The memory arbiter of a line (R416, R420) -/

/-- The repair that holds a line now. -/
def State.holdOf (s : State) (line : Nat) : Option LineHold :=
  match s.storage.holds.find? fun p => decide (p.1 = line) with
  | some p => if s.now < p.2.until? then some p.2 else none
  | none => none

def State.setHold (s : State) (line : Nat) (h : LineHold) : State :=
  let live := s.storage.holds.filter fun p => decide (s.now < p.2.until?) && decide (p.1 ≠ line)
  s.setStorage { s.storage with holds := (line, h) :: live }

/-- A repair holds its line while it runs: at most 2 µs for a refetch and 8 SYS cycles for a recompute, else a free time. -/
def State.holdLine (s : State) (line : Nat) (good : Bool) : State :=
  let (d, s) := s.draw 16
  let span := match memClass line with
    | .code => min d (2 * usTicks)
    | .loopState => min d (8 * cycleTicks)
    | _ => d
  s.setHold line { until? := s.now + span, good }

/-- What a request gets: the line's data, or the bus error of a repair that failed; a write of the whole line makes it good
(R416, R420). -/
def State.serve (s : State) (line : Nat) (good : Bool) (r : MemRequest) : State :=
  match r with
  | .writeLine =>
    s.setStorage { s.storage with badLines := s.storage.badLines.filter fun n => decide (n ≠ line) }
  | _ => if good then s else s.readerFault line

/-- A request behind the repair of its line waits, and gets the same result; a write is applied after the repair. -/
def State.joinHold (s : State) (line : Nat) (h : LineHold) (r : MemRequest) : State :=
  (s.setHold line { h with good := h.good || decide (r = .writeLine), waiting := h.waiting ++ [r] }).serve line h.good r

/-- SRAM_REPAIR (R419, R420): a request meets a line whose CRC fails, or one that a repair holds. -/
def execSramRepair (t : Tick) (line : Nat) (call : LineCall) (s : State) : Host.Outcome State Fault Refusal :=
  if 196608 ≤ line then .fault .noSuchSramLine
  else
    s.live t fun s =>
      match s.holdOf line with
      | some h => s.joinHold line h call.request
      | none =>
        if call.request = .writeLine then s.serve line true call.request
        else
          let (s, ok) := s.repairLine line call.source
          (s.holdLine line ok).serve line ok call.request

/-- SCRUB_READ (R421): the next line in address order, through its memory arbiter; a line that stays failed has no reader to
fault. -/
def execScrubRead (t : Tick) (failed : Bool) (source : LineRead) (s : State) : Host.Outcome State Fault Refusal :=
  s.live t fun s =>
    let line := s.storage.scrub
    let s := s.setStorage { s.storage with scrub := (line + 1) % 196608 }
    match s.holdOf line with
    | some h => s.setHold line { h with waiting := h.waiting ++ [.read] }
    | none =>
      if failed || s.storage.badLines.contains line then
        let (s, ok) := s.repairLine line source
        s.holdLine line ok
      else s

end Sys2Proof.Machine
end

