-- ==== Sys2Proof/Machine/Firmware.lean ====
section
/-! DEFINITION. Firmware images and update (chapter 18): the install of an image, the slot states, trial and
confirmation. -/

namespace Sys2Proof.Machine

def State.setAccess (s : State) (x : Requests) : State := { s with access := x }

/-- A slot takes a state, written as a record (R431). -/
def State.setSlotState (s : State) (n st : Nat) (image : Option Image) : State := s.appendRecord (.slot n st image)

/-- The slot that does not run (R397). -/
def Storage.idle (x : Storage) : Nat := 1 - x.running

/-- The state of the running slot. -/
def Storage.runningState (x : Storage) : Nat := (x.slot x.running).1

/-! ### The header (Table 18-1) -/

/-- A little-endian field of a header. -/
def field (h : List Nat) (offset size : Nat) : Nat := leValue ((h.drop offset).take size)

/-- The image that a header describes. -/
def imageOf (h : List Nat) : Image :=
  { version := field h 12 4, build := field h 16 4, level := field h 10 2, length := field h 20 4, format := field h 24 2
    oldest := field h 26 2 }

/-- The checks of Table 18-1 in table order: the install result of the first that fails, or 0. -/
def headerCheck (h : List Nat) (length : Nat) : Nat :=
  let n := field h 20 4
  if h.take 4 ≠ [0x4B, 0x4D, 0x46, 0x57] ∨ field h 4 2 ≠ 1 then 3
  else if field h 6 2 ≠ 0x8128 then 5
  else if !(field h 8 2).testBit (Config.hardwareRevision % 16) then 6
  else if n < 512 ∨ 1572864 < n ∨ n % 32 ≠ 0 ∨ n ≠ length ∨ field h 24 2 < field h 26 2 then 7
  else if ((h.drop 28).take 156).any fun o => decide (o ≠ 0) then 8
  else if field h 188 4 ≠ crc32 (h.take 188) then 4
  else 0

/-! ### Transfers that this chip receives (R379) -/

/-- The response to a request is sent and kept (R376). -/
def State.respond (s : State) (node sequence : Nat) (r : Response) : State :=
  let a := s.access
  let old := bget ([] : List (Nat × Response)) a.kept node
  s.setAccess { a with
    lastResponse := some (node, sequence, r)
    kept := bset a.kept node (((sequence, r) :: old.filter fun p => decide (p.1 ≠ sequence)).take 16) }

/-- The response of a request with one entry. -/
def oneResult (code : Nat) : Response := { overall := code, entries := [(code, [])] }

/-- A transfer abort is sent (R379). -/
def State.sendAbort (s : State) (node sequence code : Nat) : State :=
  s.setAccess { s.access with lastAbort := some (node, sequence, code) }

/-- A transfer ends. -/
def State.dropTransfer (s : State) (node sequence : Nat) : State :=
  s.setAccess { s.access with
    transfers := s.access.transfers.filter fun x => !(decide (x.node = node) && decide (x.sequence = sequence)) }

/-! ### The install (R425 to R430) -/

/-- An install ends with its result; its slot has the state it has. -/
def State.closeInstall (s : State) (result : Nat) : State :=
  let x := s.storage
  ((s.put 0x9010 2 0 result).setStorage { x with
    install := false, installWritten := false, installImage := none, installDone := decide (result = 2) }).dropTransfer
      x.installSrc x.installSeq

/-- An install ends with its result and the slot's state. -/
def State.endInstall (s : State) (result slotState : Nat) : State :=
  let x := s.storage
  (s.setSlotState x.idle slotState (if slotState = 0 then none else x.installImage)).closeInstall result

/-- A segmented write of 0x9010.01 whose first 256 octets have arrived (R425 to R427). -/
def State.beginInstall (s : State) (src sequence length : Nat) (header : List Nat) : State :=
  let x := s.storage
  if length ≤ 1000 ∨ 1572864 < length then s.result 0x13
  else if x.install ∨ x.runningState = 3 ∨ s.cfg 0x8007 1 0 = 1 then s.result 0x23
  else
    match headerCheck header length with
    | 0 =>
      let s := s.setSlotState x.idle 1 (some (imageOf header))
      let s := s.setStorage ((s.storage.eraseSlot x.idle).programSlot x.idle 0 (header.take 256))
      let s := s.setStorage { s.storage with
        install := true, installWritten := false, installSrc := src, installSeq := sequence, installImage := some (imageOf header), installDone := false }
      let s := s.setAccess { s.access with
        transfers := { node := src, sequence := sequence, write := true, addr := ⟨0x9010, 1, 0⟩, length := length, next := 256
                       sent := 0, data := [], resends := 0, lastAt := s.now } :: s.access.transfers }
      ((s.put 0x9010 2 0 1).put 0x9010 3 0 256).result 0
    | code => (((s.sendAbort src sequence 0x23).put 0x9010 2 0 code).raise { ev 0x9301 0 with value := code }).result 0x23

/-- IMAGE_TRANSFER: a write of 0x9010.01 with the header of its image (R425). -/
def execImageTransfer (t : Tick) (src : Nat) (sequence length : Nat) (header : List Nat) (s : State) :
    Host.Outcome State Fault Refusal :=
  s.boot t src fun s =>
    s.dict (.imageTransfer t (nodeOf src) sequence length header) src 2 false fun s => s.beginInstall src sequence length header

/-- The install's transfer has received its last octet. -/
def State.imageComplete (s : State) : Bool :=
  let x := s.storage
  x.install && s.access.transfers.any fun y =>
    decide (y.node = x.installSrc) && decide (y.sequence = x.installSeq) && decide (y.next = y.length)

/-- The completion of an install is accepted by the chip arbiter (R427). -/
def State.installAccepted (s : State) : State :=
  let x := s.storage
  if x.install && x.installWritten then (s.closeInstall 2).respond x.installSrc x.installSeq (oneResult 0) else s

/-- The payload of the image in the idle slot reads, and its CRC is right (R402, R427). -/
def State.installCrcGood (s : State) (flashReads : List (Nat × Bool)) : Bool :=
  !(flashReads.any fun p => !p.2 && decide (p.1 / 49152 = s.storage.idle)) &&
    s.storage.payloadGood s.storage.idle ((s.storage.installImage.map fun i => i.length).getD 0)

/-- INSTALL_COMPLETE (R427): the payload CRC, then the signature; the WRITTEN record, and the completion at the storage controller's
input of the chip arbiter (R474). It carries the flash lines that failed their check while it read the payload (R402). -/
def execInstallComplete (t : Tick) (flashReads : List (Nat × Bool)) (signatureGood : Bool) (s : State) : Host.Outcome State Fault Refusal :=
  s.boot t 0 fun s =>
    if s.imageComplete && !s.storage.installWritten then
      let s := s.readFlash flashReads
      let src := s.storage.installSrc
      let seq := s.storage.installSeq
      if s.installCrcGood flashReads && signatureGood then
        let s := s.setSlotState s.storage.idle 2 s.storage.installImage
        (s.setStorage { s.storage with installWritten := true }).place 10 (.completion true) State.installAccepted
      else
        let code := if s.installCrcGood flashReads then 12 else 9
        ((s.endInstall code 5).raise { ev 0x9301 0 with value := code }).respond src seq (oneResult 0x23)
    else s

/-- An install that runs is aborted (R429). -/
def State.abortInstall (s : State) : State := s.endInstall 10 0

/-- INSTALL_ABORT: 0x9010.04 := 1. -/
def execInstallAbort (t : Tick) (src : Nat) (value : Nat) (s : State) : Host.Outcome State Fault Refusal :=
  s.boot t src fun s => s.dict (.installAbort t (nodeOf src) value) src 2 false fun s =>
    if value ≠ 1 then s.result 0x23
    else if s.storage.install then
      ((s.sendAbort s.storage.installSrc s.storage.installSeq 0x50).abortInstall).result 0
    else if s.storage.installDone then s.result 2
    else s.result 0x23

/-- INSTALL_FLASH_WRITE_FAILED (R428). -/
def execInstallFlashWriteFailed (t : Tick) (s : State) : Host.Outcome State Fault Refusal :=
  s.boot t 0 fun s =>
    if s.storage.install && !s.storage.installWritten then
      ((s.sendAbort s.storage.installSrc s.storage.installSeq 0x50).endInstall 11 5).raise (ev 0x9104 0)
    else s

/-! ### Trial and confirmation (R433 to R438) -/

/-- The ring state as it reads (Table 15-9). -/
def State.ringCode (s : State) : Nat :=
  if !s.run.joined || !s.nodeValid then 0
  else if s.ring.isolated then 4
  else if s.ring.wrapped.isSome then 2
  else if s.ring.wrappedElsewhere then 3
  else 1

/-- Whether a self-check fails (Table 18-4). -/
def State.selfCheck (s : State) (bit : Nat) : Bool :=
  let x := s.storage
  match bit with
  | 0 => !x.sets.isEmpty && x.inForce.isNone
  | 1 => x.migrationOpen
  | 2 => decide (s.journal.store ≠ 1)
  | 3 => s.nodeValid && decide (s.ringCode = 0)
  | 4 =>
    decide (s.cfg 0x2011 2 0 = 1 ∨ s.cfg 0x2011 2 0 = 2) && (match s.twinState with
      | .negotiating | .syncing | .suspect | .detached | .excluded => true
      | _ => false)
  | 5 => s.inFault .chip
  | 6 => x.watchdogSeen
  | _ => x.repairFailed

/-- The migrated set is written as new records in the image's own format (R435). -/
def State.writeMigrated (s : State) : State :=
  let x := s.storage
  match x.migrationOpen, x.inForce with
  | true, some y =>
    match x.appendAll ((List.range y.set.parts).map RecBody.part) with
    | some a =>
      match a.append (.commit x.nextSeq y.set.parts y.set false) with
      | some b => s.setStorage { b with migrationOpen := false }
      | none => s
    | none => s
  | _, _ => s

/-- SELF_CHECK_EVALUATION (R433), every second. -/
def execSelfCheckEvaluation (t : Tick) (s : State) : Host.Outcome State Fault Refusal :=
  s.live t fun s =>
    let s := s.writeMigrated
    s.put 0x9011 3 0 (((List.range 8).filter s.selfCheck).foldl (fun n b => n + 2 ^ b) 0 : Nat)

/-- A confirmation can be taken by this chip: TRIAL with every self-check passed. -/
def State.confirmable (s : State) : Bool := decide (s.storage.runningState = 3) && decide (s.cfg 0x9011 3 0 = 0)

/-- The running slot becomes CONFIRMED (R433). -/
def State.confirm (s : State) : State :=
  let x := s.storage
  let s := s.setSlotState x.running 4 (x.slot x.running).2
  (s.setStorage { s.storage with trialAt := none }).raise (ev 0x9303 0)

/-- CONFIRM: 0x9011.01 := 0x434F_4E46. On an active with a partner the write is accepted where either chip can confirm
(R438): whether the partner can is free, since this chip does not hold it. -/
def execConfirm (t : Tick) (src : Nat) (key : Nat) (s : State) : Host.Outcome State Fault Refusal :=
  s.live t fun s => s.dict (.confirm t (nodeOf src) key) src 2 false fun s =>
    if key ≠ 0x434F4E46 then s.result 0x23
    else if s.confirmable then s.confirm.result 0
    else if s.twinState = .active then
      let (b, s) := s.draw 1
      if b = 1 then s.result 0 else s.result 0x23
    else s.result 0x23

/-- TRIAL_EXPIRY (R434): the slot is rejected and the chip resets itself, by a forced swap where it is paired. -/
def execTrialExpiry (t : Tick) (s : State) : Host.Outcome State Fault Refusal :=
  s.live t fun s =>
    if s.storage.runningState = 3 ∧ s.since s.storage.trialAt (900 * secTicks) then
      let x := s.storage
      let s := s.setSlotState x.running 5 (x.slot x.running).2
      let s := (s.setStorage { s.storage with trialAt := none }).setAlways { s.always with trialExpired := true }
      if s.twinState = .active ∧ s.partnerInStep then
        let s := s.setTwin { s.twin with resetAfter := some (10, 0x9302) }
        if s.twin.handover.isSome then s else s.propose 2
      else s.enterReset 10 0x9302
    else s

/-! ### The boot slot (R431) -/

/-- A slot that changes state at a start, with the event that it journals once the journal runs. -/
structure BootChoice where
  storage : Storage
  events : List Event
  deriving DecidableEq, Repr

def BootChoice.toSlot (p : BootChoice) (n st : Nat) (e : List Event) : BootChoice :=
  { storage := (p.storage.append (.slot n st (if st = 0 then none else (p.storage.slot n).2))).getD p.storage
    events := p.events ++ e }

/-- Slots found in TRIAL are rejected, a slot found WRITING becomes EMPTY, and a WRITTEN slot that fails its check is rejected
(R430, R431). -/
def BootChoice.settle (p : BootChoice) (n : Nat) (good : Bool) : BootChoice :=
  match (p.storage.slot n).1 with
  | 3 => p.toSlot n 5 [ev 0x9302 0]
  | 1 => p.toSlot n 0 []
  | 2 => if good then p else p.toSlot n 5 [ev 0x9301 0]
  | _ => p

/-- The sequence of a slot's newest state record. -/
def Storage.slotSeq (x : Storage) (n : Nat) : Nat :=
  (x.newest fun r =>
    match r.body with
    | .slot m _ _ => if m = n then some r.seq else none
    | _ => none).getD 0

/-- The slot to boot of those that are CONFIRMED: the newest, or the other where it fails its check. -/
def BootChoice.confirmed (p : BootChoice) (good : Nat → Bool) : BootChoice × Option Nat :=
  let a := decide ((p.storage.slot 0).1 = 4)
  let b := decide ((p.storage.slot 1).1 = 4)
  let order := if a && b then (if seqBefore (p.storage.slotSeq 0) (p.storage.slotSeq 1) then [1, 0] else [0, 1])
    else if a then [0] else if b then [1] else []
  order.foldl (fun q n =>
    match q.2 with
    | some _ => q
    | none => if good n then (q.1, some n) else (q.1.toSlot n 5 [], none)) (p, none)

/-- The choice of the boot slot: a WRITTEN slot boots as TRIAL, else a CONFIRMED one; none is recovery mode. -/
def Storage.chooseBoot (x : Storage) (good : Nat → Bool) : BootChoice × Option Nat :=
  let p := ((BootChoice.mk x []).settle 0 (good 0)).settle 1 (good 1)
  if (p.storage.slot 0).1 = 2 then (p.toSlot 0 3 [], some 0)
  else if (p.storage.slot 1).1 = 2 then (p.toSlot 1 3 [], some 1)
  else p.confirmed good

end Sys2Proof.Machine
end

