-- ==== Sys2Proof/Machine/TwinOps.lean ====
section
/-! DEFINITION. The twin side of the chip (chapter 14): the samples that both chips run on, the sideband, the tokens and
their handovers, and the decisions after a divergence. -/

namespace Sys2Proof.Machine

/-! ### Converted values (R335, R340) -/

/-- The number of a shared input in 0x1200.10 and data word 3 of 0x8104 (assumption 48), and whether two conversions of one
aperture differ by more than 2 % of full scale (R340); `none` for an input that is no converter. -/
def State.compareSamples (_s : State) : Sample → Sample → Option (Nat × Bool)
  | .volt v a, .volt w b => if v = w then some (0x80 + v, decide (328 < ((a : Int) - b).natAbs)) else none
  | .isns f a, .isns g b => if f = g then some (0xB0 + f, decide (82 < ((a : Int) - b).natAbs)) else none
  | .vds f a, .vds g b => if f = g then some (0xC8 + f, decide (82 < ((a : Int) - b).natAbs)) else none
  | .gsns f a, .gsns g b => if f = g then some (0x100 + f, decide (82 < ((a : Int) - b).natAbs)) else none
  | .acs p a, .acs q b =>
    if p = q then some (0xE0 + p, decide (82 < (a - b).natAbs)) else none
  | .cellAdc c a, .cellAdc d b => if c = d then some (c, decide (82 < ((a : Int) - b).natAbs)) else none
  | .tin i (.ntc a), .tin j (.ntc b) => if i = j then some (0x120 + i, decide (20000 < ((a : Int) - b).natAbs)) else none
  | .tin i (.diode a v), .tin j (.diode b w) =>
    if i = j then some (0x120 + i, decide (66000 < ((a : Int) - b).natAbs ∨ 66000 < ((v : Int) - w).natAbs)) else none
  | .vdrv b v, .vdrv c w => if b = c then some (0x150 + b, decide (24 < ((v : Int) - w).natAbs)) else none
  | _, _ => none

/-! ### Sideband and roles (Table 14-1, Table 14-2) -/

/-- KS6: 1 prefer active, 2 prefer standby, 0 none or invalid. -/
def State.preference (s : State) : Nat := if s.strapBad [6] then 0 else s.nat 0x2011 2 0

/-- What the partner reports, 0xFF unknown. -/
def State.putPartner (s : State) (st : Nat) : State := s.put 0x1200 2 0 st

/-- TOKEN_STATE(out) goes high; the chip drives 100 µs later (R332). -/
def State.raiseToken (s : State) : State :=
  s.setTwin { s.twin with tokenOut := true, raisedAt := some s.now, tokenChecked := false }

/-- The chip is EXCLUDED with 0x8106; a candidate tries again (R332, R333). -/
def State.exclude (s : State) (retry : Bool) : State :=
  let s := s.raise (ev 0x8106 0)
  { s with twinState := .excluded }.setTwin { s.twin with
    tokenOut := false, raisedAt := none, tryAt := if retry then some s.now else none }

/-- A candidate begins to join its active partner: the link trains (R333). -/
def State.trainLink (s : State) : State :=
  let s := if s.cfg 0x1200 3 0 = 2 then s else s.put 0x1200 3 0 1
  { s with twinState := .syncing }.setTwin { s.twin with
    joined := false, agreed := 0, tryAt := some s.now, heartbeatAt := s.now, silentAt := none, idleSince := none }

/-- The chip is in factory test mode, or may still enter it: it negotiates no twin (R326). -/
def State.testing (s : State) : Bool := decide (s.cfg 0x8007 1 0 = 1) || s.run.testWait

/-- The partner is active already (R332, step 2). -/
def State.joinActive (s : State) : State :=
  if s.preference = 1 ∨ s.preference = 2 then s.trainLink else s.exclude false

/-- Negotiation meets a partner that holds TOKEN_STATE high. -/
def State.negotiate (s : State) : State :=
  if s.run.started ∧ ¬ s.testing ∧ s.twinState = .negotiating ∧ s.twin.presence ∧ s.twin.tokenIn then s.joinActive else s

/-- The levels that the chip sees at TWIN_PRES_N(in) and TOKEN_STATE(in). -/
def State.seePins (s : State) (present tokenHigh : Bool) : State :=
  s.setTwin { s.twin with presence := present, tokenIn := tokenHigh }

/-- The election wait of a chip from its preference and node ID; `none` where it never ends (R332, step 3). -/
def State.electionWait (s : State) : Option Nat :=
  if s.testing then none
  else if s.preference = 1 then some (10 * s.nat 0x2011 1 0 * usTicks)
  else if s.preference = 2 then some (10 * msTicks + 10 * s.nat 0x2011 1 0 * usTicks)
  else none

/-- The resets of the partner within the past hour (R353). -/
def State.recentResets (s : State) : List Tick := s.twin.resets.filter fun a => decide (s.now < a + 3600 * secTicks)

/-- PARTNER_RST_OUT_N goes low after a loud failure or at a takeover, held once too many fall into an hour (R353). -/
def State.assertReset (s : State) : State :=
  let rs := s.now :: s.recentResets
  (s.setTwin { s.twin with
    resets := rs, resetLow := some s.now, resetHeld := s.twin.resetHeld || decide (s.nat 0x1210 2 0 < rs.length)
    presence := false, tokenIn := false }).putPartner 0xFF

/-! ### Tokens (R342, R343, R456) -/

/-- The chip takes or gives the nets of GATE, EN and BRIDGE_HOLD. -/
def State.setDriving (s : State) (v : Bool) (from? : Tick) : State :=
  s.setRun { s.run with driving := v, drivenFrom := from? }

/-- Every token that the chip does not hold is taken at once, at the boundary `tb`: its pins are driven low from 250 ns later on
(R343). -/
def State.takeAll (s : State) (tb : Tick) : State :=
  let f := tb + nsTicks 250
  let new := (List.range 128).filter fun c => !s.token c
  let s := s.setTwin { s.twin with pinAt := new.foldl (fun b c => bset b c (f, true)) s.twin.pinAt }
  let s := if s.run.driving then s else s.setDriving true f
  s.setTokens true

/-- Every token is given up, and every pin released, at once. -/
def State.giveAll (s : State) : State :=
  ((s.setTokens false).setDriving false s.now).setTwin { s.twin with pinAt := [] }

/-- A handover has ended: its cause, its duration in steps, and the count of Table 14-6. -/
def State.countHandover (s : State) (cause steps : Nat) : State :=
  ((s.bump 0x1200 0xD 0).put 0x1200 0xE 0 cause).put 0x1200 0xF 0 ((steps * 5 / 128 : Nat) : Int)

/-- A standby becomes ACTIVE UNPAIRED by a takeover of the nets (R346, R347): the right to drive comes with the tokens. -/
def State.takeover (s : State) (cause : Nat) : State :=
  let s := (s.raise (ev 0x8202 0)).assertReset.takeAll s.now
  let s := s.setTwin { s.twin with
    tokenOut := true, raisedAt := none, tokenChecked := true, handover := none, silentAt := none, idleSince := none }
  let s := ({ s with twinState := .activeUnpaired }.bump 0x1200 0xC 0).put 0x1200 0xE 0 cause
  s.put 0x1200 0xF 0 250

/-- The drill period in µs, and the next drill one period after an FT (R356). -/
def State.drillPeriod (s : State) : Nat := s.nat 0x1230 2 0 * 3600000000
def State.scheduleDrill (s : State) (from? : Int) : State :=
  (s.put 0x1230 6 0 ((from? + s.drillPeriod) % 0x1000000000000)).setTwin { s.twin with drillSince := none }

/-- When the pins of a cell that moves at H_c change hands, and whether they then stay low: the giver releases them 10 ns later and
the receiver drives them 50 ns later (R342), or at once and 250 ns later in the way of a hard handover (R343). -/
def handTime (giving hard : Bool) (at? : Tick) : Tick × Bool :=
  (at? + nsTicks (if hard then (if giving then 0 else 250) else if giving then 10 else 50), hard && !giving)

/-- Cells move to the other chip, or to this one (R342). -/
def State.moveCells (s : State) (h : Handover) (cs : List Nat) (at? : Tick) (hard : Bool) : State :=
  let s := cs.foldl (fun s c => s.put 0x5005 1 c (if h.giving then 0 else 1)) s
  let s := s.setTwin { s.twin with pinAt := cs.foldl (fun b c => bset b c (handTime h.giving hard at?)) s.twin.pinAt }
  let n := h.moved.length + cs.length
  let s := s.put 0x1200 0xA 0 ((if h.giving then 128 - n else n : Nat) : Int)
  s.setTwin { s.twin with
    handover := some { h with moved := cs ++ h.moved, movedAt := if cs.isEmpty then h.movedAt else at? } }

/-- A cell that moves at T_h itself: in IDLE, HOLD, FAULT or a skipped period (R342). -/
def State.movesAtOnce (s : State) (c : Nat) : Bool :=
  let x := s.cell c
  match x.state with
  | .idle | .hold | .fault => true
  | _ => x.skipped

/-- An ordered handover of the GATE nets is put off: a channel is in INRUSH, or the selector transfers (R215). -/
def State.mustDefer (s : State) : Bool :=
  s.selector.transfer.isSome || (List.range 24).any fun f => decide ((s.feed f).state = .inrush)

/-- An ordered handover that the active asked for does not come about (R342, R354): a yield stops the chip, a chip reset
resets it at once, a drill waits for its next anchor. -/
def State.refuseHandover (s : State) : State :=
  let s' := s.setTwin { s.twin with handover := none, resetAfter := none }
  match s.twin.handover with
  | some h =>
    if h.giving ∧ !h.begun ∧ !h.hard then
      match s.twin.resetAfter with
      | some (8, code) => s'.chipStop code
      | some (cause, word) => s'.enterReset cause word
      | none => s'
    else s
  | none => s

/-- A deferred handover goes ahead (R215). -/
def State.endDeferral (s : State) : State :=
  match s.twin.deferred with
  | some (_, cause) =>
    let s := s.setTwin { s.twin with deferred := none }
    if s.twinState = .active ∧ s.partnerInStep ∧ s.twin.handover.isNone then s.propose cause else s
  | none => s

/-- The yield of an active for pip 6 at a turn boundary (R321, R354). -/
def State.turnYield (s : State) : State :=
  let code := s.twin.yieldCode
  if code = 0 then s
  else
    let s := s.setTwin { s.twin with yieldCode := 0 }
    if s.twinState = .active ∧ s.partnerInStep then
      match s.twin.handover with
      | some h => s.setTwin { s.twin with handover := some { h with cause := 4 }, resetAfter := some (8, code) }
      | none =>
        let s := s.propose 4
        s.setTwin { s.twin with resetAfter := some (8, code) }
    else s.chipStop code

/-! ### Divergence (R351, R352) -/

/-- Whether a list of fault turns has one among the 8 turns before a turn and that turn. -/
def faultNear (turns : List Nat) (turn : Nat) : Bool := turns.any fun k => decide (k ≤ turn ∧ turn ≤ k + 8)

/-- The hard handover at T_b that follows a divergence, the second turn boundary after its detection. -/
def State.hardAfter (s : State) (detected : Nat) (giving : Bool) (back : Bool) : State :=
  let old := s.twin.handover
  let h : Handover :=
    { boundary := (detected + 2) * usTicks, cause := 5, giving := giving, hard := true, begun := false, back := back
      moved := (old.map fun h => h.moved).getD [], drill := (old.map fun h => h.drill).getD false }
  s.setTwin { s.twin with handover := some h }

/-- The standby has found a divergence in a turn (R351, R352). -/
def State.standbyDiverges (s : State) (turn : Nat) : State :=
  let activeOnly := faultNear s.twin.partnerFaults turn && !faultNear s.twin.ownFaults turn
  let s := (s.bump 0x1200 0xB 0).raise (ev 0x8103 0)
  let detected := s.now / usTicks
  if activeOnly then s.hardAfter detected false false
  else if s.twin.handover.isSome then
    let s := s.hardAfter detected true true
    s.setTwin { s.twin with resetAfter := some (9, 0x8103) }
  else s.enterReset 9 0x8103

/-- The active hears of a divergence that its partner has detected in a turn. -/
def State.activeDiverges (s : State) (detected : Nat) : State :=
  let turn := detected - 1
  let activeOnly := faultNear s.twin.ownFaults turn && !faultNear s.twin.partnerFaults turn
  if activeOnly then
    let s := s.hardAfter detected true false
    s.setTwin { s.twin with resetAfter := some (9, 0x8103) }
  else if s.twin.handover.isSome then s.hardAfter detected false true
  else s

/-- An ordered handover becomes hard, or a hard one is carried out, at its boundary (R343, R352). -/
def State.doHard (s : State) (h : Handover) : State :=
  let s := s.setTwin { s.twin with handover := none }
  if h.giving then
    let s := (s.giveAll.countHandover h.cause (nsTicks 250)).setTwin { s.twin with tokenOut := false }
    match s.twin.resetAfter with
    | some (cause, word) => s.enterReset cause word
    | none => s
  else
    let s := (s.takeAll h.boundary).countHandover h.cause (nsTicks 250)
    let s := (s.setTwin { s.twin with tokenOut := true, raisedAt := none, tokenChecked := true, resetAfter := none }).putPartner 0xFF
    let s := { s with twinState := .activeUnpaired }
    if h.drill then
      let s := s.put 0x1230 5 0 1
      if h.back then s.scheduleDrill s.freeTime |>.put 0x1230 7 0 2 else s.scheduleDrill s.freeTime
    else s

/-! ### The turn CRC (R336) -/

def CellState.requests (x : Cell) : Nat := (if x.parkRequest then 1 else 0) + (if x.addRequest then 2 else 0)

def GateDrive.code : GateDrive → Nat
  | .z => 0 | .zero => 1 | .ramp => 2 | .step => 3 | .full => 4 | .limiting => 5

def HoldPin.code : HoldPin → Nat
  | .z => 0 | .low => 1 | .square => 2

/-- The command words of the turn in the order of R336, each as 32 bits (assumption 49). -/
def State.commandWords (s : State) : List Int :=
  ((List.range 128).flatMap fun c =>
    let x := s.cell c
    ([x.base, x.period, x.offset, s.cfg 0x5012 1 c, CellState.requests x] : List Int)) ++
  ((List.range 24).flatMap fun f => ([(s.feed f).gate.code, s.cfg 0x6800 0xD f] : List Int)) ++
  ((List.range 64).map fun n => if (s.seq n).commanded && !(s.seq n).held then (1 : Int) else 0) ++
  (List.range 4).map fun n => ((bget .low s.bridge n).code : Int)

/-- The CRC-32 over the command words. -/
def State.turnCrc (s : State) : Nat := crc32 (s.commandWords.flatMap (leOctets 4))

/-- Objects of scope Local (R337, R394, Tables 16-3 to 16-6). -/
def localObject (index sub : Nat) : Bool :=
  decide (index < 0x2000) ||
    [0x2000, 0x2010, 0x2011, 0x3002, 0x3010, 0x5005, 0x8010, 0x8011, 0x8050, 0x8100, 0x8120, 0x8121, 0x8200, 0xF010, 0xF011,
      0xF060, 0xF070, 0xF080, 0xF081].contains index ||
    decide (index = 0x2420 ∧ sub = 2) || decide (index = 0x2700 ∧ sub = 4) || decide (0x8001 ≤ index ∧ index < 0x8008) ||
    decide (0x9000 ≤ index ∧ index < 0xA000)

end Sys2Proof.Machine
end

