-- ==== Sys2Proof/Machine/Twin.lean ====
section
/-! DEFINITION. The commands of twin operation (chapter 14): forming the pair, running in step, handovers, failures and the
swap drill. -/

namespace Sys2Proof.Machine

/-! ### Forming the pair (R332, R333) -/

/-- TWIN_PRESENCE_TIMEOUT: TWIN_PRES_N(in) has been high since a time; 10 ms of it from the strap point on make the chip ALONE. -/
def execTwinPresenceTimeout (highSince : At Tick) (s : State) : Host.Outcome State Fault Refusal :=
  s.live highSince.time fun s =>
    if s.run.started ∧ s.twinState = .negotiating ∧ highSince.brings + 10 * msTicks ≤ s.now ∧ s.run.strapAt + 10 * msTicks ≤ s.now then
      { s with twinState := .alone }.setTwin { s.twin with presence := false } |>.raiseToken
    else s

/-- TWIN_PRESENCE_FALL, with the level of TOKEN_STATE(in): the levels stand whatever the chip does; in negotiation the election
wait starts from the fall. -/
def execTwinPresenceFall (tokenHigh : At Bool) (s : State) : Host.Outcome State Fault Refusal :=
  (s.seePins true tokenHigh.brings).live tokenHigh.time fun s =>
    let s := if s.twinState = .negotiating then s.setTwin { s.twin with waitFrom := s.now } else s
    s.negotiate

/-- TOKEN_STATE_RISE (step 2). -/
def execTokenStateRise (t : Tick) (s : State) : Host.Outcome State Fault Refusal :=
  (s.setTwin { s.twin with tokenIn := true }).live t State.negotiate

/-- ELECTION_WAIT_END (step 3), with the levels of TWIN_PRES_N(in), low for present, and of TOKEN_STATE(in). -/
def execElectionWaitEnd (pins : At TwinPins) (s : State) : Host.Outcome State Fault Refusal :=
  s.live pins.time fun s =>
    let s := s.seePins pins.brings.present pins.brings.tokenHigh
    match s.electionWait with
    | some w =>
      if s.run.started ∧ s.twinState = .negotiating ∧ s.twin.presence ∧ ¬ s.twin.tokenIn ∧ s.twin.waitFrom + w ≤ s.now then
        { s with twinState := .activeUnpaired }.raiseToken
      else s
    | none => s

/-- TOKEN_COLLISION_CHECK (step 4), 2 µs after TOKEN_STATE(out) rose. -/
def execTokenCollisionCheck (t : Tick) (tokenIn : Bool) (s : State) : Host.Outcome State Fault Refusal :=
  s.live t fun s =>
    if s.twin.tokenOut ∧ ¬ s.twin.tokenChecked ∧ s.since s.twin.raisedAt (2 * usTicks) then
      let s := s.setTwin { s.twin with tokenChecked := true, tokenIn := tokenIn }
      if tokenIn then s.exclude false else s
    else s

/-- A channel adopts the state that the board left, and then receives its start state (R214). A LATCHED or WELDED one
stays: only a reset ends that state (R203). -/
def State.adoptFeed (s : State) (f : Nat) : State :=
  let s := s.judgeFeed f
  if (s.feed f).state = .latched ∨ (s.feed f).state = .welded then s.setFeed f { s.feed f with gate := .zero }
  else if s.feedUse f = 0 then s.toFeed f .off .zero
  else if s.goodConditions f then
    let s := s.toFeed f .on .full
    s.raise { ev 0x5502 f with stateCode := 2 }
  else if s.cfg 0x6800 0xA f ≤ s.vgs f then s.feedInrush f .ramp
  else
    let s := s.toFeed f .off .zero
    if s.cfg 0x6800 0x18 f = 1 then (if s.limitsOrdered f then s.feedInrush f .ramp else s) else s.feedOff f

/-- DRIVE_RIGHT_TAKEN (R332, R456): 100 µs after TOKEN_STATE(out) rose. The power-up programs run once the ring join is
past (R453, step 11). -/
def execDriveRightTaken (t : Tick) (samples : List Sample) (s : State) : Host.Outcome State Fault Refusal :=
  s.live t fun s =>
    if s.twin.tokenOut ∧ s.twin.tokenChecked ∧ s.isActive ∧ s.since s.twin.raisedAt (100 * usTicks) then
      let s := (s.applySamples samples).setDriving true s.now
      let s := s.setTwin { s.twin with raisedAt := none }
      let s := ((List.range 24).foldl State.adoptFeed s).startSelector.bridgesLow.setTokens true
      if s.run.ringReady ∧ ¬ s.run.programsRun then s.powerUpPrograms else s
    else s

/-- TWIN_IDENTITY_EXCHANGE (R333): the candidate joins or is EXCLUDED; the active notes its partner, and runs as ACTIVE UNPAIRED with
a candidate whose link did not come up too. The node IDs of a pair differ (R332). -/
def execTwinIdentityExchange (t : Tick) (linkUp : Bool) (partnerNode _partnerPreference partnerLevel : Nat) (s : State) :
    Host.Outcome State Fault Refusal :=
  s.live t fun s =>
    let note (s : State) (st : Nat) : State :=
      ((((s.put 0x1200 3 0 2).put 0x1200 4 0 0xFF).put 0x1200 7 0 partnerLevel).put 0x1200 8 0 partnerNode).putPartner st
    let fits := decide (partnerLevel = s.nat 0x1200 6 0) && decide (partnerNode ≠ s.nat 0x2011 1 0)
    if s.twinState = .syncing ∧ ¬ s.twin.joined then
      if linkUp then
        if fits then (note s 3).setTwin { s.twin with joined := true } else (note s 3).exclude true
      else if s.since s.twin.tryAt secTicks then (s.put 0x1200 3 0 0).exclude true
      else s
    else if s.isActive ∧ ¬ s.testing then
      if linkUp then { note s (if fits then 4 else 8) with twinState := .activeUnpaired }
      else if s.cfg 0x1200 3 0 = 2 then s
      else { s with twinState := .activeUnpaired }
    else s

/-- TWIN_JOIN_RETRY (R333): every 60 s, with the levels at the sideband inputs. -/
def execTwinJoinRetry (pins : At TwinPins) (s : State) : Host.Outcome State Fault Refusal :=
  s.live pins.time fun s =>
    let s := s.seePins pins.brings.present pins.brings.tokenHigh
    if s.twinState = .excluded ∧ s.twin.presence ∧ s.twin.tokenIn ∧ s.since s.twin.tryAt (60 * secTicks) then s.trainLink else s

/-! ### Factory test mode (R326) -/

/-- TEST_KEY: a valid key within 1 ms of the release, with TEST high. -/
def execTestKey (t : Tick) (valid : Bool) (s : State) : Host.Outcome State Fault Refusal :=
  s.live t fun s =>
    if s.run.testWait && valid && decide (s.now ≤ s.run.releasedAt + msTicks) then
      ((s.setRun { s.run with testWait := false }).put 0x8007 1 0 1).raise (ev 0x4708 0)
    else s

/-- TEST_KEY_TIMEOUT: TEST high and no key in time; normal mode, and negotiation goes on. -/
def execTestKeyTimeout (t : Tick) (s : State) : Host.Outcome State Fault Refusal :=
  s.live t fun s =>
    if s.run.testWait && decide (s.run.releasedAt + msTicks ≤ s.now) then
      ((s.setRun { s.run with testWait := false }).raise (ev 0x4707 0)).negotiate
    else s

/-! ### Running in step (R335 to R340) -/

/-- One comparison of an input (R340). -/
def State.judgeInput (s : State) (input : Nat) (outside : Bool) : State :=
  let n := if outside then bget 0 s.twin.outOfWindow input + 1 else 0
  let s := s.setTwin { s.twin with
    outOfWindow := bset s.twin.outOfWindow input n
    insideSince := if outside then s.now else s.twin.insideSince }
  if s.twinState = .inStep ∧ n = 16 then
    { (s.put 0x1200 0x10 0 input).raise { ev 0x8104 0 with second := input } with twinState := .suspect }
  else s

/-- TWIN_SAMPLE_RECEIVE: the standby runs on the active's conversion and compares it with its own. -/
def execTwinSampleReceive (t : Tick) (received own : Sample) (s : State) : Host.Outcome State Fault Refusal :=
  s.live t fun s =>
    if s.standby ∧ s.twinState ≠ .detached ∧ s.cfg 0x1200 3 0 = 2 then
      let s := s.applySample received
      match s.compareSamples received own with
      | some (input, outside) => s.judgeInput input outside
      | none => s
    else s

/-- PLAUSIBILITY_RESTORED (R340): 10 s inside every window. The active hears it as the partner's new state. -/
def execPlausibilityRestored (t : Tick) (s : State) : Host.Outcome State Fault Refusal :=
  s.live t fun s =>
    if s.twin.insideSince + 10 * secTicks ≤ s.now then
      if s.twinState = .suspect then { s with twinState := .inStep }
      else if s.twinState = .active ∧ s.cfg 0x1200 2 0 = 6 then s.putPartner 5
      else s
    else s

/-- TURN_CRC_COMPARE (R336, R351), within 1 µs of the end of the turn. -/
def execTurnCrcCompare (t : Tick) (partnerCrc : Nat) (s : State) : Host.Outcome State Fault Refusal :=
  s.live t fun s =>
    if s.standby ∧ s.twin.joined then
      if partnerCrc = s.twin.crc then s.setTwin { s.twin with agreed := s.twin.agreed + 1 }
      else
        let s := s.setTwin { s.twin with agreed := 0 }
        if s.twinState = .inStep ∨ s.twinState = .suspect then s.standbyDiverges (s.now / usTicks - 1) else s
    else s

/-- HEARTBEAT (R336). -/
def execHeartbeat (t : Tick) (turn : Nat) (s : State) : Host.Outcome State Fault Refusal :=
  s.live t fun s =>
    if s.standby then
      s.setTwin { s.twin with heartbeatAt := s.now, heartbeatTurn := turn, silentAt := none, idleSince := none }
    else s

/-- PARTNER_EVENT_RECEIVE (R338): the record enters the mirror, and what it tells of the partner is noted. -/
def execPartnerEventReceive (t : Tick) (record : List Nat) (s : State) : Host.Outcome State Fault Refusal :=
  s.live t fun s =>
    if s.cfg 0x1200 3 0 = 2 ∧ record.length = 64 then
      let code := leValue ((record.drop 2).take 2)
      let ft := leValue ((record.drop 16).take 8) / 65536
      let turn := ((ft : Int) - s.freeBase).toNat
      let i := s.twin.mirrorNext
      let s := (s.setTwin { s.twin with
        mirror := bset s.twin.mirror i record, mirrorNext := (i + 1) % 1024
        partnerFaults := if weighed code then (turn :: s.twin.partnerFaults).take 32 else s.twin.partnerFaults }).put 0x8121 1 0 i
      if s.twinState = .active ∧ code = 0x8104 then
        let s := (s.setTwin { s.twin with insideSince := s.now }).putPartner 6
        match s.twin.handover with
        | some h => if turn + 4 < h.boundary / usTicks then s.refuseHandover else s
        | none => s
      else if s.isActive ∧ code = 0x8205 then { s with twinState := .active }.putPartner 5
      else if s.twinState = .active ∧ code = 0x8103 then s.activeDiverges turn
      else s
    else s

/-- The dictionary contents that synchronisation brings (R339). -/
def State.loadContents (s : State) (es : List Entry) : State :=
  es.foldl (fun s e => if localObject e.index e.sub then s else s.put e.index e.sub e.inst e.value) s

/-- A fault state that a lockstep function sets (R335). -/
def Elem.inLockstep : Elem → Bool
  | .chip => false
  | .service n => decide (n = 0)
  | _ => true

/-- The lockstep state that synchronisation brings (R339), and the authority that the active has granted (R383). -/
def State.loadLockstep (s : State) (x : Lockstep) : State :=
  { s with
    cells := x.cells, ctxs := x.ctxs, groups := x.groups, pools := x.pools, bridge := x.bridge, feeds := x.feeds
    selector := x.selector, seqs := x.seqs, progSlots := x.progSlots, mains := x.mains, frame := x.frame, loadMap := x.loadMap
    moves := x.moves, strings := x.strings, tables := x.tables, tableClass := x.tableClass, temps := x.temps, sinks := x.sinks
    drivers := x.drivers, auth := x.auth
    faults := (x.faults.filter fun p => p.1.inLockstep) ++ s.faults.filter fun p => !p.1.inLockstep }

/-- SYNCHRONISATION_COMPLETE (R339): the standby has the active's FT, contents and lockstep state, and is IN STEP. -/
def execSynchronisationComplete (t : Tick) (freeTime : Nat) (copy : MirrorCopy) (s : State) :
    Host.Outcome State Fault Refusal :=
  s.live t fun s =>
    if s.twinState = .syncing ∧ s.twin.joined ∧ 1000 ≤ s.twin.agreed then
      let s := { (s.loadContents copy.entries).loadLockstep copy.lockstep with
        freeBase := (freeTime : Int) - (s.now / usTicks : Nat), twinState := .inStep }
      (s.setTwin { s.twin with insideSince := s.now, outOfWindow := [] }).raise (ev 0x8205 0)
    else s

/-- TWIN_LINK_DOWN (R335, R349). -/
def execTwinLinkDown (t : Tick) (s : State) : Host.Outcome State Fault Refusal :=
  s.live t fun s =>
    if s.cfg 0x1200 3 0 = 0 then s
    else
      let up := decide (s.cfg 0x1200 3 0 = 2)
      let s := ((s.put 0x1200 3 0 0).put 0x1200 4 0 0).putPartner 0xFF
      if up ∧ s.isActive then
        let s := { s.raise (ev 0x8101 0) with twinState := .activeUnpaired }
        let s := s.refuseHandover
        s.setTwin { s.twin with handover := none, deferred := none }
      else s

/-- TWIN_LINK_UP (R335): retrained, all lanes good. -/
def execTwinLinkUp (t : Tick) (s : State) : Host.Outcome State Fault Refusal :=
  s.live t fun s => (s.put 0x1200 3 0 2).put 0x1200 4 0 0xFF

/-! ### Handovers (R342, R343) -/

/-- HANDOVER_PROPOSAL: the standby accepts it if it is IN STEP. -/
def execHandoverProposal (t : Tick) (boundary : Tick) (cause : Nat) (s : State) : Host.Outcome State Fault Refusal :=
  s.live t fun s =>
    if s.twinState = .inStep ∧ s.twin.handover.isNone then
      s.setTwin { s.twin with
        handover := some { boundary, cause, giving := false, hard := false, begun := false, moved := [], drill := decide (cause = 3) } }
    else s

/-- HANDOVER_BOUNDARY: at T_h. -/
def execHandoverBoundary (t : Tick) (s : State) : Host.Outcome State Fault Refusal :=
  s.live t fun s =>
    match s.twin.handover with
    | some h =>
      if ¬ h.hard ∧ ¬ h.begun ∧ h.boundary ≤ s.now then
        let s := s.raise (ev 0x8201 0)
        let s := if h.drill then s.raise (ev 0x8203 0) else s
        let s := if h.giving then s.setDriving false s.now else s.setDriving true (h.boundary + usTicks)
        s.moveCells { h with begun := true, movedAt := h.boundary } ((List.range 128).filter s.movesAtOnce) h.boundary false
      else s
    | none => s

/-- CELL_HANDOVER_INSTANT: H_c, both outputs low; after one period of the boundary the cell moves at its period start. -/
def execCellHandoverInstant (t : Tick) (c : CellId) (s : State) : Host.Outcome State Fault Refusal :=
  s.live t fun s =>
    match s.twin.handover with
    | some h =>
      let x := s.cell c
      let low := !x.levelA && !x.levelB
      if h.begun ∧ ¬ h.hard ∧ ¬ h.moved.contains c.val ∧ (low ∨ h.boundary + x.period ≤ s.now) then
        s.moveCells h [c.val] s.now !low
      else s
    | none => s

/-- HANDOVER_COMPLETE: every cell has moved; the roles are swapped. -/
def execHandoverComplete (t : Tick) (s : State) : Host.Outcome State Fault Refusal :=
  s.live t fun s =>
    match s.twin.handover with
    | some h =>
      if h.begun ∧ ¬ h.hard ∧ 128 ≤ h.moved.length then
        let s := (s.countHandover h.cause (h.movedAt - h.boundary)).setTwin { s.twin with
          handover := none, tokenOut := !h.giving, tokenIn := h.giving, tokenChecked := true, raisedAt := none, yieldCode := 0
          insideSince := s.now, heartbeatAt := s.now, outOfWindow := [] }
        let s := if h.drill then (s.put 0x1230 7 0 0).scheduleDrill s.freeTime else s
        if h.giving then
          let s := { s with twinState := .inStep }.putPartner 2
          match s.twin.resetAfter with
          | some (cause, word) => s.enterReset cause word
          | none => s
        else { s with twinState := .active }.putPartner 5
      else s
    | none => s

/-- HARD_HANDOVER: at T_b. -/
def execHardHandover (t : Tick) (s : State) : Host.Outcome State Fault Refusal :=
  s.live t fun s =>
    match s.twin.handover with
    | some h => if h.hard ∧ h.boundary ≤ s.now then s.doHard h else s
    | none => s

/-- HANDOVER_DEFERRAL_TIMEOUT (R215): 50 ms. -/
def execHandoverDeferralTimeout (t : Tick) (s : State) : Host.Outcome State Fault Refusal :=
  s.live t fun s =>
    match s.twin.deferred with
    | some (a, _) => if a + 50 * msTicks ≤ s.now then s.endDeferral else s
    | none => s

/-- YIELD_HANDOVER_TIMEOUT (R354): the active stops the cells that it still holds. -/
def execYieldHandoverTimeout (t : Tick) (s : State) : Host.Outcome State Fault Refusal :=
  s.live t fun s =>
    match s.twin.handover, s.twin.resetAfter with
    | some h, some (8, code) =>
      if h.giving ∧ ¬ h.hard ∧ h.boundary + 100 * usTicks ≤ s.now then
        let s := (((List.range 128).filter s.token).foldl State.stopCellNow s).bridgesLow
        (s.setTwin { s.twin with handover := none, resetAfter := none }).setRun { s.run with
          stopCode := if s.run.stopAt.isSome then s.run.stopCode else code
          stopAt := if s.run.stopAt.isSome then s.run.stopAt else some s.now }
      else s
    | _, _ => s

/-! ### Twin commands (R344) -/

/-- The result of a twin command, at 0xF070.02; a refused command answers 0x23. -/
def State.twinResult (s : State) (r : Nat) : State := (s.put 0xF070 2 0 r).result (if r = 0 then 0 else 0x23)

/-- What refuses a swap: no IN STEP partner, a handover that runs, a link that is down. -/
def State.swapRefusal (s : State) : Nat :=
  if s.cfg 0x1200 2 0 ≠ 5 ∨ s.twinState ≠ .active then 1
  else if s.twin.handover.isSome ∨ s.twin.deferred.isSome then 2
  else if s.cfg 0x1200 3 0 ≠ 2 then 3
  else 0

/-- A swap of a cause, put off by R215 where it may be. -/
def State.swap (s : State) (cause : Nat) (mayDefer : Bool) : State :=
  let r := s.swapRefusal
  let s := s.twinResult r
  if r ≠ 0 then s
  else if mayDefer && s.mustDefer then s.setTwin { s.twin with deferred := some (s.now, cause) }
  else s.propose cause

/-- TWIN_SWAP: 0xF070.01 := 1. -/
def execTwinSwap (t : Tick) (src : Nat) (s : State) : Host.Outcome State Fault Refusal :=
  s.live t fun s => s.dict (.twinSwap t (nodeOf src)) src 2 true fun s => s.swap 1 true

/-- TWIN_FORCED_SWAP: 0xF070.01 := 2. -/
def execTwinForcedSwap (t : Tick) (src : Nat) (s : State) : Host.Outcome State Fault Refusal :=
  s.live t fun s => s.dict (.twinForcedSwap t (nodeOf src)) src 2 true fun s => s.swap 2 false

/-- TWIN_HOLD_PARTNER: 0xF070.01 := 3. -/
def execTwinHoldPartner (t : Tick) (src : Nat) (s : State) : Host.Outcome State Fault Refusal :=
  s.live t fun s => s.dict (.twinHoldPartner t (nodeOf src)) src 2 true fun s =>
    let r := if !s.isActive then 4 else if s.cfg 0x1200 3 0 ≠ 2 then 3 else 0
    let s := s.twinResult r
    if r = 0 then
      s.setTwin { s.twin with
        resetHeld := true, resetLow := if s.twin.resetLow.isSome then s.twin.resetLow else some s.now
        presence := false, tokenIn := false }
    else s

/-- TWIN_RELEASE_PARTNER: 0xF070.01 := 4. -/
def execTwinReleasePartner (t : Tick) (src : Nat) (s : State) : Host.Outcome State Fault Refusal :=
  s.live t fun s => s.dict (.twinReleasePartner t (nodeOf src)) src 2 true fun s =>
    if s.twin.resetHeld then (s.twinResult 0).setTwin { s.twin with resetHeld := false, resetLow := none } else s.twinResult 5

/-- TWIN_DRILL_NOW: 0xF070.01 := 5. No drill runs while 0x1230.05 is set (R357). -/
def execTwinDrillNow (t : Tick) (src : Nat) (s : State) : Host.Outcome State Fault Refusal :=
  s.live t fun s => s.dict (.twinDrillNow t (nodeOf src)) src 2 true fun s =>
    if s.swapRefusal = 0 ∧ s.cfg 0x1230 5 0 = 1 then s.twinResult 0 else s.swap 3 true

/-! ### Failures (R345 to R348, R353) -/

/-- HEARTBEAT_HANG (R345): the always-on domain resets an active that is hung. -/
def execHeartbeatHang (t : Tick) (s : State) : Host.Outcome State Fault Refusal :=
  s.live t fun s => if s.isActive then s.enterReset 5 0x8102 else s

/-- LOUD_FAILURE (R346). -/
def execLoudFailure (t : Tick) (net differNanoSeconds : Nat) (crcAgrees : Bool) (s : State) : Host.Outcome State Fault Refusal :=
  s.live t fun s =>
    if (s.twinState = .inStep ∨ s.twinState = .suspect) ∧ s.cfg 0x1200 3 0 = 2 ∧ s.now < s.twin.heartbeatAt + 2 * usTicks ∧
        750 ≤ differNanoSeconds ∧ crcAgrees then
      ((s.raise { ev 0x8105 0 with second := net }).bump 0x1200 0xD 0).takeover 6
    else s

/-- The heartbeat is silent (R347). -/
def State.heartbeatLost (s : State) : Bool := s.standby && decide (s.twin.heartbeatAt + 2 * usTicks ≤ s.now)

/-- One judgement of the nets: since when they are idle-consistent, and the warm takeover of an IN STEP standby. -/
def State.judgeNets (s : State) (idle : Bool) : State :=
  let s := s.setTwin { s.twin with
    silentAt := if s.twin.silentAt.isSome then s.twin.silentAt else some s.now
    idleSince := if idle then (if s.twin.idleSince.isSome then s.twin.idleSince else some s.now) else none }
  if s.twinState = .inStep ∧ idle then (s.raise (ev 0x8102 0)).takeover 7 else s

/-- HEARTBEAT_SILENT (R347): the nets are judged, again every 500 ns. -/
def execHeartbeatSilent (t : Tick) (idleConsistent : Bool) (s : State) : Host.Outcome State Fault Refusal :=
  s.live t fun s => if s.heartbeatLost then s.judgeNets idleConsistent else s

/-- LINK_LOSS_JUDGEMENT (R347): nets not idle-consistent by the end of the 8 µs. -/
def execLinkLossJudgement (t : Tick) (idleConsistent : Bool) (s : State) : Host.Outcome State Fault Refusal :=
  s.live t fun s =>
    if s.heartbeatLost ∧ s.since s.twin.silentAt (8 * usTicks) then
      let s := s.judgeNets idleConsistent
      if s.standby ∧ ¬ idleConsistent ∧ s.twinState ≠ .detached then
        let s := s.raise (ev 0x8101 0)
        { s with twinState := .detached }.setTwin { s.twin with handover := none }
      else s
    else s

/-- COLD_TAKEOVER (R348). -/
def execColdTakeover (t : Tick) (s : State) : Host.Outcome State Fault Refusal :=
  s.live t fun s =>
    if s.heartbeatLost ∧ s.twinState ≠ .inStep ∧ s.since s.twin.idleSince (10 * msTicks) then
      let s := { (s.raise (ev 0x8202 0)).assertReset with twinState := .activeUnpaired }.raiseToken
      let s := s.setTwin { s.twin with handover := none, silentAt := none, idleSince := none }
      ((s.bump 0x1200 0xC 0).put 0x1200 0xE 0 8).setRun { s.run with programsRun := false }
    else s

/-- PARTNER_RESET_PULSE_END (R353). -/
def execPartnerResetPulseEnd (t : Tick) (s : State) : Host.Outcome State Fault Refusal :=
  s.live t fun s =>
    if ¬ s.twin.resetHeld ∧ s.since s.twin.resetLow (s.nat 0x1210 1 0 * msTicks) then
      s.setTwin { s.twin with resetLow := none }
    else s

/-! ### The swap drill (R356) -/

/-- DRILL_DUE: the drill now waits for its anchor. -/
def execDrillDue (t : Tick) (s : State) : Host.Outcome State Fault Refusal :=
  s.live t fun s =>
    if s.twinState = .active ∧ s.cfg 0x1230 1 0 = 1 ∧ s.cfg 0x1230 5 0 = 0 ∧ s.twin.drillSince.isNone ∧
        s.cfg 0x1230 6 0 ≤ s.freeTime then
      s.setTwin { s.twin with drillSince := some s.now }
    else s

/-- DRILL_SKIP: 10 min without a drill. -/
def execDrillSkip (t : Tick) (s : State) : Host.Outcome State Fault Refusal :=
  s.live t fun s =>
    if s.since s.twin.drillSince (600 * secTicks) then
      ((s.put 0x1230 7 0 1).scheduleDrill (s.cfg 0x1230 6 0)).raise { ev 0x8203 0 with value := 1 }
    else s

end Sys2Proof.Machine
end

