-- ==== Sys2Proof/Machine/Start.lean ====
section
/-! DEFINITION. Resets from outside and the start of the chip (chapter 19; R121 to R123, R304, R306, R414, R415). -/

namespace Sys2Proof.Machine

/-! ### Supplies and pins (R331, R450 to R452) -/

/-- A supply lies outside its band, and inside its release levels, in mV (Table 19-4). -/
def outOfBand (x : Supply) (v : Nat) : Bool :=
  match x with
  | .vdd => decide (v < 720 ∨ 900 < v)
  | .vddio => decide (v < 1620 ∨ 1980 < v)
  | .vdda => decide (v < 2970 ∨ 3630 < v)
  | .vaux => decide (v < 11000 ∨ 14000 < v)
def inRelease (x : Supply) (v : Nat) : Bool :=
  !outOfBand x v &&
    (match x with
    | .vdd => decide (760 ≤ v)
    | .vddio => decide (1680 ≤ v)
    | .vdda => decide (3080 ≤ v)
    | .vaux => decide (11500 ≤ v))

/-- The always-on domain loses its contents (R452): a cold start of cause 1 follows. -/
def State.loseAlwaysOn (s : State) : State :=
  let s := { s.cleared with always := {} }
  { s with obj := s.obj.filter fun p => decide (p.1.index = 0x9020) }

/-- POWER_ON: the supplies come up; FT counts from here (R173). -/
def execPowerOn (t : Tick) (s : State) : Host.Outcome State Fault Refusal :=
  s.wired t fun s =>
    let s := s.loseAlwaysOn
    { s with freeBase := -((s.now / usTicks : Nat) : Int) }.setRun { resetAt := s.now, supplyGood := some s.now }

/-- What a collapse leaves of an operation of the record area that runs (R413): a store or an install leaves a torn record; whether
a compaction step that is due has started is free: it may have programmed its start mark with copies, and its commit mark. -/
def Storage.cut (x : Storage) (stage : Nat) : Storage :=
  let torn := decide (x.phase ≠ 0) || x.install
  let y := if stage % 4 = 1 then (x.compactUpTo false).getD x else if stage % 4 = 2 then (x.compactUpTo true).getD x else x
  let z := if x.compactionDue then y else x
  { z with used := match z.used.reverse with
    | h :: o => (({ h with tornRecord := h.tornRecord || torn } : Sector) :: o).reverse
    | [] => [] }

/-- A supply collapse (R286, R413): EN is released, every program ends, the last-gasp record is written into the reserve, and the
chip is in reset until VAUX returns. -/
def State.collapse (s : State) (vaux : Nat) : State :=
  let r := s.lastGasp vaux
  let (stage, s) := s.draw 2
  let x := s.storage.cut stage
  let s := s.setStorage { x with
    gasp := some { seq := x.nextSeq, format := x.format, body := .lastGasp r, origin := x.nextSeq }
    nextSeq := (x.nextSeq + 1) % 0x100000000 }
  let s := s.setAlways { s.always with lastSeq := r.seq }
  let s := s.setRun { s.run with
    supplyBad := .vaux :: s.run.supplyBad.filter (fun v => decide (v ≠ .vaux)), supplyGood := none }
  s.enterReset 2 0x4801

/-- SUPPLY_COLLAPSE (R286): VAUX below 11.0 V for 2 µs. -/
def execSupplyCollapse (t : Tick) (vauxMilliVolt : Nat) (s : State) : Host.Outcome State Fault Refusal :=
  s.live t fun s => if vauxMilliVolt < 11000 then s.collapse vauxMilliVolt else s

/-- A supply stands at a level. Out of its band it holds a reset of cause 2; a running chip whose VAUX falls below 11.0 V
collapses (R286); below 3.0 V the always-on domain is lost (R452). -/
def State.supplyLevel (s : State) (supply : Supply) (milliVolt : Nat) : State :=
  let others := s.run.supplyBad.filter fun v => decide (v ≠ supply)
  if outOfBand supply milliVolt then
    let s := s.setRun { s.run with supplyBad := supply :: others, supplyGood := none }
    let s := if supply = Supply.vaux ∧ milliVolt < 11000 ∧ ¬ s.inReset ∧ s.run.started then s.collapse milliVolt else s.enterReset 2 0
    if supply = Supply.vaux ∧ milliVolt < 3000 then s.loseAlwaysOn else s
  else if inRelease supply milliVolt then
    s.setRun { s.run with
      supplyBad := others
      supplyGood := if List.isEmpty others then (if s.run.supplyGood.isSome then s.run.supplyGood else some s.now) else none }
  else if s.inReset ∧ s.run.supplyGood.isSome then s.setRun { s.run with supplyBad := supply :: others, supplyGood := none }
  else s

/-- SUPPLY_OUT_OF_RANGE (R450). -/
def execSupplyOutOfRange (t : Tick) (supply : Supply) (milliVolt : Nat) (s : State) : Host.Outcome State Fault Refusal :=
  s.wired t fun s => s.supplyLevel supply milliVolt

/-- A low level of RST_N is taken: a reset of cause 6, held while the level is low. -/
def State.rstLow (s : State) (still : Bool) : State :=
  let s := s.enterReset 6 0
  s.setRun { s.run with rstLow := still }

/-- RST_N_LOW (R451): RST_N has been low for so long, and is low still or has risen. Between 180 ns and 220 ns it is free whether
the level counts. -/
def execRstNLow (t : Tick) (low : LowLevel) (s : State) : Host.Outcome State Fault Refusal :=
  s.wired t fun s =>
    if low.nanoSeconds < 180 then s
    else if 220 ≤ low.nanoSeconds ∨ s.run.rstLow then s.rstLow low.still
    else
      let (b, s) := s.draw 1
      if b = 1 then s.rstLow low.still else s

/-- PARTNER_RESET_IN (R331): PARTNER_RST_IN_N has been low for so long, and is low still or has risen. From 20 ns on it resets the
chip, which stays in reset while the input is low; the next start journals 0x8204. -/
def execPartnerResetIn (t : Tick) (low : LowLevel) (s : State) : Host.Outcome State Fault Refusal :=
  s.wired t fun s =>
    if low.nanoSeconds < 20 then s
    else
      let s := s.enterReset 4 0
      (s.setAlways { s.always with partnerReset := true }).setRun { s.run with partnerLow := low.still }

/-! ### Straps (R121 to R123) -/

/-- The code of a strap pin from its voltage in µV (Table 05-1): 0xFE short, 0xFF open. -/
def strapCode (microVolt : Nat) : Nat :=
  if microVolt < 20000 then 0xFE else if 1600000 ≤ microVolt then 0xFF else microVolt / 100000

/-- A code is invalid for its pin (Table 05-2). -/
def strapInvalid (pin code : Nat) : Bool :=
  decide (0xFE ≤ code) || (decide (pin = 5) && decide (5 ≤ code)) || (decide (pin = 6) && decide (3 ≤ code))

/-- Class and series cells of KS5. -/
def batteryOf (code : Nat) : Nat × Nat :=
  match code with
  | 0 => (0, 15) | 1 => (0, 16) | 2 => (1, 24) | 3 => (2, 13) | _ => (2, 14)

/-- The value that a valid pin decodes to is latched. -/
def State.latchStrap (s : State) (pin code : Nat) : State :=
  if strapInvalid pin code then s
  else
    match pin with
    | 2 => s.put 0x2011 3 0 (44000 + 500 * code)
    | 3 => s.put 0x2011 4 0 (52000 + 500 * code)
    | 4 => s.put 0x2011 7 0 (50500 + 500 * code)
    | 5 => (s.put 0x2011 5 0 (batteryOf code).1).put 0x2011 6 0 (batteryOf code).2
    | 6 => s.put 0x2011 2 0 code
    | 7 => s.put 0x2011 8 0 code
    | _ => s

/-- The strap read of a cold start. -/
def State.readStraps (s : State) (microVolts : List Nat) : State :=
  let codes := (List.range 8).map fun i => strapCode (microVolts.getD i 0)
  let s := { s with obj := s.obj.filter fun p => decide (p.1.index ≠ 0x2010 ∧ p.1.index ≠ 0x2011) }
  let s := (List.range 8).foldl (fun s i => (s.put 0x2010 (i + 1) 0 (codes.getD i 0)).latchStrap i (codes.getD i 0)) s
  let k0 := codes.getD 0 0
  let k1 := codes.getD 1 0
  let idKnown := !strapInvalid 0 k0 && !strapInvalid 1 k1
  let id := 16 * k1 + k0
  let s := if idKnown then s.put 0x2011 1 0 id else s
  let bits := ((List.range 8).filter fun i => strapInvalid i (codes.getD i 0)).foldl (fun n i => n + 2 ^ i) 0
  let bits := if idKnown && (decide (id = 0) || decide (id = 0xFF)) then bits + 256 else bits
  (s.put 0x2011 9 0 (bits : Nat)).setAlways { s.always with cold := false }

/-- The latched reading is judged at every start (R123). -/
def State.judgeStraps (s : State) : State :=
  ((List.range 9).filter fun i => (s.nat 0x2011 9 0).testBit i).foldl (fun s i => s.raise { ev 0x4101 0 with second := i }) s

/-! ### Flash recovery (R413, R414) -/

/-- The reserve sector that holds a last-gasp record counts as used; the next erased sector becomes the reserve. -/
def Storage.takeGasp (x : Storage) : Storage :=
  match x.gasp with
  | some r =>
    let u : Sector := { number := x.reserve, seq := x.nextSectorSeq, erases := bget 0 x.erases x.reserve, records := [r] }
    let used := x.used ++ [u]
    match x.erased with
    | n :: rest => { x with used, gasp := none, reserve := n, erased := rest, nextSectorSeq := x.nextSectorSeq + 1 }
    | [] => { x with used, gasp := none, nextSectorSeq := x.nextSectorSeq + 1 }
  | none => x

/-- A part that no commit mark counts. -/
def orphanPart (rs : List FlashRec) (r : FlashRec) : Bool :=
  match r.body with
  | .part _ =>
    !rs.any fun m =>
      match m.body with
      | .commit setSeq count _ _ => decide ((r.origin + 0x100000000 - setSeq) % 0x100000000 < count)
      | _ => false
  | _ => false

/-- The records after the newest commit mark, and whether that mark is voided. -/
def afterCommit (rs : List FlashRec) : List FlashRec × Bool :=
  rs.foldl (fun p r =>
    match r.body with
    | .commit _ _ _ v => ([], v)
    | _ => (p.1 ++ [r], p.2)) ([], false)

/-- A sector whose torn record has been resolved. -/
def Sector.settled (u : Sector) : Sector := { u with tornRecord := false }

/-- The sector that a compaction start mark names, where it is not blank: an older one than that of the mark. -/
def Storage.sourceOf (x : Storage) (r : FlashRec) : Option Sector :=
  match r.body with
  | .compactionStart k =>
    (x.used.takeWhile fun u => !u.records.any fun q => decide (q.seq = r.seq)).find? fun u => decide (u.number = k)
  | _ => none

/-- A compaction commit mark closes a start mark. -/
def Storage.closes (x : Storage) (r : FlashRec) : Bool :=
  x.valid.any fun m => decide (m.body = .compactionCommit r.seq)

/-- The compaction steps that a collapse cut (Table 17-4): the source of a committed one is erased again; the copies of one without
its commit mark are voided. The area, and word 4 of each resolution. -/
def Storage.recoverCompaction (x : Storage) : Storage × List Nat :=
  let cut := x.valid.filter fun r => (x.sourceOf r).isSome
  let done := (cut.filter x.closes).filterMap x.sourceOf
  let open? := (cut.filter fun r => !x.closes r).head?
  let y := done.foldl (fun x u => x.eraseSource u.number) x
  let torn := y.used.filter fun u => u.tornHeader
  let z := torn.foldl (fun x u => x.eraseSource u.number) y
  let words := (done ++ torn).map fun _ => 1
  match open? with
  | some r => ((z.append (.rollback r.seq)).getD z, words ++ [2])
  | none => (z, words)

/-- What interrupted operations leave is resolved (Table 17-4): the record area, and word 4 of each 0x9202. The head then stands at
the next erased sector. -/
def Storage.recover (x : Storage) : Storage × List Nat :=
  let torn := x.used.any fun u => u.tornRecord
  let tail := afterCommit x.valid
  let orphan := tail.1.find? (orphanPart x.valid)
  let z := x.takeGasp
  let y : Storage := { z with used := z.used.map Sector.settled }
  let y := y.openSector.getD y
  let (y, moved) := y.recoverCompaction
  let words := moved ++ (if orphan.isSome then [2] else []) ++ (if tail.2 then [2] else []) ++ (if torn then [2] else [])
  match orphan with
  | some r => ((y.append (.rollback r.seq)).getD y, words)
  | none => (y, words)

/-! ### The dictionary restore (R38, R39, R236, R304, R306, R415) -/

/-- The later of two chip sequence numbers, 0 standing for none (R38). -/
def laterSeq (a b : Nat) : Nat := if a = 0 then b else if b = 0 then a else if seqBefore a b then b else a

/-- The newest chip sequence number in the journal ring, 0 for none. -/
def Journal.newest (j : Journal) : Nat :=
  j.slots.foldl (fun n p =>
    match p.2 with
    | .record r => laterSeq n r.seq
    | _ => n) 0

/-- The newest last-gasp record of the record area, with its record sequence (R306). -/
def Storage.newestGasp (x : Storage) : Option (Nat × JRec) :=
  x.newest fun r =>
    match r.body with
    | .lastGasp g => some (r.seq, g)
    | _ => none

/-- The newest start count record: its record sequence, the starts and the floor. -/
def Storage.startRecord (x : Storage) : Option (Nat × Nat × Nat) :=
  x.newest fun r =>
    match r.body with
    | .startCount n f => some (r.seq, n, f)
    | _ => none

/-- The number after which the chip sequence number resumes (R38, R39). -/
def State.resumeSeq (s : State) (cold store : Bool) : Nat :=
  let x := s.storage
  let ring := if store then s.journal.newest else 0
  let gasp := x.newestGasp
  let n := laterSeq ring ((gasp.map fun g => g.2.seq).getD 0)
  let n := if cold then n else laterSeq n s.always.lastSeq
  match x.startRecord with
  | some (q, _, f) =>
    let bounded := match gasp with
      | some g => seqBefore q g.1
      | none => false
    if cold && !bounded then laterSeq n (if f ≤ 1 then 0xFFFFFFFF else f - 1) else n
  | none => n

/-- The journal store at a start (R303, R304). -/
def State.startJournal (s : State) (present identified : Bool) : State :=
  let j := s.journal
  let st := if !present then 0 else if !identified ∨ 327 < j.retired.length then 2 else 1
  let j := { j with store := st, next := if st = 1 then usableFrom j.retired 400 j.write else 0 }
  let s := s.setJournal j
  if st = 1 then s else s.raise { ev 0x4816 0 with value := if present then (j.retired.length : Int) else 0, limit := 327 }

/-- A last-gasp record later than the ring is appended to it, and 0x4814 is journalled (R306). -/
def State.handGasp (s : State) (ringNewest : Nat) : State :=
  match s.storage.newestGasp with
  | some (_, r) =>
    if ringNewest = 0 ∨ seqBefore ringNewest r.seq then (s.enqueue r).raise (ev 0x4814 0) else s
  | none => s

/-- A string's estimate from its newest state record, unverified (R236). -/
def State.restoreString (s : State) (n : Nat) : State :=
  let r := s.storage.newest fun r =>
    match r.body with
    | .battery m b => if m = n then some b else none
    | _ => none
  match r with
  | some b =>
    let s := (((s.put 0x7030 1 n b.capacity).put 0x7030 2 n b.confidence).put 0x7030 3 n b.days).put 0x7030 4 n (if b.stale then 1 else 0)
    (s.put 0x7030 5 n (if b.relearn then 1 else 0)).setStr n { s.str n with
      qRem := b.qRem, qAbs := b.qAbs, low := b.low, high := b.high, started := true, countState := 3, dayAt := s.now, recordAt := s.now }
  | none => s.setStr n { s.str n with dayAt := s.now, recordAt := s.now }

/-- The saved run times of the cells (R154). -/
def State.restoreRunTimes (s : State) : State :=
  let r := s.storage.newest fun r =>
    match r.body with
    | .runTime l => some l
    | _ => none
  { (r.getD []).foldl (fun s p => s.setCell p.1 { s.cell p.1 with runSteps := p.2 * secTicks }) s with runSavedAt := s.now }

def State.setTableClass (s : State) (c : Nat) : State := { s with tableClass := c }

/-- The settings in force are restored as one set (R415, R435, R473), and the battery tables judged by class (R226). -/
def State.restoreSettings (s : State) : State :=
  let s := match s.storage.inForce with
    | some y =>
      let (s, kept) := s.applySet y.set
      let s := s.put 0xF011 4 0 (min kept 65535 : Nat)
      (s.setStorage { s.storage with migrationOpen := decide (y.format ≠ s.storage.format) }).setTableClass
        (if y.set.factory then s.chemClass else y.set.tableClass)
    | none => s.setTableClass s.chemClass
  if s.tableClass ≠ s.chemClass then
    State.raise { s with
      obj := s.obj.filter fun p => !decide (0x7100 ≤ p.1.index ∧ p.1.index ≤ 0x7103)
      tables := [], tableClass := s.chemClass } (ev 0x6102 0)
  else s

/-! ### The start (Table 19-5) -/

/-- The chip may start: the reset has lasted 10 µs and no cause holds it (R331, R449, R450, R451). -/
def State.mayStart (s : State) : Bool :=
  if s.inReset then
    decide (s.run.resetAt + 10 * usTicks ≤ s.now) && s.run.supplyBad.isEmpty && !s.run.partnerLow && !s.run.rstLow &&
      (match s.run.supplyGood with
      | some a => decide (a + msTicks ≤ s.now)
      | none => true)
  else !s.run.started && !s.run.recovery

/-- Steps 6 to 9 of a start with an image to run. -/
def State.startImage (s : State) (inputs : StartInputs) (flash : List Nat) (events : List Event) : State :=
  let cold := s.always.cold
  let s := if cold then s.readStraps inputs.strapMicroVolt else s
  let s := s.seePins inputs.partnerPresent inputs.partnerToken
  let s := s.setTwin { s.twin with waitFrom := s.now, presOut := true }
  let s := s.setRun { s.run with started := true, testWait := inputs.test, strapAt := s.now }
  let reads := inputs.storePresent && inputs.storeIdentified
  let seq := s.resumeSeq cold reads
  let ring := if reads then s.journal.newest else 0
  let first := nextSeq seq
  let floor := seqAhead first 16777216
  let starts := (s.storage.startRecord.map fun r => r.2.1).getD 0 + 1
  let s := { s with chipSeq := seq, seqFloor := floor }.startJournal inputs.storePresent inputs.storeIdentified
  let s := (s.handGasp ring).judgeStraps
  let s := (events.foldl State.raise (s.noteFlash flash)).restoreSettings.restoreRunTimes
  let s := (List.range 4).foldl State.restoreString s
  let s := ((s.appendRecord (.startCount starts floor)).put 0x2000 2 0 starts).put 0x2000 1 0 s.always.cause
  let s := if s.always.trialExpired then s.raise (ev 0x9302 0) else s
  let s := if s.always.partnerReset then s.raise (ev 0x8204 0) else s
  let s := s.raise { ev 0x4709 0 with w4 := s.always.cause, w5 := s.always.word5, w6 := s.always.earlier, w7 := first }
  let s := s.setAlways { s.always with trialExpired := false, partnerReset := false, earlier := 0 }
  let s := (List.range 24).foldl State.modelPreset (s.applySamples inputs.samples)
  let s := s.put 0x1200 6 0 (((s.storage.slot s.storage.running).2.map fun i => i.level).getD 0 : Nat)
  ((s.scheduleDrill s.freeTime).put 0x2700 4 0 s.recentRestarts.length).negotiate

/-- The reset is released and steps 1 to 9 run (R453), once the reference and the PLLs are good (R322). Without an image to boot the
chip stays in recovery mode (R432). -/
def State.start (s : State) (inputs : StartInputs) : State :=
  if s.mayStart ∧ inputs.clocksGood then
    let good (n : Nat) : Bool := if n = 0 then inputs.slotCheckA else inputs.slotCheckB
    let (x, codes) := s.storage.readLines inputs.flashReads
    let (x, words) := x.recover
    let (p, slot) := x.chooseBoot good
    let s := { s with inReset := false }.setRun { s.run with resetAt := s.now, releasedAt := s.now }
    let s := s.put 0x2000 3 0 (if inputs.refin then 1 else 0)
    match slot with
    | some n =>
      let y := { p.storage with running := n }
      let s := s.setStorage { y with trialAt := if (y.slot n).1 = 3 then some s.now else none }
      s.startImage inputs codes ((words.map fun w => { ev 0x9202 0 with w4 := (w : Int) }) ++ p.events)
    | none => (s.setStorage p.storage).setRun { s.run with recovery := true }
  else s

/-- CHIP_START. -/
def execChipStart (t : Tick) (inputs : StartInputs) (s : State) : Host.Outcome State Fault Refusal :=
  s.wired t fun s => s.start inputs

/-- RING_PHY_READY (steps 10 and 11): the node is inserted where its ID is valid (R123, R361), and the power-up programs
start on a chip that has the drive right, inserted or not. -/
def execRingPhyReady (t : Tick) (s : State) : Host.Outcome State Fault Refusal :=
  s.live t fun s =>
    if s.run.started ∧ ¬ s.run.ringReady then
      let s := { s.setRun { s.run with ringReady := true, joined := s.nodeValid } with
        ring := { s.ring with cycleAt := some s.now, cycleLength := s.nat 0x1101 1 0 } }
      if s.run.driving ∧ s.isActive ∧ ¬ s.run.programsRun then s.powerUpPrograms else s
    else s

end Sys2Proof.Machine
end

