-- ==== Sys2Proof/Machine/Reads.lean ====
section
/-! DEFINITION. What a read of the dictionary returns (R3, R377, R391 to R397): the value stored, or what the state of an
element gives. -/

namespace Sys2Proof.Machine

/-- A Bool as a BOOLEAN object. -/
def flag (b : Bool) : Int := if b then 1 else 0

/-- A row of a coefficient bank (Table 04-5). -/
def Coeffs.get (c : Coeffs) (sub : Nat) : Int :=
  match sub with
  | 1 => c.form | 2 => c.b0 | 3 => c.b1 | 4 => c.b2 | 5 => c.b3 | 6 => c.a1 | 7 => c.a2 | 8 => c.a3 | 9 => c.kb
  | 0xA => c.uMin | 0xB => c.uMax | _ => 0

/-- State codes of Table 04-1, Table 08-1, Table 14-2 and R299. -/
def CtxState.code : CtxState → Nat
  | .disabled => 0 | .run => 1 | .held => 2 | .heldUpstream => 3 | .fault => 4
def FeedState.code : FeedState → Nat
  | .off => 0 | .inrush => 1 | .on => 2 | .cooldown => 3 | .latched => 4 | .welded => 5
def CapState.code : CapState → Nat
  | .idle => 0 | .armed => 1 | .triggered => 2 | .flushing => 3

/-- Fault state, first code and first sequence of an element (R44, R50). -/
def State.readFault (s : State) (e : Elem) (sub : Nat) : Int :=
  let r := s.fault e
  match sub with
  | 1 => flag r.inFault
  | 2 => r.firstCode
  | _ => r.firstSeq

/-- The source level of an element, for 0x8005.02 (R313). -/
def Elem.level : Elem → Nat
  | .cell _ => 1 | .block _ => 2 | .region _ => 3 | .chip => 4 | .feed _ => 5 | .string _ => 6
  | .service 0 => 5 | .service 1 => 7 | .service 2 => 8 | .service _ => 9

/-- The elements that are in a fault state (R319). -/
def State.faulted (s : State) : List Elem := (s.faults.filter fun p => p.2.inFault).map fun p => p.1

/-- A word of 32 bits of octets, little-endian. -/
def wordOf (os : List Nat) (i : Nat) : Int := leValue ((os.drop (4 * i)).take 4)

/-! ### The objects of each range -/

/-- Identity, ring and twin (0x1000 to 0x1FFF). -/
def State.read1 (s : State) (a : Addr) : Int :=
  let image := (s.storage.slot s.storage.running).2
  match a.index, a.sub with
  | 0x1000, 3 => Config.hardwareRevision % 16
  | 0x1000, 5 => (image.map fun i => (i.version : Int)).getD 0
  | 0x1000, 6 => (image.map fun i => (i.build : Int)).getD 0
  | 0x1000, 7 => s.storage.running
  | 0x1000, 8 => Config.bootRomVersion
  | 0x1100, 1 => s.ringCode
  | 0x1100, 8 => flag s.run.joined
  | 0x1110, 2 => s.access.challenge
  | 0x1111, 1 => s.authorityOf a.inst
  | 0x1200, 1 => s.twinState.code
  | 0x1200, 0x11 => (s.recentResets.length : Nat)
  | 0x1402, 1 => s.txLength 64 0 0
  | _, _ => s.cfg a.index a.sub a.inst

/-- Clock status (R442): the internal domains run while their source is locked, the recovered ones while their link is up, the
maintenance SPI while its port was used within the last 1 ms. -/
def State.clockStatus (s : State) : Nat :=
  let locked := s.run.started || s.run.recovery
  let bit (b : Bool) (n : Nat) : Nat := if b then 2 ^ n else 0
  bit locked 0 + bit locked 1 + bit locked 2 + bit (decide (s.cfg 0x1100 2 0 = 1)) 3 + bit (decide (s.cfg 0x1100 3 0 = 1)) 4 +
    bit locked 5 + bit (decide (s.cfg 0x1200 3 0 = 2)) 6 + bit locked 7 + 2 ^ 8 + bit locked 9 + bit locked 10 + bit locked 11 +
    bit (s.run.tckAt.any fun a => decide (s.now < a + msTicks)) 12 +
    bit (decide (0 < (s.authRec 0).lastRequest ∧ s.now < (s.authRec 0).lastRequest + msTicks)) 13

/-- What a pool reads (R150, R158, R161). -/
def State.readPool (s : State) (p : Nat) (a : Addr) : Int :=
  match a.sub with
  | 0x17 => (s.activeMembers p).length
  | 0x18 => s.poolMean p
  | 0x19 => s.poolLoad p / 1000
  | _ => s.cfg a.index a.sub a.inst

/-- The FP-related values of 0x2210 (R173, R185, R195). -/
def State.readFrame (s : State) (a : Addr) : Int :=
  match a.sub with
  | 2 => (s.positionAt s.now : Nat) % 65536
  | 6 => ((s.guardUnits / 4294967296 : Nat) : Int)
  | 0xA => (((s.now - s.frame.lastStrobe) / msTicks : Nat) : Int)
  | 0xD => s.forecastCode
  | _ => s.cfg a.index a.sub a.inst

/-- A program's state: running, waiting at a step, or deferred (Table 11-9). -/
def State.programState (s : State) (p : Nat) : Int :=
  match s.slotOf p with
  | some e => if (s.progSlot e).waitEnd.isSome then 2 else 1
  | none => if s.deferred.contains p then 3 else 0

/-- Chip configuration (0x2000 to 0x2FFF). -/
def State.read2 (s : State) (a : Addr) : Int :=
  if 0x2100 ≤ a.index ∧ a.index < 0x2104 then s.readPool (a.index - 0x2100) a
  else if 0x2200 ≤ a.index ∧ a.index < 0x2203 ∧ a.sub = 2 then s.mainsAngle (a.index - 0x2200)
  else
    match a.index, a.sub with
    | 0x2000, 4 => s.clockStatus
    | 0x2210, _ => s.readFrame a
    | 0x2220, 1 => s.freeTime
    | 0x2231, n => rndDiv (bget ({} : MapBin) s.loadMap (n - 1)).mean 65536
    | 0x2411, 5 => ((s.sinkOf a.inst).map fun h => (h : Int)).getD 0xFF
    | 0x2500, 4 => let x := s.seq a.inst; if x.held then 2 else flag x.commanded
    | 0x2500, 5 => flag (s.pgFlag a.inst)
    | 0x2620, 1 => s.programState a.inst
    | 0x2700, 4 => s.recentRestarts.length
    | _, _ => s.cfg a.index a.sub a.inst

/-- Regions, blocks and cells (0x3000 to 0x5FFF). -/
def State.read345 (s : State) (a : Addr) : Int :=
  match a.index, a.sub with
  | 0x3001, n => s.readFault (.region a.inst) n
  | 0x3002, _ => (bget 0 s.regionSeq a.inst : Nat)
  | 0x3020, _ => (((List.range 4).filter fun i => (s.progSlot (4 * a.inst + i)).program.isSome).length : Nat)
  | 0x4001, n => s.readFault (.block a.inst) n
  | 0x4010, 1 => s.budget a.inst
  | 0x5001, n => s.readFault (.cell a.inst) n
  | 0x5002, 1 => (s.cell a.inst).state.code
  | 0x5002, 2 => s.shaped a.inst (s.cell a.inst)
  | 0x5004, 1 => ((s.runSteps a.inst / secTicks : Nat) : Int)
  | 0x5014, 5 => flag (s.cell a.inst).noRipple
  | _, _ => s.cfg a.index a.sub a.inst

/-- The status of a context (Table 04-8). -/
def State.readCtx (s : State) (k sub : Nat) : Int :=
  let x := s.ctx k
  match sub with
  | 1 => x.state.code
  | 2 => x.u
  | 3 => x.integ
  | 4 => x.err
  | 5 => x.setpoint
  | 8 => flag x.clamp
  | 9 => if x.state = .held then ((s.holdTime k / usTicks : Nat) : Int) else 0
  | _ => s.cfg 0x6120 sub k

/-- The status of a group (Table 05-9). -/
def State.readGroup (s : State) (g : Nat) (a : Addr) : Int :=
  let x := s.group g
  match a.sub with
  | 2 => x.state.code
  | 4 => x.forceMicro / 1000
  | 9 => flag x.powerGood
  | 0xD => flag x.runRequest
  | _ => s.cfg a.index a.sub a.inst

/-- The role rows of a group that are read only (Table 05-9). -/
def State.readRole (s : State) (g : Nat) (a : Addr) : Int :=
  let x := s.group g
  match s.role g, a.sub with
  | 3, 4 => flag x.discharge
  | 3, 7 => flag x.relayOpen
  | 4, 4 => x.bstTarget
  | 4, 5 => x.feedMicroAmp / 1000
  | _, _ => s.cfg a.index a.sub a.inst

/-- Manager state of a group: 0 steady, 1 adding, 2 shedding, 3 load-step recovery, 4 classifying. -/
def State.managerState (s : State) (g : Nat) : Int :=
  let x := s.group g
  if x.classify.isSome then 4
  else if x.recovering then 3
  else if s.shedding g then 2
  else if (s.groupCells g).any fun c =>
    match (s.cell c).ramp with
    | .add _ | .loadStepAdd _ => true
    | _ => false
  then 1
  else 0

/-- The phase objects of a group (Table 06-3). -/
def State.readPhase (s : State) (g : Nat) (a : Addr) : Int :=
  let x := s.group g
  match a.sub with
  | 1 => (s.activeUnits g).length
  | 2 => (s.availableUnits g).length
  | 3 => rnd23 x.load
  | 4 => s.managerState g
  | 8 => if x.rhoCount < 64 then 0 else x.rho / 65536
  | 9 => (s.availableUnits g).foldl (fun a u => a + s.shareLimit g (s.cell (leadCell u)).throttle) 0
  | _ => s.cfg a.index a.sub a.inst

/-- The status of a feed channel (Table 08-5). -/
def State.readFeed (s : State) (f sub : Nat) : Int :=
  let x := s.feed f
  match sub with
  | 1 => x.state.code
  | 2 => flag x.powerGood
  | 3 => limitInt (rndDiv x.tj 100000) (-32768) 32767
  | 4 => s.idMilli f
  | 5 => s.vdsMilli f
  | 6 => max 0 (s.vgs f)
  | 7 => s.dissipation f
  | 8 => x.retries
  | 0xB => max 0 (s.derived f)
  | 0xC => flag (s.inFault (.feed f))
  | _ => s.cfg 0x6820 sub f

/-- Groups, contexts and feeds (0x6000 to 0x6FFF). -/
def State.read6 (s : State) (a : Addr) : Int :=
  let g := 4 * a.inst + a.index % 4
  if 0x6000 ≤ a.index ∧ a.index < 0x6004 ∧ a.sub = 4 then
    flag ((s.groupCells g).any fun c =>
      match (s.cell c).state with
      | .idle | .fault => false
      | _ => true)
  else if 0x6200 ≤ a.index ∧ a.index < 0x6204 then s.readGroup g a
  else if 0x6210 ≤ a.index ∧ a.index < 0x6214 then s.readRole g a
  else if 0x6310 ≤ a.index ∧ a.index < 0x6314 then s.readPhase g a
  else
    match a.index with
    | 0x6110 => (s.ctx a.inst).staging.get a.sub
    | 0x6111 => (s.ctx a.inst).active.get a.sub
    | 0x6120 => s.readCtx a.inst a.sub
    | 0x6820 => s.readFeed a.inst a.sub
    | 0x6840 => if a.sub = 9 then s.selectorCode else s.cfg a.index a.sub a.inst
    | _ => s.cfg a.index a.sub a.inst

/-- The state of a string (Table 09-7). -/
def State.stringState (s : State) (n : Nat) : Int :=
  if s.cfg 0x7000 1 n ≠ 1 then 0
  else if (s.str n).lowDisconnected then 2
  else if s.stringConnected n then 1
  else 3

/-- The status of a string. -/
def State.readString (s : State) (n sub : Nat) : Int :=
  let x := s.str n
  match sub with
  | 1 => s.stringState n
  | 2 => max 0 x.volt
  | 3 => x.amp
  | 4 => x.temp
  | 5 => rndDiv (s.socCount n) 1000
  | 6 => rndDiv x.socV 1000
  | 7 => x.qRem / mAhUnits
  | 8 => s.usable n
  | 0xA => flag x.fast
  | 0xB => rndDiv (x.offset * s.cfg 0x7000 5 n) 536870912
  | 0xC => x.countState
  | 0xD => flag x.permitted
  | 0xE => max 0 x.allow
  | 0xF => (x.restSince.map fun a => (((s.now - a) / secTicks : Nat) : Int)).getD 0
  | 0x10 => flag (s.inFault (.string n))
  | _ => s.cfg 0x7020 sub n

/-- SoC, time and charge of an anchor (R232). -/
def State.readAnchor (s : State) (a : Option Anchor) (sub : Nat) : Int :=
  match a with
  | some a =>
    match sub with
    | 0 => rndDiv a.soc 1000
    | 1 => s.stamp a.time
    | _ => a.charge / mCUnits
  | none => 0

/-- The learning state of a string. -/
def State.readLearn (s : State) (n sub : Nat) : Int :=
  let x := s.str n
  match sub with
  | 1 => s.capacity n
  | 6 => s.readAnchor x.low 0
  | 7 => s.readAnchor x.low 1
  | 8 => s.readAnchor x.low 2
  | 9 => s.readAnchor x.high 0
  | 0xA => s.readAnchor x.high 1
  | 0xB => s.readAnchor x.high 2
  | 0xC => x.qAbs / mCUnits
  | _ => s.cfg 0x7030 sub n

/-- A telemetry object; the read-and-clear sub-indices clear when they are read (R292, R293). -/
def State.readTele (s : State) (a : Addr) : Int :=
  let w := s.window (a.index / 0x100 - 0x7A) a.inst (4 * (a.index % 0x100 / 0x10) + a.index % 0x10)
  match a.sub with
  | 1 => w.mean
  | 2 => w.heldMax
  | 4 => w.heldBefore s.now true
  | 5 => w.heldBefore s.now false
  | _ => w.heldMin

/-- Batteries, voltage inputs and telemetry (0x7000 to 0x7FFF). -/
def State.read7 (s : State) (a : Addr) : Int :=
  if isTelemetry a.index then s.readTele a
  else
    match a.index, a.sub with
    | 0x7020, n => s.readString a.inst n
    | 0x7030, n => s.readLearn a.inst n
    | 0x7104, 1 => s.tableClass
    | 0x7121, 1 => (s.str a.inst).hold
    | 0x7800, 2 => s.inputMilliVolt a.inst
    | _, _ => s.cfg a.index a.sub a.inst

/-- Journal, faults and mirror (0x8000 to 0x8FFF). -/
def State.read8 (s : State) (a : Addr) : Int :=
  if 0x8040 ≤ a.index ∧ a.index < 0x8044 ∧ a.sub = 6 then (s.capture (a.index - 0x8040)).state.code
  else
    match a.index, a.sub with
    | 0x8001, n => s.readFault .chip n
    | 0x8002, _ => s.chipSeq
    | 0x8003, n => s.readFault (.service a.inst) n
    | 0x8005, 1 => s.faulted.length
    | 0x8005, 2 =>
      (((List.range 10).filter fun n => s.faulted.any fun e => decide (e.level = n)).foldl (fun w n => w + 2 ^ n) 0 : Nat)
    | 0x8010, 1 => s.journal.write
    | 0x8010, 2 => s.journal.oldest
    | 0x8010, 3 => s.journal.wraps
    | 0x8010, 4 => s.journal.queue.length
    | 0x8010, 6 => s.journal.store
    | 0x8010, 7 => s.journal.retired.length
    | 0x8100, n => wordOf (s.slotRead a.inst) (n - 1)
    | 0x8120, n => wordOf (bget [] s.twin.mirror a.inst) (n - 1)
    | 0x8200, n => wordOf ((s.storage.newestGasp.map fun g => g.2.octets).getD (List.replicate 64 0xFF)) (n - 1)
    | _, _ => s.cfg a.index a.sub a.inst

/-- The busy flash banks (R401, R403): the record area during a store, the idle slot during an install. -/
def State.busyBanks (s : State) : Nat :=
  let x := s.storage
  let head := (x.used.getLast?.map fun u => u.number).getD 0
  (if x.phase = 1 ∨ x.phase = 2 then 2 ^ (6 + head / 32) else 0) +
    (if x.install then 2 ^ (3 * x.idle + s.nat 0x9010 3 0 / 0x80000) else 0)

/-- A firmware slot (Table 16-8). -/
def State.readSlot (s : State) (n sub : Nat) : Int :=
  let (st, image) := s.storage.slot n
  match sub with
  | 1 => st
  | 2 => (image.map fun i => (i.version : Int)).getD 0
  | 3 => (image.map fun i => (i.build : Int)).getD 0
  | 4 => (image.map fun i => (i.level : Int)).getD 0
  | _ => (image.map fun i => (i.length : Int)).getD 0

/-- Storage, firmware and commands (0x9000 to 0xFFFF). -/
def State.read9F (s : State) (a : Addr) : Int :=
  match a.index, a.sub with
  | 0x9000, n => s.readSlot a.inst n
  | 0x9011, 2 => (s.storage.trialAt.map fun b => ((900 - min 900 ((s.now - b) / secTicks) : Nat) : Int)).getD 0
  | 0x9020, 1 => s.busyBanks
  | 0x9020, 2 => ((s.storage.used.length * 16384 : Nat) : Int)
  | 0xF060, n => if s.cfg 0x8007 1 0 = 1 then s.cfg 0xF060 n a.inst else 0
  | 0xF081, 2 => ((s.access.fanOut.map fun f => f.waiting.length).getD 0 : Nat)
  | _, _ => s.cfg a.index a.sub a.inst

/-- The value of an object of 8 octets or fewer. -/
def State.readVal (s : State) (a : Addr) : Int :=
  if a.sub = 0 then highestSub (s.addrRole a) a.index
  else
    let a := s.homeAddr a
    match a.index / 0x1000 with
    | 1 => s.read1 a
    | 2 => s.read2 a
    | 3 | 4 | 5 => s.read345 a
    | 6 => s.read6 a
    | 7 => s.read7 a
    | 8 => s.read8 a
    | _ => s.read9F a

/-- The octets of an OCTET_STRING (R299, R303, R396, R400). -/
def State.readOctets (s : State) (a : Addr) : List Nat :=
  match a.index with
  | 0x1000 => (List.range 16).map fun i => Config.chipIdentity.getD i 0 % 256
  | 0x8050 => (List.range 262144).map fun i => (s.capture a.inst).octet a.inst i
  | 0x8100 => s.slotRead a.inst
  | _ => []

/-- The octets that a read of an object returns (R375). -/
def State.octetsOf (s : State) (r : ObjRow) (a : Addr) : List Nat :=
  match r.type with
  | .octets => s.readOctets a
  | t => leOctets t.size (s.readVal a)

/-- What a read leaves: a read-and-clear sub-index clears its held values (R292). -/
def State.afterRead (s : State) (a : Addr) : State :=
  if isTelemetry a.index ∧ (a.sub = 4 ∨ a.sub = 5) then
    s.clearHeld (a.index / 0x100 - 0x7A) a.inst (4 * (a.index % 0x100 / 0x10) + a.index % 0x10)
  else s

/-- The length of an object's value: that of its type, or the octets of an OCTET_STRING. -/
def ObjRow.length (r : ObjRow) (a : Addr) : Nat :=
  match r.type with
  | .octets =>
    match a.index, a.sub with
    | 0x1000, _ => 16
    | 0x1110, 3 => 72
    | 0x1110, _ => 8
    | 0x8050, _ => 262144
    | 0x8100, _ => 64
    | _, _ => 0
  | t => t.size

/-- A read of an object: its result and its octets (R377, R391, R392). A read in a request carries the object's length or
0 (assumption 51). -/
def State.readObj (s : State) (a : Addr) : Nat × List Nat :=
  match s.locate a with
  | .ok r => if r.access = .wo then (0x21, []) else (0, s.octetsOf r a)
  | .error e => (e, [])

end Sys2Proof.Machine
end

