-- ==== Sys2Proof/Machine/Access.lean ====
section
/-! DEFINITION. Authority, dictionary writes of every kind, and requests with their transactions and segmented transfers
(chapter 15; R337, R374 to R389). -/

namespace Sys2Proof.Machine

/-! ### Authority (R380 to R383) -/

/-- A raised authority falls back to the default. -/
def State.dropRaised (s : State) (src : Nat) : State := s.setAuth src { s.authRec src with raised := none, expiry := 0 }

/-- A wrong key or token: 0x30 with 0x7302, and a lock-out after the third within 1 min (R381). -/
def State.wrongKey (s : State) (src : Nat) : State :=
  let r := s.authRec src
  let recent := s.now :: r.wrongKeys.filter fun a => decide (s.now < a + 60 * secTicks)
  (s.setAuth src { r with
    wrongKeys := recent, lockedUntil := if 3 ≤ recent.length then s.now + 60 * secTicks else r.lockedUntil }).refuseAuthority src

/-- A log-in with a key. While no key is set, it is refused over the ring. -/
def State.login (s : State) (src : Nat) (key : List Nat) : State :=
  if key.length ≠ 8 then s.result 0x13
  else
    match s.access.key with
    | none => if src = 0 then s.result 0 else s.result 0x23
    | some k =>
      if s.now < (s.authRec src).lockedUntil then s.result 0x23
      else if key = k then
        (s.setAuth src { s.authRec src with
          raised := some (max 2 ((s.authRec src).raised.getD 0)), wrongKeys := [] }).result 0
      else s.wrongKey src

/-- INTEGRATOR_LOGIN: 0x1110.01. -/
def execIntegratorLogin (t : Tick) (src : Nat) (key : List Nat) (s : State) : Host.Outcome State Fault Refusal :=
  s.live t fun s => s.dict (.integratorLogin t (nodeOf src) key) src 0 false fun s => s.login (src % 256) key

/-- INTEGRATOR_KEY_SET: 0x1110.04, with integrator authority. -/
def execIntegratorKeySet (t : Tick) (src : Nat) (key : List Nat) (s : State) : Host.Outcome State Fault Refusal :=
  s.live t fun s => s.dict (.integratorKeySet t (nodeOf src) key) src 2 false fun s =>
    if key.length = 8 then (s.setAccess { s.access with key := some key }).result 0 else s.result 0x13

/-- A vendor token: verified, for this source, and not expired (R382). Every verification draws a new challenge. -/
def State.takeToken (s : State) (src expiry node : Nat) (valid : Bool) : State :=
  let (c, s) := s.draw 32
  let s := s.setAccess { s.access with challenge := c }
  if valid && decide (node = src) && decide (s.freeTime / 60000000 < expiry) then
    (s.setAuth src { s.authRec src with raised := some 3, expiry := expiry }).result 0
  else s.refuseAuthority src

/-- VENDOR_TOKEN: 0x1110.03. -/
def execVendorToken (t : Tick) (src : Nat) (expiryMinutes : Nat) (tokenNode : Nat) (signatureValid : Bool) (s : State) :
    Host.Outcome State Fault Refusal :=
  s.live t fun s =>
    s.dict (.vendorToken t (nodeOf src) expiryMinutes (nodeOf tokenNode) signatureValid) src 0 false fun s => s.takeToken (src % 256) expiryMinutes tokenNode signatureValid

/-- DROP_AUTHORITY: 0x1110.05 := 1. -/
def execDropAuthority (t : Tick) (src : Nat) (value : Nat) (s : State) : Host.Outcome State Fault Refusal :=
  s.live t fun s =>
    s.dict (.dropAuthority t (nodeOf src) value) src 0 false fun s => if value = 1 then s.dropRaised (src % 256) else s.result 0x23

/-- AUTHORITY_IDLE_TIMEOUT (R383): no request for 0x1101.04, or the expiry of a vendor token. -/
def execAuthorityIdleTimeout (t : Tick) (src : NodeId) (s : State) : Host.Outcome State Fault Refusal :=
  s.live t fun s =>
    let r := s.authRec src
    let idle := decide (r.lastRequest + s.nat 0x1101 4 0 * secTicks ≤ s.now)
    let lapsed := decide (r.raised = some 3) && decide (r.expiry ≤ s.freeTime / 60000000)
    if r.raised.isSome && (idle || lapsed) then s.dropRaised src else s

/-! ### A fan-out of this chip (R388) -/

/-- The nodes of the mask 0xF080.01 to .08. -/
def State.fanNodes (s : State) : List Nat :=
  (List.range 255).filter fun m => decide (m ≠ 0) && (s.nat 0xF080 (m / 32 + 1) 0).testBit (m % 32)

/-- The entry of a fan-out, with the length of the object that its address names. -/
def State.fanEntry (s : State) : Entry :=
  let a := addrWord (s.nat 0xF080 9 0) (s.nat 0xF080 0xA 0)
  { write := true, index := a.index, sub := a.sub, inst := a.inst, length := s.sizeOf a, value := s.cfg 0xF080 0xB 0, octets := [] }

/-- The boundary of the first turn that starts at least some turns from now. -/
def State.turnAhead (s : State) (turns : Nat) : Tick := ((s.now + turns * usTicks + usTicks - 1) / usTicks) * usTicks

/-- The boundary at which a request commits (R337, R386). -/
def State.commitDue (s : State) : Tick := if s.twinState = .active then s.turnAhead 3 else s.turnAhead 2

/-- The fan-out starts: sent under the chip's own node ID, and staged for this chip where its ID is in the mask. -/
def State.startFanOut (s : State) (src : Nat) : State :=
  let own := s.nat 0x2011 1 0
  let seq := (s.ring.sequence + 1) % 4096
  let e := s.fanEntry
  let nodes := s.fanNodes
  let s := { s with
    obj := s.obj.filter (fun p => !(decide (p.1.index = 0xF081) && decide (p.1.sub = 1))), ring := { s.ring with sequence := seq } }
  let w := (nodes.filter fun m => decide (m ≠ own)).map fun m => (m, 1, s.now)
  let mine : List Staged := if nodes.contains own then
    [{ src := src % 256, sequence := seq, transaction := false, entries := [e], due := s.turnAhead 1, fanOut := true }] else []
  s.setAccess { s.access with
    fanOut := if w.isEmpty then none else some { sequence := seq, entry := e, waiting := w }
    staged := s.access.staged ++ mine }

/-- FAN_OUT_EXECUTE: 0xF080.0C := 1. -/
def execFanOutExecute (t : Tick) (src : Nat) (value : Nat) (s : State) : Host.Outcome State Fault Refusal :=
  s.live t fun s => s.dict (.fanOutExecute t (nodeOf src) value) src 1 false fun s =>
    if value ≠ 1 ∨ s.access.fanOut.isSome then s.result 0x23 else (s.startFanOut src).result 0

/-- A node of a fan-out has its result. -/
def State.fanResult (s : State) (node result : Nat) : State :=
  let s := s.put 0xF081 1 node result
  match s.access.fanOut with
  | some f =>
    let w := f.waiting.filter fun p => decide (p.1 ≠ node)
    s.setAccess { s.access with fanOut := if w.isEmpty then none else some { f with waiting := w } }
  | none => s

/-- FAN_OUT_TIMEOUT: the request is sent again, or its third wait has ended. -/
def execFanOutTimeout (t : Tick) (node : NodeId) (s : State) : Host.Outcome State Fault Refusal :=
  s.live t fun s =>
    match s.access.fanOut with
    | some f =>
      match f.waiting.find? fun p => decide (p.1 = node.val) with
      | some (_, sends, last) =>
        if last + s.nat 0x1101 3 0 * msTicks ≤ s.now then
          if 3 ≤ sends then s.fanResult node 0x60
          else
            s.setAccess { s.access with fanOut := some { f with
              waiting := f.waiting.map fun p => if p.1 = node.val then (p.1, sends + 1, s.now) else p } }
        else s
      | none => s
    | none => s

/-- RESPONSE_FRAME: a node answers the fan-out of this chip. -/
def execResponseFrame (t : Tick) (node : NodeId) (sequence result : Nat) (s : State) : Host.Outcome State Fault Refusal :=
  s.live t fun s =>
    match s.access.fanOut with
    | some f =>
      if f.sequence = sequence ∧ f.waiting.any (fun p => decide (p.1 = node.val)) then s.fanResult node result else s
    | none => s

/-! ### A write of any object (R377, R378) -/

/-- The state that a command leaves. -/
def outcomeState (s : State) : Host.Outcome State Fault Refusal → State
  | .next t => t
  | _ => s

/-- A reset command of 0xF020. -/
def State.writeReset (s : State) (src sub inst key : Nat) : State :=
  let t := s.now
  outcomeState s (match sub with
    | 1 => execCellReset t src (Fin.ofNat 128 inst) key s
    | 2 => execBlockReset t src (Fin.ofNat 16 inst) key s
    | 3 => execRegionReset t src (Fin.ofNat 4 inst) key s
    | 4 => execChipReset t src key s
    | 5 => execChannelReset t src (Fin.ofNat 24 inst) key s
    | 6 => execStringReset t src (Fin.ofNat 4 inst) key s
    | _ => execServiceReset t src (Fin.ofNat 4 inst) key s)

/-- A value that names no command. -/
def State.noCommand (s : State) : Host.Outcome State Fault Refusal := .next (s.result 0x23)

/-- A command object of chapters 04 to 13. -/
def State.writeControl (s : State) (src : Nat) (a : Addr) (v : Nat) : Option (Host.Outcome State Fault Refusal) :=
  let t := s.now
  let i := a.inst
  match a.index, a.sub with
  | 0x6130, 1 =>
    let k : CtxId := Fin.ofNat 256 i
    some (match v with
      | 1 => execContextHold t src k s
      | 2 => execReleaseWithSwap t src k s
      | 3 => execReleaseWithoutSwap t src k s
      | _ => s.noCommand)
  | 0x2230, 8 => some (execMapClear t src v s)
  | 0x6830, 1 =>
    let f : FeedId := Fin.ofNat 24 i
    some (match v with
      | 1 => execChannelOn t src f s
      | 2 => execChannelOff t src f s
      | _ => s.noCommand)
  | 0x6840, 0xC =>
    some (match v with
      | 1 => execForceSelectA t src s
      | 2 => execForceSelectB t src s
      | 3 => execForceAutomatic t src s
      | _ => s.noCommand)
  | 0x7104, 3 => some (execTableCommit t src v s)
  | 0xF030, 1 =>
    let n : StringId := Fin.ofNat 4 i
    some (match v with
      | 1 => execRestHoldStart t src n s
      | 2 => execRestHoldAbort t src n s
      | _ => s.noCommand)
  | 0xF030, 2 =>
    let n : StringId := Fin.ofNat 4 i
    some (match v with
      | 1 => execCapacityTestStart t src n s
      | 2 => execCapacityTestAbort t src n s
      | _ => s.noCommand)
  | 0x2500, 6 =>
    let n : SeqId := Fin.ofNat 64 i
    some (match v with
      | 1 => execEnAssertCommand t src n s
      | 2 => execEnReleaseCommand t src n s
      | _ => s.noCommand)
  | 0xF040, 1 =>
    let p : ProgId := Fin.ofNat 32 i
    some (match v with
      | 1 => execProgramStartCommand t src p s
      | 2 => execProgramAbort t src p s
      | _ => s.noCommand)
  | 0x7E00, 1 => some (execClearAllHeld t src v s)
  | 0x8011, 1 => some (execSequenceSearch t src v s)
  | 0xF050, 1 =>
    let x : TrigId := Fin.ofNat 4 i
    some (match v with
      | 1 => execCaptureArm t src x s
      | 2 => execCaptureTrigger t src x s
      | 3 => execCaptureDisarm t src x s
      | _ => s.noCommand)
  | 0xF060, 4 => some (execInjectExecute t src v s)
  | _, _ => none

/-- A command object of chapters 14 to 18. -/
def State.writeService (s : State) (src : Nat) (a : Addr) (v : Nat) : Option (Host.Outcome State Fault Refusal) :=
  let t := s.now
  match a.index, a.sub with
  | 0xF070, 1 =>
    some (match v with
      | 1 => execTwinSwap t src s
      | 2 => execTwinForcedSwap t src s
      | 3 => execTwinHoldPartner t src s
      | 4 => execTwinReleasePartner t src s
      | 5 => execTwinDrillNow t src s
      | _ => s.noCommand)
  | 0x1110, 5 => some (execDropAuthority t src v s)
  | 0xF080, 0xC => some (execFanOutExecute t src v s)
  | 0x9010, 4 => some (execInstallAbort t src v s)
  | 0x9011, 1 => some (execConfirm t src v s)
  | 0xF010, 1 => some (execStore t src v s)
  | 0xF010, 3 => some (execStoreAbort t src v s)
  | 0xF011, 1 => some (execRestoreStored t src ⟨v, []⟩ s)
  | 0xF011, 2 => some (execRestoreFactory t src v s)
  | _, _ => none

/-- A write of an OCTET_STRING. Whether a token's signature verifies is free: the vendor key is not part of the model. -/
def State.writeOctets (s : State) (src : Nat) (a : Addr) (os : List Nat) : State :=
  let t := s.now
  match a.index, a.sub with
  | 0x1110, 1 => outcomeState s (execIntegratorLogin t src os s)
  | 0x1110, 4 => outcomeState s (execIntegratorKeySet t src os s)
  | 0x1110, 3 =>
    let (b, s) := s.draw 1
    outcomeState s (execVendorToken t src (leValue (os.take 4)) (os.getD 4 0) (decide (b = 1)) s)
  | _, _ => s.result 0x13

/-- Objects that a standby takes writes of (R337): the twin objects and its own chip reset. -/
def standbyTakes (a : Addr) : Bool :=
  decide (0x1200 ≤ a.index ∧ a.index < 0x1300) || decide (a.index = 0xF070) || decide (a.index = 0xF020 ∧ a.sub = 4)

/-- What a write of a located object does once its source may write it: its length and encoding, the command that it is, or
its own rule and effect. -/
def State.writeLocated (s : State) (src : Nat) (r : ObjRow) (a : Addr) (v : Int) (os : List Nat) (length : Nat) : State :=
  if length ≠ r.length a then s.result 0x13
  else if r.type = .octets then s.writeOctets src a os
  else if !r.type.holds v then s.result 0x13
  else if isTelemetry a.index then
    if v = 1 then (s.clearHeld (a.index / 0x100 - 0x7A) a.inst (4 * (a.index % 0x100 / 0x10) + a.index % 0x10)).result 0
    else s.result 0x23
  else if a.index = 0xF020 then s.writeReset src a.sub a.inst v.toNat
  else if a.index / 0x10 = 0x620 ∧ a.sub = 1 then
    if s.upperCopy a.inst then s.result 0x23
    else if 1 ≤ v ∧ v ≤ 3 then s.groupCommand (4 * a.inst + a.index % 0x10) v.toNat
    else s.result 0x23
  else
    match s.writeControl src a v.toNat with
    | some o => outcomeState s o
    | none =>
      match s.writeService src a v.toNat with
      | some o => outcomeState s o
      | none => s.writeConfig r a v

/-- A write of an object (R377, R378, R391, R392): it must exist, be writable, be held where its class asks for that, and its
source must have the authority; the copies of a doubles pair refuse it (R31); then it is judged by its own rule. The entry
result is in `lastResult`. -/
def State.writeObj (s : State) (src : Nat) (a : Addr) (v : Int) (os : List Nat) (length : Nat) : State :=
  let s := (s.received src).result 0
  match s.locate a with
  | .error e => s.result e
  | .ok r =>
    let b := s.homeAddr a
    let held := decide ((s.ctx b.inst).state = .held ∨ (s.ctx b.inst).state = .heldUpstream)
    if r.access = .ro then s.result 0x20
    else if s.standby && !standbyTakes b && decide (src < 256) then s.result 0x31
    else if s.authorityOf src < r.need then s.refuseAuthority src
    else if b ≠ a then s.result 0x23
    else if r.access = .rwh ∧ !held then s.result 0x22
    else s.writeLocated src r a v os length

/-- Objects that a chip in recovery mode serves (R432). -/
def recoveryServes (index sub : Nat) : Bool := [0x1000, 0x9000, 0x9010].contains index || decide (index = 0xF020 ∧ sub = 4)

/-- REGISTER_WRITE (R377). -/
def execRegisterWrite (t : Tick) (src : Nat) (index sub inst : Nat) (value : Int) (length : Nat) (s : State) :
    Host.Outcome State Fault Refusal :=
  s.boot t src fun s =>
    if (s.run.recovery ∧ !recoveryServes index sub) ∨ !s.hears src then s
    else
      (s.received src).place 12 (.write (.registerWrite t (nodeOf src) index sub inst value length)) fun s =>
        s.writeObj src ⟨index, sub, inst⟩ value [] length

/-! ### Requests (R374 to R379, R384 to R387) -/

/-- A node's entry, applied: the result and the octets of a read. -/
def State.applyEntry (s : State) (src : Nat) (e : Entry) : State × Nat × List Nat :=
  let a : Addr := ⟨e.index, e.sub, e.inst⟩
  if s.run.recovery ∧ !recoveryServes e.index e.sub then (s, 0x10, [])
  else if e.write then
    let s := s.writeObj src a e.value e.octets e.length
    (s, s.lastResult, [])
  else
    let (r, os) := s.readObj a
    (if r = 0 then { s.afterRead a with lastRead := s.readVal a } else s, r, os)

/-- The entries of a request, one after the other (R385). -/
def State.applyEach (s : State) (src : Nat) : List Entry → State × List (Nat × List Nat)
  | [] => (s, [])
  | e :: rest =>
    let (s, r, os) := s.applyEntry src e
    let (s, l) := s.applyEach src rest
    (s, (r, os) :: l)

/-- The entries of a transaction up to the first that fails, with the code of that one (R384). -/
def State.tryAll (s : State) (src : Nat) : List Entry → State × List Nat × Bool
  | [] => (s, [], true)
  | e :: rest =>
    let (s', r, _) := s.applyEntry src e
    if 0x10 ≤ r then (s', [r], false)
    else
      let (s', l, good) := s'.tryAll src rest
      (s', r :: l, good)

/-- The overall result: the first entry result that is not 0. -/
def overallOf (l : List (Nat × List Nat)) : Nat := ((l.find? fun p => decide (p.1 ≠ 0)).map fun p => p.1).getD 0

/-- A request is committed: a transaction whole or not at all, its reads after its writes. -/
def State.commitEntries (s : State) (src : Nat) (transaction : Bool) (es : List Entry) : State × List (Nat × List Nat) :=
  if transaction then
    let (s', codes, good) := s.tryAll src es
    if good then
      (s', (codes.zip es).map fun p => (p.1, if p.2.write then [] else (s'.readObj ⟨p.2.index, p.2.sub, p.2.inst⟩).2))
    else
      let at? := codes.length - 1
      let code := codes.getLastD 0
      let s := if code = 0x30 then s.refuseAuthority src else s
      (s, (List.range es.length).map fun i => (if i = at? then code else 0x40, []))
  else s.applyEach src es

/-- A staged request commits; the response goes to its source. -/
def State.commitStaged (s : State) (x : Staged) : State :=
  let (s, l) := s.commitEntries x.src x.transaction x.entries
  if x.fanOut then s.fanResult (s.nat 0x2011 1 0) (overallOf l)
  else s.respond x.src x.sequence { overall := overallOf l, entries := l }

/-- TRANSACTION_COMMIT: at most 4 requests at each turn boundary, in order of receipt, once the moves of the turn have been issued
(R176). Each is a command at the dictionary server's input (R474). -/
def execTransactionCommit (t : Tick) (s : State) : Host.Outcome State Fault Refusal :=
  s.boot t 0 fun s =>
    if s.access.commitTurn = some (s.now / usTicks) ∨ (!s.run.recovery ∧ s.turnDone ≠ some (s.now / usTicks)) then s
    else
      let due := (s.access.staged.takeWhile fun x => decide (x.due ≤ s.now)).take 4
      if due.isEmpty then s
      else
        let s := s.setAccess { s.access with
          staged := s.access.staged.drop due.length, commitTurn := some (s.now / usTicks) }
        due.foldl (fun s x => s.place 12 (.request x) fun s => s.commitStaged x) s

/-- The octets of the response that a request would get. -/
def State.responseOctets (s : State) (es : List Entry) : Nat :=
  es.foldl (fun n e =>
    n + 3 + (if e.write then 0
      else match s.locate ⟨e.index, e.sub, e.inst⟩ with
        | .ok r => r.length ⟨e.index, e.sub, e.inst⟩
        | .error _ => 0)) 2

/-- The octets of a segment that this chip sends, from the object as it stands (R299, R303, R379). -/
def State.segmentAt (s : State) (a : Addr) (offset count : Nat) : List Nat :=
  if a.index = 0x8050 then (List.range count).map fun i => (s.capture a.inst).octet a.inst (offset + i)
  else ((s.readOctets a).drop offset).take count

/-- The segments from one offset up to another, at most 1,016 octets each. -/
def State.sendSegments (s : State) (x : Transfer) (from? to? : Nat) : Transfer :=
  { x with segments := (List.range ((to? - from? + 1015) / 1016)).map fun i =>
      (from? + 1016 * i, s.segmentAt x.addr (from? + 1016 * i) (min 1016 (to? - (from? + 1016 * i)))) }

/-- A segmented transfer is asked for (R379): a read starts to send, a write waits for its segments. -/
def State.openTransfer (s : State) (node sequence : Nat) (e : Entry) : State :=
  let a : Addr := ⟨e.index, e.sub, e.inst⟩
  let s := s.noteRequest node
  let x : Transfer :=
    { node, sequence, write := e.write, addr := a, length := e.length, next := 0, sent := 0, data := [], resends := 0, lastAt := s.now }
  match s.locate a with
  | .error c => s.respond node sequence (oneResult c)
  | .ok r =>
    if e.write then
      if r.access = .ro then s.respond node sequence (oneResult 0x20)
      else if s.standby then s.respond node sequence (oneResult 0x31)
      else if s.authorityOf node < r.need then (s.refuseAuthority node).respond node sequence (oneResult 0x30)
      else if a = ⟨0x9010, 1, 0⟩ ∧ e.length ≤ 1572864 then s.setAccess { s.access with transfers := x :: s.access.transfers }
      else s.respond node sequence (oneResult 0x13)
    else
      if r.access = .wo then s.respond node sequence (oneResult 0x21)
      else if r.length a ≠ e.length then s.respond node sequence (oneResult 0x13)
      else
        let y := s.sendSegments { x with sent := min e.length 8128 } 0 (min e.length 8128)
        s.setAccess { s.access with transfers := y :: s.access.transfers }

/-- A request is taken in: answered again, refused as a whole, opened as a transfer, or staged. -/
def State.takeRequest (s : State) (node sequence flags : Nat) (parses : Bool) (es : List Entry) : State :=
  match (bget ([] : List (Nat × Response)) s.access.kept node).find? fun p => decide (p.1 = sequence) with
  | some (_, r) => (s.noteRequest node).setAccess { s.access with lastResponse := some (node, sequence, r) }
  | none =>
    let s := s.noteRequest node
    let long := es.any fun e => decide (1000 < e.length)
    if s.access.staged.any (fun x => decide (x.src = node) && decide (x.sequence = sequence)) ||
        s.access.transfers.any (fun x => decide (x.node = node) && decide (x.sequence = sequence)) then s
    else if !parses || decide (4 ≤ flags) || es.isEmpty || decide (32 < es.length) || (long && decide (es.length ≠ 1)) then
      s.respond node sequence { overall := 0x41, entries := [] }
    else if long then
      match es with
      | e :: _ => s.openTransfer node sequence e
      | [] => s
    else if 1024 < s.responseOctets es then s.respond node sequence { overall := 0x41, entries := [] }
    else if 8 ≤ s.access.staged.length then s.respond node sequence { overall := 0x42, entries := [] }
    else
      s.setAccess { s.access with staged := s.access.staged ++
        [{ src := node, sequence, transaction := flags.testBit 0, entries := es, due := s.commitDue }] }

/-- A frame of a ring node with this sequence was taken within the past 1 ms: this is the copy of the other path (R364). -/
def State.sawCopy (s : State) (node sequence : Nat) : Bool :=
  decide (node ≠ 0) && s.ring.taken.any fun p => decide (p.1 = node) && decide (p.2.1 = sequence) && decide (s.now < p.2.2 + msTicks)

def State.noteCopy (s : State) (node sequence : Nat) : State :=
  if node = 0 then s
  else { s with ring := { s.ring with taken := (node, sequence, s.now) :: s.ring.taken.filter fun p => decide (s.now < p.2.2 + msTicks) } }

/-- REQUEST_FRAME: a copy of a frame taken within 1 ms is discarded (R364); a node outside the mask of a fan-out ignores it (R387); a chip that has not joined the ring hears only its
maintenance port. -/
def execRequestFrame (t : Tick) (node : NodeId) (sequence flags : Nat) (mask : List NodeId) (parses : Bool) (entries : List Entry)
    (s : State) : Host.Outcome State Fault Refusal :=
  s.boot t node fun s =>
    if node.val ≠ 0 ∧ s.ringCode = 0 then s
    else if s.sawCopy node sequence then s
    else if flags.testBit 1 ∧ !(mask.any fun m => decide (m.val = s.nat 0x2011 1 0)) then s
    else (s.noteCopy node sequence).takeRequest node sequence flags parses entries

/-- FORWARDED_WRITE_APPLY (R337): the standby applies what the active has accepted. -/
def execForwardedWriteApply (t : Tick) (src : NodeId) (entries : List Entry) (transaction : Bool) (s : State) :
    Host.Outcome State Fault Refusal :=
  s.live t fun s =>
    if s.standby then
      s.place 12 (.forwarded src entries transaction) fun s => (s.commitEntries (innerSource 3 src) transaction entries).1
    else s

/-! ### Segments (R379, R389) -/

def State.transfer (s : State) (node sequence : Nat) : Option Transfer :=
  s.access.transfers.find? fun x => decide (x.node = node) && decide (x.sequence = sequence)

/-- A transfer changes. -/
def State.putTransfer (s : State) (y : Transfer) : State :=
  s.setAccess { s.access with
    transfers := s.access.transfers.map fun x => if x.node = y.node ∧ x.sequence = y.sequence then y else x }

/-- The octets of an install that follow those of its transfer: whole lines are programmed in the slot, the rest waits (R427). -/
def State.programImage (s : State) (x : Transfer) (os : List Nat) : State :=
  let buffer := x.data ++ os
  let whole := buffer.length / 32 * 32
  let s := s.setStorage (s.storage.programSlot s.storage.idle (x.next - x.data.length) (buffer.take whole))
  (s.putTransfer { x with next := x.next + os.length, data := buffer.drop whole, lastAt := s.now }).put 0x9010 3 0
    ((x.next + os.length : Nat) : Int)

/-- The octets of an image as they arrive: the header opens the install, the rest is written to the slot. -/
def State.imageOctets (s : State) (x : Transfer) (os : List Nat) : State :=
  if s.storage.install && decide (s.storage.installSrc = x.node) && decide (s.storage.installSeq = x.sequence) then
    s.programImage x os
  else
    let data := x.data ++ os
    if 256 ≤ data.length then
      let s := ((s.dropTransfer x.node x.sequence).result 0).beginInstall x.node x.sequence x.length (data.take 256)
      if s.lastResult = 0 then
        match s.transfer x.node x.sequence with
        | some y => s.programImage y (data.drop 256)
        | none => s
      else s.respond x.node x.sequence (oneResult s.lastResult)
    else s.putTransfer { x with next := x.next + os.length, data := data, lastAt := s.now }

/-- A transfer that fails: its install ends as aborted (R429). -/
def State.failTransfer (s : State) (x : Transfer) : State :=
  if s.storage.install && decide (s.storage.installSrc = x.node) && decide (s.storage.installSeq = x.sequence) then s.abortInstall
  else s.dropTransfer x.node x.sequence

/-- SEGMENT_FRAME: the next octets of a write, else a transfer abort with 0x51. -/
def execSegmentFrame (t : Tick) (node : NodeId) (sequence offset : Nat) (octets : List Nat) (s : State) :
    Host.Outcome State Fault Refusal :=
  s.boot t node fun s =>
    match s.transfer node sequence with
    | some x =>
      if x.write ∧ offset = x.next ∧ x.next + octets.length ≤ x.length ∧ octets ≠ [] ∧ octets.length ≤ 1016 then s.imageOctets x octets
      else (s.failTransfer x).sendAbort node sequence 0x51
    | none => s.sendAbort node sequence 0x51

/-- SEGMENT_ACKNOWLEDGEMENT: the other end of a read expects the octets from an offset on; up to 8 segments follow. -/
def execSegmentAcknowledgement (t : Tick) (node : NodeId) (sequence next : Nat) (s : State) :
    Host.Outcome State Fault Refusal :=
  s.boot t node fun s =>
    match s.transfer node sequence with
    | some x =>
      if x.write ∨ next < x.next ∨ x.sent < next then s
      else if next = x.length then (s.dropTransfer node sequence).respond node sequence (oneResult 0)
      else if next = x.next then s
      else
        let to? := min x.length (next + 8128)
        s.putTransfer (s.sendSegments { x with next := next, sent := to?, resends := 0, lastAt := s.now } x.sent to?)
    | none => s

/-- TRANSFER_ABORT from the other end: it changes nothing once the last segment has been applied (R389). -/
def execTransferAbort (t : Tick) (node : NodeId) (sequence _code : Nat) (s : State) : Host.Outcome State Fault Refusal :=
  s.boot t node fun s =>
    match s.transfer node sequence with
    | some x => if x.write ∧ x.next = x.length then s else s.failTransfer x
    | none => s

/-- SEGMENT_RESEND_TIMEOUT: 20 ms without an acknowledgement; after 3 resends the transfer is aborted with 0x50. -/
def execSegmentResendTimeout (t : Tick) (node : NodeId) (sequence : Nat) (s : State) : Host.Outcome State Fault Refusal :=
  s.boot t node fun s =>
    match s.transfer node sequence with
    | some x =>
      if ¬ x.write ∧ x.lastAt + 20 * msTicks ≤ s.now then
        if 3 ≤ x.resends then (s.dropTransfer node sequence).sendAbort node sequence 0x50
        else s.putTransfer (s.sendSegments { x with resends := x.resends + 1, lastAt := s.now } x.next x.sent)
      else s
    | none => s

end Sys2Proof.Machine
end

