-- ==== Sys2Proof/Machine/Ring.lean ====
section
/-! DEFINITION. The Biale ring: ports, wrap and isolation, the ring cycle and its master, and the cyclic images (chapter 15;
R360 to R373, R390). -/

namespace Sys2Proof.Machine

def State.setRing (s : State) (x : Ring) : State := { s with ring := x }

/-! ### Ports, wrap and isolation (R364, R365) -/

/-- The object of a port's link (0x1100.02 and .03), and of its CRC-failed frames (.06 and .07). -/
def portLink : Port → Nat
  | .east => 2
  | .west => 3
def portFails : Port → Nat
  | .east => 6
  | .west => 7
def portOther : Port → Port
  | .east => .west
  | .west => .east

def State.portUp (s : State) (p : Port) : Bool := decide (s.cfg 0x1100 (portLink p) 0 = 1)
def State.setLink (s : State) (p : Port) (up : Bool) : State := s.put 0x1100 (portLink p) 0 (if up then 1 else 0)

/-- The node wraps around a dead port (R364). -/
def State.wrapAt (s : State) (p : Port) : State :=
  if s.ring.wrapped = some p then s.setRing { s.ring with goodSince := none, checkBack := false }
  else (s.setRing { s.ring with wrapped := some p, goodSince := none, checkBack := false }).raise (ev 0x7101 0)

/-- PORT_LINK_DOWN (R364): no valid symbol for 4 µs. -/
def execPortLinkDown (t : Tick) (port : Port) (s : State) : Host.Outcome State Fault Refusal :=
  s.live t fun s =>
    let s := s.setLink port false
    if !s.run.joined then s
    else if s.portUp (portOther port) then s.wrapAt port
    else if s.ring.bothDown.isSome then s
    else s.setRing { s.ring with wrapped := none, goodSince := none, checkBack := false, bothDown := some s.now }

/-- RING_PORT_LINK_UP (R364): valid symbols return. A node with one port still down wraps there. -/
def execRingPortLinkUp (t : Tick) (port : Port) (s : State) : Host.Outcome State Fault Refusal :=
  s.live t fun s =>
    let s := s.setLink port true
    let s := s.setRing { s.ring with bothDown := none, isolated := false }
    if !s.run.joined then s
    else if s.ring.wrapped = some port then
      (if s.ring.goodSince.isSome then s else s.setRing { s.ring with goodSince := some s.now })
    else if s.portUp (portOther port) then s
    else s.wrapAt (portOther port)

/-- RING_UNWRAP (R365): at a cycle start, once the dead port has been good for 1 s and the ring check has come back. -/
def execRingUnwrap (t : Tick) (s : State) : Host.Outcome State Fault Refusal :=
  s.live t fun s =>
    if s.ring.wrapped.isSome ∧ s.ring.checkBack ∧ s.since s.ring.goodSince secTicks then
      (s.setRing { s.ring with wrapped := none, goodSince := none, checkBack := false }).raise (ev 0x7102 0)
    else s

/-! ### Receive maps (R372) -/

/-- Entry `e` of the receive map in force: its target, source word and fallback value; `none` where it is empty. -/
def State.receiveEntry (s : State) (e : Nat) : Option (Addr × Nat × Int) :=
  let at' (i : Nat) : Int := bget 0 s.ring.maps ⟨i, e + 1, 0⟩
  if at' 0x1600 = 0 then none
  else some (addrWord (at' 0x1600).toNat (at' 0x1601).toNat, (at' 0x1602).toNat, at' 0x1603)

/-- The entries in force that take from a node. -/
def State.entriesFrom (s : State) (node : Nat) : List (Addr × Nat × Int) :=
  ((List.range 64).filterMap s.receiveEntry).filter fun x => decide (x.2.1 / 0x10000 % 0x100 = node)

/-- The nodes that the receive map in force takes images from. -/
def State.imageSources (s : State) : List Nat :=
  (((List.range 64).filterMap s.receiveEntry).map fun x => x.2.1 / 0x10000 % 0x100).eraseDups

/-- The number that little-endian octets give a type. -/
def ObjType.ofOctets (t : ObjType) (os : List Nat) : Int :=
  let v := leValue os
  match t with
  | .i8 | .i16 | .i32 | .i64 => if 2 * v < 256 ^ t.size then (v : Int) else (v : Int) - (256 ^ t.size : Nat)
  | _ => v

/-- A mapped value is written with operator authority; a refused one is skipped and counted. On a standby no write of its own
is accepted (R337). -/
def State.writeMapped (s : State) (node : Nat) (a : Addr) (os : List Nat) : State :=
  match s.locate a with
  | .ok r =>
    if r.type = .octets ∨ os.length < r.type.size ∨ (s.standby ∧ !standbyTakes a) then s.bump 0x1604 2 0
    else
      let s := s.writeObj (innerSource 1 node) a (r.type.ofOctets (os.take r.type.size)) [] r.type.size
      if 0x10 ≤ s.lastResult then s.bump 0x1604 2 0 else s
  | .error _ => s.bump 0x1604 2 0

/-- Fallback values, once for a source. -/
def State.fallBack (s : State) (node : Nat) : State :=
  let x := bget ({} : ImageSrc) s.ring.images node
  if x.fallen then s
  else
    let s := s.setRing { s.ring with images := bset s.ring.images node { x with fallen := true } }
    ((s.entriesFrom node).filter fun e => e.2.1.testBit 31).foldl (fun s e => s.writeMapped node e.1 (leOctets 8 e.2.2)) s

/-- All the entries taken from an image of a node are applied, as one transaction. -/
def State.applyOctets (s : State) (node : Nat) (os : List Nat) : State :=
  (s.entriesFrom node).foldl (fun s e => s.writeMapped node e.1 (os.drop (e.2.1 % 0x10000))) s

/-- The image of a node that waits is a command at a turn boundary (R37, R372). -/
def State.applyImage (s : State) (node : Nat) : State :=
  let x := bget ({} : ImageSrc) s.ring.images node
  match x.waiting with
  | some os =>
    (s.setRing { s.ring with images := bset s.ring.images node { x with waiting := none } }).place 12 (.image node os) fun s =>
      s.applyOctets node os
  | none => s

def State.applyImages (s : State) : State :=
  ((s.ring.images.filter fun p => p.2.waiting.isSome).map fun p => p.1).foldl State.applyImage s

/-- NODE_ISOLATED (R365): both ports down for 3 cycles. -/
def execNodeIsolated (t : Tick) (s : State) : Host.Outcome State Fault Refusal :=
  s.live t fun s =>
    if s.run.joined ∧ ¬ s.ring.isolated ∧ s.since s.ring.bothDown (3 * s.ring.cycleLength * usTicks) then
      let s := (s.setRing { s.ring with isolated := true }).raise (ev 0x7103 0)
      s.imageSources.foldl State.fallBack s
    else s

/-! ### The ring cycle (R369 to R371) -/

/-- The values of this node's image, in entry order, without gaps. -/
def State.buildImage (s : State) : List Nat :=
  (List.range 64).flatMap fun e =>
    let w := (bget 0 s.ring.maps ⟨0x1400, e + 1, 0⟩).toNat
    if w = 0 then []
    else
      let a := addrWord w (bget 0 s.ring.maps ⟨0x1401, e + 1, 0⟩).toNat
      leOctets (s.sizeOf a) (s.readVal a)

/-- The maps that are written come into force (R390). -/
def State.loadMaps (s : State) : State :=
  let inMap (a : Addr) : Bool := decide (0x1400 ≤ a.index ∧ a.index < 0x1402) || decide (0x1600 ≤ a.index ∧ a.index < 0x1604)
  s.setRing { s.ring with maps := s.obj.filter fun p => inMap p.1 }

/-- A source's image was missing in the cycle that ends, or it came. -/
def State.countImage (s : State) (node : Nat) : State :=
  let x := bget ({} : ImageSrc) s.ring.images node
  let s := if x.seen then s else s.bump 0x1604 1 0
  let y := { x with seen := false, missed := if x.seen then 0 else x.missed + 1 }
  s.setRing { s.ring with images := bset s.ring.images node y }

/-- A cycle starts at this node: the image is sampled and sent, unless another node has this node's ID (R366). -/
def State.onCycle (s : State) (number length master : Nat) : State :=
  let s := s.imageSources.foldl State.countImage s
  let s := ((s.put 0x1100 5 0 number).put 0x1100 4 0 master).loadMaps
  s.setRing { s.ring with
    cycleAt := some s.now, cycleLength := length, sent := (if s.ring.duplicate then [] else s.buildImage)
    sequence := (s.ring.sequence + 1) % 4096 }

/-- Another node has this node's ID (R366). -/
def State.markDuplicate (s : State) : State :=
  if s.ring.duplicate then s else (s.setRing { s.ring with duplicate := true }).raise (ev 0x7202 0)

/-- CYCLE_START_FRAME (R366, R369, R370). `turned` is the frame's wrapped flag. A master's own cycle start returns to it and is
stripped; a master that sees a lower ID stops. -/
def execCycleStartFrame (t : Tick) (node : NodeId) (cycle lengthMicroSeconds : Nat) (turned : Bool) (s : State) :
    Host.Outcome State Fault Refusal :=
  s.live t fun s =>
    if s.ringCode = 0 then s
    else
      let own := s.nat 0x2011 1 0
      let s := s.setRing { s.ring with wrappedElsewhere := turned }
      if s.ring.master ∧ own ≤ node.val then s
      else
        let s := if node.val = own then s.markDuplicate else s
        (s.setRing { s.ring with master := false }).onCycle (cycle % 0x100000000) lengthMicroSeconds node

/-- The master's next cycle start goes out: at its own 0x1101.01. -/
def State.sendCycle (s : State) : State :=
  s.onCycle ((s.nat 0x1100 5 0 + 1) % 0x100000000) (s.nat 0x1101 1 0) (s.nat 0x2011 1 0)

/-- CYCLE_START_SEND (R369, R370): once per cycle, with a ring check on the secondary path. A node whose 0x1101.02 has been
cleared is no longer the master. -/
def execCycleStartSend (t : Tick) (s : State) : Host.Outcome State Fault Refusal :=
  s.live t fun s =>
    if s.ringCode ≠ 0 ∧ s.ring.master ∧ s.since s.ring.cycleAt (s.ring.cycleLength * usTicks) then
      if s.cfg 0x1101 2 0 = 1 then s.sendCycle else s.setRing { s.ring with master := false }
    else s

/-- MASTER_TAKEOVER (R370): no cycle start for 3 cycles, and then for 10 µs × the node ID. -/
def execMasterTakeover (t : Tick) (s : State) : Host.Outcome State Fault Refusal :=
  s.live t fun s =>
    if s.ringCode ≠ 0 ∧ s.cfg 0x1101 2 0 = 1 ∧ ¬ s.ring.master ∧
        s.since s.ring.cycleAt ((3 * s.ring.cycleLength + 10 * s.nat 0x2011 1 0) * usTicks) then
      (s.setRing { s.ring with master := true }).sendCycle
    else s

/-- CYCLIC_IMAGE_FRAME (R372): the image waits for the next turn boundary. -/
def execCyclicImageFrame (t : Tick) (node : NodeId) (octets : List Nat) (s : State) : Host.Outcome State Fault Refusal :=
  s.live t fun s =>
    if s.ringCode = 0 ∨ !s.imageSources.contains node.val then s
    else s.setRing { s.ring with
      images := bset s.ring.images node.val { seen := true, waiting := some octets } }

/-- IMAGE_TIMEOUT (R372): 3 consecutive cycles without a source's image. -/
def execImageTimeout (t : Tick) (node : NodeId) (s : State) : Host.Outcome State Fault Refusal :=
  s.live t fun s =>
    let x := bget ({} : ImageSrc) s.ring.images node.val
    if 3 ≤ x.missed ∧ ¬ x.raised ∧ s.imageSources.contains node.val then
      ((s.setRing { s.ring with images := bset s.ring.images node.val { x with raised := true } }).raise
        { ev 0x7301 0 with value := x.missed, limit := 3 }).fallBack node
    else s

/-- RING_CHECK_FRAME (R365, R366): a check of another node, or the master's own, shows the secondary path whole. -/
def execRingCheckFrame (t : Tick) (node : NodeId) (_cycle : Nat) (s : State) : Host.Outcome State Fault Refusal :=
  s.live t fun s =>
    if s.ringCode = 0 then s
    else if node.val = s.nat 0x2011 1 0 ∧ ¬ s.ring.master then s.markDuplicate
    else if s.ring.wrapped.isSome then s.setRing { s.ring with checkBack := true }
    else s

/-- CRC_FAILED_FRAME (R367). -/
def execCrcFailedFrame (t : Tick) (port : Port) (s : State) : Host.Outcome State Fault Refusal :=
  s.live t fun s =>
    let s := s.bump 0x1100 (portFails port) 0
    let recent (l : List Tick) : List Tick := s.now :: (l.filter fun a => decide (s.now < a + secTicks)).take 31
    match port with
    | .east =>
      let s := s.setRing { s.ring with eastFails := recent s.ring.eastFails }
      if 10 < s.ring.eastFails.length then s.raiseLimited 0 { ev 0x7201 0 with value := s.ring.eastFails.length, limit := 10 } else s
    | .west =>
      let s := s.setRing { s.ring with westFails := recent s.ring.westFails }
      if 10 < s.ring.westFails.length then s.raiseLimited 1 { ev 0x7201 0 with value := s.ring.westFails.length, limit := 10 } else s

end Sys2Proof.Machine
end

