-- ==== Sys2Proof/Machine/Inject.lean ====
section
/-! DEFINITION. What an injected event does (R310, R327): the full reaction of its code, by the table that defines it. -/

namespace Sys2Proof.Machine

/-- The stop that a code gives the cells that own it: the orderly one of its table, else the immediate one. -/
def State.stopOwner (s : State) (code c : Nat) : State :=
  if [0x2101, 0x2103, 0x2105, 0x2403, 0x2501, 0x3105, 0x3112].contains code then s.stopCellOrderly c else s.stopCellNow c

/-- The cells that own an event stop (pip 4). -/
def State.stopOwners (s : State) (e : Event) : State :=
  e.faultOwners.foldl (fun s o =>
    match o with
    | .cell c => s.stopOwner e.code c
    | _ => s) s

/-- A context of the block enters FAULT with its output frozen (0x2105), where it is enabled. -/
def State.freezeCtx (s : State) (k : Nat) : State :=
  match (s.ctx k).state with
  | .disabled | .fault => s
  | _ => s.setCtx k { s.ctx k with state := .fault, uHold := (s.ctx k).u, ready := none }

/-- The reaction of a code of the cells, engines, roles and group managers below pip 4 (Tables 03-2, 04-9, 05-8). -/
def State.reactGroups (s : State) (e : Event) : State :=
  let groups := (List.range 4).map (4 * e.inst + ·)
  match e.code with
  | 0x1203 => s.setCell e.inst { s.cell e.inst with slopeLost := true }
  | 0x1204 => s.setCell e.inst { s.cell e.inst with noRipple := true }
  | 0x1205 => s.setCell e.inst { s.cell e.inst with slopeLost := false }
  | 0x2404 => groups.foldl (fun s g => if s.role g = 1 ∧ (s.group g).state = .run then s.setGroupState g .mainsWait else s) s
  | 0x2405 => groups.foldl (fun s g => if s.role g = 2 then s.waitUpstream g else s) s
  | _ => s

/-- The reaction of a code of the chip's trackers, rings, feeds, strings and storage below pip 4. -/
def State.reactServices (s : State) (e : Event) : State :=
  match e.code with
  | 0x4612 => if s.frameState = 2 then s.toFrame 3 else s
  | 0x4613 => s.setFrame { s.frame with suspended := true, interrupted := true }
  | 0x4614 => s.discardForecasts 2
  | 0x4615 => if s.frameState = 0 then s else s.acquireFrame
  | 0x4705 => s.watchdogMissed
  | 0x4816 => s.ringOnly
  | 0x5101 | 0x5201 =>
    if s.feedLive e.inst then ((s.bump 0x6820 9 e.inst).put 0x6820 0xA e.inst e.code).toFeed e.inst .cooldown .zero else s
  | 0x5501 => s.setFeed e.inst { s.feed e.inst with vdsLost := true, isnsLost := true }
  | 0x6301 => (s.put 0x7030 5 e.inst 1).setStr e.inst { s.str e.inst with countState := 1 }
  | 0x6303 => s.disconnectString e.inst
  | 0x6401 | 0x6403 => s.setStr e.inst { s.str e.inst with permitted := false, permitSince := none }
  | 0x7103 => s.imageSources.foldl State.fallBack (s.setRing { s.ring with isolated := true })
  | 0x7202 => s.setRing { s.ring with duplicate := true }
  | 0x8101 => if s.standby then { s with twinState := .detached } else s
  | 0x8103 => if s.standby then s.enterReset 9 0x8103 else s
  | 0x8104 => if s.twinState = .inStep then { s with twinState := .suspect } else s
  | 0x8105 => if s.standby then s.takeover 6 else s
  | 0x9203 => if s.storage.phase = 1 then s.endStore 2 else s
  | 0x9301 => if s.storage.install && !s.storage.installWritten then s.endInstall 10 5 else s
  | _ => s

/-- The full reaction of a code (R309, R310, R327). -/
def State.react (s : State) (e : Event) : State :=
  let code := e.code
  match pipOf code with
  | 4 =>
    if code / 0x1000 = 5 then ((s.bump 0x6820 9 e.inst).put 0x6820 0xA e.inst code).toFeed e.inst .latched .zero
    else
      let s := if code = 0x2105 then ((List.range 16).map (16 * e.inst + ·)).foldl State.freezeCtx s else s
      s.stopOwners e
  | 5 =>
    if code / 0x1000 = 5 then s.weldEffects e.inst
    else if code = 0x2601 then
      (((s.put 0x4030 1 e.inst 1).put 0x4030 7 e.inst 1).put 0x4030 6 e.inst 1).stopBlockNow e.inst
    else s.stopBlockNow e.inst
  | 6 => if code = 0x4702 ∨ code = 0x4703 then s.enterReset 3 code else s.reactPip6 code
  | _ => if code < 0x3000 then s.reactGroups e else s.reactServices e

/-- The injected events of a turn enter with their reactions. -/
def State.turnInjections (s : State) : State :=
  let es := s.run.injected
  es.foldl (fun s e => (s.raise e).react e) (s.setRun { s.run with injected := [] })

end Sys2Proof.Machine
end

