-- ==== Sys2Proof/Machine/Moves.lean ====
section
/-! DEFINITION. The moves of the turn track (R175, R176, R180, R187, R188, R190 to R193, R196): which moves are due in a
turn, and what their actions do. -/

namespace Sys2Proof.Machine

def State.move (s : State) (n : Nat) : MoveT := bget {} s.moves n
def State.setMove (s : State) (n : Nat) (x : MoveT) : State := { s with moves := bset s.moves n x }

/-- The control word of a move (Table 07-4). -/
def State.moveControl (s : State) (n : Nat) : Nat := s.nat 0x2300 1 n

/-- A number enters an ascending list once. -/
def insertNat (n : Nat) : List Nat → List Nat
  | [] => [n]
  | m :: r => if n = m then m :: r else if n < m then n :: m :: r else m :: insertNat n r

/-- The enabled moves in place order. -/
def State.enabledMoves (s : State) : List Nat :=
  ((s.obj.filter fun p => decide (p.1.index = 0x2300 ∧ p.1.sub = 1) && p.2.toNat.testBit 31).map fun p => p.1.inst).foldl
    (fun l n => insertNat n l) []

/-- What an enabled move does in a turn: nothing, an occurrence at which it is suspended, or a run, late or not. -/
inductive Due where
  | no
  | suspended
  | run (late : Bool)
  deriving DecidableEq, Repr

/-- Whether a position lies in the span from `a` up to `b`, modulo 65,536 (R175). -/
def inSpan (p a b : Nat) : Bool := decide ((p + 65536 - a) % 65536 < (b + 65536 - a) % 65536)

/-- A move on FT: a once move in the turn of its time, or late if that has passed; a repeating one at each interval from its
time on. -/
def State.dueFree (s : State) (n control : Nat) : Due :=
  let at' := control % 0x10000 * 0x100000000 + s.nat 0x2300 2 n
  let d := (s.freeTime + 2 ^ 48 - at') % 2 ^ 48
  if 2 ^ 47 ≤ d then .no
  else if control.testBit 23 then (if d % max 1 (s.nat 0x2300 3 n) = 0 then .run false else .no)
  else .run (decide (d ≠ 0))

/-- Whether a position in a span is an occurrence for a move that counts cycles: once in a cycle, and a repeating move at
every n-th cycle from its first (R187, R192). `cycle` is the cycle at the start of the span. -/
def State.occurs (s : State) (n control a b cycle : Nat) : Option Nat :=
  let p := control % 0x10000
  let x := s.move n
  if inSpan p a b then
    let c := if p < a then cycle + 1 else cycle
    if x.lastCycle = some c then none
    else
      match x.firstCycle with
      | some f => if !control.testBit 23 || decide ((c - f) % max 1 (s.nat 0x2300 2 n) = 0) then some c else none
      | none => some c
  else none

/-- The time from which the positions of a time base are due at the start of a turn: the start itself, or a later setting of the
time base within the turn before, whose positions from the new value on have still to come (R175, R187). -/
def State.spanFrom (s : State) (set : Tick) : Tick := if s.turnAt < set + usTicks then min set s.turnAt else s.turnAt

/-- The occurrence of a move in the turn that starts, on the angle of its phase or on the frame position. -/
def State.occurrence (s : State) (n control : Nat) : Option Nat :=
  let base := control / 0x10000000 % 8
  if base = 1 then
    let a := s.spanFrom s.frame.alignAt
    s.occurs n control (s.positionAt a) (s.positionAt (s.turnAt + usTicks)) (s.frameCycle a)
  else
    let a := s.spanFrom (s.mainsT (base - 2)).zeroAt
    s.occurs n control (s.angleAt (base - 2) a) (s.angleAt (base - 2) (s.turnAt + usTicks)) (s.mainsCycle (base - 2) a)

/-- A period in µs, rounded. -/
def roundMicro (period : Nat) : Nat := (2 * period + usTicks) / (2 * usTicks)

/-- Whether a move on FP is suspended at an occurrence (R188); a forecast move runs only while R196 holds. -/
def State.frameSuspends (s : State) (n control : Nat) : Bool :=
  (control.testBit 22 && (s.frame.discarded || (decide (s.frameState ≠ 2) && s.guardBeyond))) ||
    (decide (960 ≤ n) && decide (s.cfg 0x2230 7 0 = 1) && !s.forecastsAble)

/-- What a move on FP, or on MA (R180), does at the start of a turn. -/
def State.dueAngle (s : State) (n control : Nat) : Due × Option Nat :=
  let base := control / 0x10000000 % 8
  let o := s.occurrence n control
  if base = 1 then
    if s.frameState < 2 then (.no, none)
    else if o.isNone then (.no, none)
    else (if s.frameSuspends n control then .suspended else .run false, o)
  else
    let ph := base - 2
    if s.mainsState ph < 2 then (.no, none)
    else if s.mainsState ph = 4 ∧ control.testBit 22 then
      match (s.move n).lastRun with
      | some r =>
        let step := s.nat 0x2300 2 n * roundMicro (s.mainsT ph).period
        if r + step * usTicks ≤ s.turnAt then (.run false, some (s.mainsCycle ph s.turnAt)) else (.no, none)
      | none => if o.isNone then (.no, none) else (.run false, o)
    else if o.isNone then (.no, none)
    else (if s.mainsState ph = 4 then .suspended else .run false, o)

/-- What an enabled move does at the start of a turn, with the cycle of its occurrence. -/
def State.dueMove (s : State) (n : Nat) : Due × Option Nat :=
  let control := s.moveControl n
  if s.turnAt ≤ (s.move n).enabledAt then (.no, none)
  else if control / 0x10000000 % 8 = 0 then (s.dueFree n control, none)
  else s.dueAngle n control

/-! ### Actions (Table 07-5) -/

/-- The value that a move's argument has for a type of 32 bits or fewer. -/
def ObjType.ofArgument (t : ObjType) (w : Nat) : Option Int :=
  match t with
  | .bool | .u8 | .u16 | .u32 => some w
  | .i8 | .i16 | .i32 => some (ObjType.i32.ofOctets (leOctets 4 w))
  | _ => none

/-- Action 1: a write with integrator authority. -/
def State.moveWrite (s : State) (n arg : Nat) : State × Bool :=
  let a := addrWord (s.nat 0x2300 4 n) (s.nat 0x2300 5 n)
  match s.locate a with
  | .ok r =>
    match r.type.ofArgument arg with
    | some v =>
      let s := s.writeObj (innerSource 2 0) a v [] r.type.size
      (s, decide (s.lastResult < 0x10))
    | none => (s, false)
  | .error _ => (s, false)

/-- Actions 2 and 3 on a group: a setpoint step, or a unit added or shed without a dwell (R126, R153, R154). -/
def State.moveSetpointStep (s : State) (g arg : Nat) : State × Bool :=
  if 64 ≤ g ∨ s.upperCopy (g / 4) then (s, false)
  else (s.commandTarget g (s.target g + ObjType.i32.ofOctets (leOctets 4 arg)), true)

def State.movePhase (s : State) (g arg : Nat) : State × Bool :=
  if 64 ≤ g ∨ s.upperCopy (g / 4) ∨ !(s.rampUnits g).isEmpty then (s, false)
  else
    match (match arg with
      | 1 => s.phaseAdd g
      | 2 => s.phaseShed g
      | _ => none) with
    | some s' => (s', true)
    | none => (s, false)

/-- Action 4: a load step for a group, or for a pool (R155, R162). -/
def State.moveLoadStep (s : State) (target : Nat) : State × Bool :=
  if target < 0x40 then (s.offerLoadStep target 1, true)
  else if target < 0x44 then (if s.poolOn (target - 0x40) then s.poolLoadStep (target - 0x40) else s, true)
  else (s, false)

/-- The action of a move: the state it leaves, and whether it was done. -/
def State.moveAction (s : State) (n control : Nat) : State × Bool :=
  let arg := s.nat 0x2300 6 n
  let target := s.nat 0x2300 5 n
  match control / 0x1000000 % 16 with
  | 0 => (s, true)
  | 1 => s.moveWrite n arg
  | 2 => s.moveSetpointStep target arg
  | 3 => s.movePhase target arg
  | 4 => s.moveLoadStep target
  | 5 => if arg < 4 then (s.fireCapture arg 2 0 s.turnAt, true) else (s, false)
  | 6 =>
    if arg < 32 then
      let s := s.startProgram arg
      (s, decide (s.cfg 0x2620 6 arg = 0))
    else (s, false)
  | 7 => (s.raise { ev 0x4625 0 with second := n, w4 := arg }, true)
  | _ => (s, false)

/-- A move that is still enabled runs (R192, R193): its action, its count, its timestamp and its result; a once move is then
disabled. -/
def State.runMove (s : State) (n : Nat) (late : Bool) : State :=
  let control := s.moveControl n
  if !control.testBit 31 then s else
  let s := s.setMove n { s.move n with lastRun := some s.turnAt, waits := false }
  let (s, done) := s.moveAction n control
  let s := ((s.bump 0x2300 7 n).put 0x2300 8 n (s.stamp s.turnAt)).put 0x2300 9 n (if !done then 2 else if late then 4 else 1)
  let s := if done then s else s.raiseLimited n { ev 0x4622 0 with second := n }
  let s := if late then (s.bump 0x2220 2 0).raiseLimited n { ev 0x4621 0 with second := n } else s
  if control.testBit 23 then s else s.put 0x2300 1 n (s.cfg 0x2300 1 n % 0x80000000)

/-- An occurrence at which a move is suspended (R193): it is not made up (R180). -/
def State.suspendMove (s : State) (n : Nat) : State :=
  ((s.put 0x2300 9 n 3).put 0x2300 8 n (s.stamp s.turnAt)).setMove n { s.move n with waits := false }

/-- The moves to be issued in a turn in place order, late or not, and the state with their occurrences noted. -/
def State.noteDue (s : State) : List Nat → State × List (Nat × Bool) × Nat
  | [] => (s, [], 0)
  | n :: r =>
    let x := s.move n
    match s.dueMove n with
    | (.suspended, _) =>
      let (s, l, k) := (s.suspendMove n).noteDue r
      (s, l, k + 1)
    | (.run late, c) =>
      let y := { x with lastCycle := c, firstCycle := if x.firstCycle.isSome then x.firstCycle else c }
      let (s, l, k) := (s.setMove n y).noteDue r
      (s, (n, late || x.waits) :: l, if x.waits then k else k + 1)
    | (.no, _) =>
      let (s, l, k) := s.noteDue r
      (s, if x.waits then (n, true) :: l else l, k)

/-- The moves of a turn (R175): at most 32 are issued, and the rest wait. Each is a command at the turn track's input of the chip
arbiter (R37, R176). -/
def State.turnMoves (s : State) : State :=
  let (s, due, count) := s.noteDue s.enabledMoves
  let s := if s.cfg 0x2220 3 0 < min 255 count then s.put 0x2220 3 0 (min 255 count : Nat) else s
  let s := (due.drop 32).foldl (fun s p => s.setMove p.1 { s.move p.1 with waits := true }) s
  (due.take 32).foldl (fun s p => s.place 9 (.move p.1 p.2) fun s => s.runMove p.1 p.2) s

end Sys2Proof.Machine
end

