-- ==== Sys2Proof/Machine/Turn.lean ====
section
/-! DEFINITION. The start of a turn (R175): what happens once in every 1 µs. -/

namespace Sys2Proof.Machine

/-- The watch slots that are set are read (R273). -/
def State.turnWatch (s : State) : State :=
  let set := (List.range 16).filter fun i => decide (s.cfg 0x2530 (i + 1) 0 ≠ 0)
  { s with watch := set.map fun i =>
      let w := s.nat 0x2530 (i + 1) 0
      (i, (s.readVal (addrWord w (s.nat 0x2531 (i + 1) 0))).toNat.testBit (w % 32)) }

/-- The CRC of the turn that ends, on a chip whose twin link is up (R336). -/
def State.turnTwinCrc (s : State) : State :=
  if s.cfg 0x1200 3 0 = 2 then s.setTwin { s.twin with crc := s.turnCrc } else s

/-- Whether the anchor of the drill lies in the turn at a time (R356): the low 32 bits of an FT, or a position of FP or MA. -/
def State.anchorAt (s : State) (t : Tick) : Bool :=
  let base := s.nat 0x1230 3 0
  let p := s.nat 0x1230 4 0
  if base = 0 then decide ((s.freeTime + (t - s.turnAt) / usTicks) % 0x100000000 = p)
  else if base = 1 then decide (2 ≤ s.frameState) && inSpan p (s.positionAt t) (s.positionAt (t + usTicks))
  else decide (2 ≤ s.mainsState (base - 2)) && inSpan p (s.angleAt (base - 2) t) (s.angleAt (base - 2) (t + usTicks))

/-- A drill that waits for its anchor proposes its handover when the boundary it would take is the anchor's turn. -/
def State.turnDrill (s : State) : State :=
  if s.twin.drillSince.isSome ∧ s.twinState = .active ∧ s.partnerInStep ∧ s.twin.handover.isNone ∧ s.twin.deferred.isNone ∧
      ¬ s.mustDefer ∧ s.cfg 0x1230 1 0 = 1 ∧ s.cfg 0x1230 5 0 = 0 ∧ s.anchorAt s.boundaryAhead then s.propose 3
  else s

/-- The handovers of a turn: a deferred one goes ahead once nothing defers it (R215), a yield proposes (R321), a drill finds
its anchor (R356). -/
def State.turnTwin (s : State) : State :=
  let s := if s.twin.deferred.isSome ∧ ¬ s.mustDefer then s.endDeferral else s
  s.turnYield.turnDrill

/-- TURN_START. The samples are the conversions of the turn that ends. A turn starts once. -/
def execTurnStart (t : Tick) (samples : List Sample) (s : State) : Host.Outcome State Fault Refusal :=
  s.live t fun s =>
    if s.turnDone = some (s.now / usTicks) then s
    else
      let s := (({ s with turnDone := some (s.now / usTicks) }.turnTwinCrc).applySamples samples).turnCaptures samples
      let s := { s with progSlots := s.progSlots.map fun (p : Nat × SlotT) => (p.1, { p.2 with steps := 0 }) }
      let s := s.turnChannels.turnInjections.turnMoves.applyImages
      let s := s.liveGroups.foldl State.turnGroup s
      let s := (List.range 4).foldl State.turnPool s
      s.turnMap.trackInputs.turnWatch.turnTelemetry.turnTwin

end Sys2Proof.Machine
end

