-- ==== Sys2Proof/Machine/Accept.lean ====
section
/-! DEFINITION. The acceptances of the chip arbiter (R37, R45, R474): what a command that waited at an input does once it is
accepted. -/

namespace Sys2Proof.Machine

/-- The row of the dictionary server that waited, run in the SYS cycle of its acceptance. -/
def State.runRow (s : State) (c : Instr) : State :=
  outcomeState s (match c with
    | .contextEnable t src k value => execContextEnable t src k value s
    | .contextHold t src k => execContextHold t src k s
    | .releaseWithSwap t src k => execReleaseWithSwap t src k s
    | .releaseWithoutSwap t src k => execReleaseWithoutSwap t src k s
    | .groupStart t src g => execGroupStart t src g s
    | .groupOrderlyStop t src g => execGroupOrderlyStop t src g s
    | .groupImmediateStop t src g => execGroupImmediateStop t src g s
    | .setpointTargetWrite t src g milliVolt => execSetpointTargetWrite t src g milliVolt s
    | .doublesWrite t src b value => execDoublesWrite t src b value s
    | .tableCommit t src value => execTableCommit t src value s
    | .restHoldStart t src n => execRestHoldStart t src n s
    | .restHoldAbort t src n => execRestHoldAbort t src n s
    | .capacityTestStart t src n => execCapacityTestStart t src n s
    | .capacityTestAbort t src n => execCapacityTestAbort t src n s
    | .channelOn t src f => execChannelOn t src f s
    | .channelOff t src f => execChannelOff t src f s
    | .channelReset t src f key => execChannelReset t src f key s
    | .forceSelectA t src => execForceSelectA t src s
    | .forceSelectB t src => execForceSelectB t src s
    | .forceAutomatic t src => execForceAutomatic t src s
    | .mapClear t src value => execMapClear t src value s
    | .enAssertCommand t src n => execEnAssertCommand t src n s
    | .enReleaseCommand t src n => execEnReleaseCommand t src n s
    | .programStartCommand t src p => execProgramStartCommand t src p s
    | .programAbort t src p => execProgramAbort t src p s
    | .heldReadAndClear t src kind q w inst maximum => execHeldReadAndClear t src kind q w inst maximum s
    | .heldClear t src kind q w inst value => execHeldClear t src kind q w inst value s
    | .clearAllHeld t src value => execClearAllHeld t src value s
    | .captureArm t src x => execCaptureArm t src x s
    | .captureTrigger t src x => execCaptureTrigger t src x s
    | .captureDisarm t src x => execCaptureDisarm t src x s
    | .sequenceSearch t src seq => execSequenceSearch t src seq s
    | .injectExecute t src value => execInjectExecute t src value s
    | .cellReset t src c key => execCellReset t src c key s
    | .blockReset t src b key => execBlockReset t src b key s
    | .regionReset t src r key => execRegionReset t src r key s
    | .chipReset t src key => execChipReset t src key s
    | .stringReset t src n key => execStringReset t src n key s
    | .serviceReset t src svc key => execServiceReset t src svc key s
    | .store t src key => execStore t src key s
    | .storeAbort t src value => execStoreAbort t src value s
    | .restoreStored t src call => execRestoreStored t src call s
    | .restoreFactory t src key => execRestoreFactory t src key s
    | .imageTransfer t src sequence length header => execImageTransfer t src sequence length header s
    | .installAbort t src value => execInstallAbort t src value s
    | .confirm t src key => execConfirm t src key s
    | .twinSwap t src => execTwinSwap t src s
    | .twinForcedSwap t src => execTwinForcedSwap t src s
    | .twinHoldPartner t src => execTwinHoldPartner t src s
    | .twinReleasePartner t src => execTwinReleasePartner t src s
    | .twinDrillNow t src => execTwinDrillNow t src s
    | .integratorLogin t src key => execIntegratorLogin t src key s
    | .integratorKeySet t src key => execIntegratorKeySet t src key s
    | .vendorToken t src expiryMinutes tokenNode signatureValid => execVendorToken t src expiryMinutes tokenNode signatureValid s
    | .dropAuthority t src value => execDropAuthority t src value s
    | .fanOutExecute t src value => execFanOutExecute t src value s
    | .registerWrite t src index sub inst value length => execRegisterWrite t src index sub inst value length s
    | _ => .next s)

/-- What a command does in the SYS cycle in which the chip arbiter accepts it (R45). -/
def State.runCommand (s : State) : Cmd → State
  | .write c => s.runRow c
  | .request x => s.commitStaged x
  | .forwarded src entries transaction => (s.commitEntries (innerSource 3 src) transaction entries).1
  | .image node os => s.applyOctets node os
  | .move n late => s.runMove n late
  | .step e p w => s.runAction e p w
  | .completion install => if install then s.installAccepted else s.storeAccepted

/-- A command is accepted by the chip arbiter: it takes no number and makes no record (R474). -/
def State.acceptCommand (s : State) (c : Cmd) : State :=
  { State.runCommand { s with accepting := true } c with accepting := s.accepting }

/-- CHIP_ARBITER_ACCEPT (R37, R302, R474). -/
def execChipArbiterAccept (t : Tick) (s : State) : Host.Outcome State Fault Refusal :=
  s.live t fun s =>
    s.arbitrate 3 0 chipInputs s.journalFull fun s p =>
      match p with
      | .event e => s.acceptEvent e
      | .command c => s.acceptCommand c

end Sys2Proof.Machine
end

