-- ==== Sys2Proof/Machine/Dispatch.lean ====
section
/-! DEFINITION. The meaning of every command: one direct call an arm. -/

namespace Sys2Proof.Machine

/-- The effect of a command on everything but the queue. -/
def exec (i : Instr) (s : State) : Host.Outcome State Fault Refusal :=
  match i with
  | .registerWrite t src index sub inst value length => Sys2Proof.Machine.execRegisterWrite t src index sub inst value length s
  | .blockArbiterAccept t b => Sys2Proof.Machine.execBlockArbiterAccept t b s
  | .regionArbiterAccept t r => Sys2Proof.Machine.execRegionArbiterAccept t r s
  | .chipArbiterAccept t => Sys2Proof.Machine.execChipArbiterAccept t s
  | .eventsMerged t input => Sys2Proof.Machine.execEventsMerged t input s
  | .cellReset t src c key => Sys2Proof.Machine.execCellReset t src c key s
  | .blockReset t src b key => Sys2Proof.Machine.execBlockReset t src b key s
  | .regionReset t src r key => Sys2Proof.Machine.execRegionReset t src r key s
  | .chipReset t src key => Sys2Proof.Machine.execChipReset t src key s
  | .controlSampleReady t k => Sys2Proof.Machine.execControlSampleReady t k s
  | .engineSlotStart t b => Sys2Proof.Machine.execEngineSlotStart t b s
  | .contextSkip t k => Sys2Proof.Machine.execContextSkip t k s
  | .commandDelivery t k => Sys2Proof.Machine.execCommandDelivery t k s
  | .contextEnable t src k value => Sys2Proof.Machine.execContextEnable t src k value s
  | .contextHold t src k => Sys2Proof.Machine.execContextHold t src k s
  | .releaseWithSwap t src k => Sys2Proof.Machine.execReleaseWithSwap t src k s
  | .releaseWithoutSwap t src k => Sys2Proof.Machine.execReleaseWithoutSwap t src k s
  | .holdOverrun t k => Sys2Proof.Machine.execHoldOverrun t k s
  | .cellPeriodStart t call => Sys2Proof.Machine.execCellPeriodStart t call s
  | .cellAdcConversion t c nanoVolt => Sys2Proof.Machine.execCellAdcConversion t c nanoVolt s
  | .cellOffsetCheckEnd t c => Sys2Proof.Machine.execCellOffsetCheckEnd t c s
  | .peakComparatorTrip t c nanoVolt => Sys2Proof.Machine.execPeakComparatorTrip t c nanoVolt s
  | .leadingEdgeBlankingEnd t c nanoVolt => Sys2Proof.Machine.execLeadingEdgeBlankingEnd t c nanoVolt s
  | .maximumOnTimeEnd t c => Sys2Proof.Machine.execMaximumOnTimeEnd t c s
  | .ceilingTrip t c nanoVolt => Sys2Proof.Machine.execCeilingTrip t c nanoVolt s
  | .pwmNetMismatch t c net => Sys2Proof.Machine.execPwmNetMismatch t c net s
  | .groupStart t src g => Sys2Proof.Machine.execGroupStart t src g s
  | .groupOrderlyStop t src g => Sys2Proof.Machine.execGroupOrderlyStop t src g s
  | .groupImmediateStop t src g => Sys2Proof.Machine.execGroupImmediateStop t src g s
  | .setpointTargetWrite t src g milliVolt => Sys2Proof.Machine.execSetpointTargetWrite t src g milliVolt s
  | .turnStart t samples => Sys2Proof.Machine.execTurnStart t samples s
  | .groupPowerGood t g => Sys2Proof.Machine.execGroupPowerGood t g s
  | .groupPowerGoodLoss t g => Sys2Proof.Machine.execGroupPowerGoodLoss t g s
  | .groupStartTimeout t g => Sys2Proof.Machine.execGroupStartTimeout t g s
  | .mainsWaitExit t g => Sys2Proof.Machine.execMainsWaitExit t g s
  | .isoBulkUndervoltage t g => Sys2Proof.Machine.execIsoBulkUndervoltage t g s
  | .relayOpenConfirmed t g => Sys2Proof.Machine.execRelayOpenConfirmed t g s
  | .batStopRelayDelayEnd t g => Sys2Proof.Machine.execBatStopRelayDelayEnd t g s
  | .bstTargetUpdate t g => Sys2Proof.Machine.execBstTargetUpdate t g s
  | .phaseAddDecision t g => Sys2Proof.Machine.execPhaseAddDecision t g s
  | .phaseShedDecision t g => Sys2Proof.Machine.execPhaseShedDecision t g s
  | .deviationLoadStep t g => Sys2Proof.Machine.execDeviationLoadStep t g s
  | .loadStep t g => Sys2Proof.Machine.execLoadStep t g s
  | .senseRatioUpdate t g senseCode => Sys2Proof.Machine.execSenseRatioUpdate t g senseCode s
  | .noRippleClassification t c senseCode => Sys2Proof.Machine.execNoRippleClassification t c senseCode s
  | .shareLimitActive t g => Sys2Proof.Machine.execShareLimitActive t g s
  | .poolMemberAdd t p => Sys2Proof.Machine.execPoolMemberAdd t p s
  | .poolMemberPark t p => Sys2Proof.Machine.execPoolMemberPark t p s
  | .poolRotation t p => Sys2Proof.Machine.execPoolRotation t p s
  | .poolRotationPark t p => Sys2Proof.Machine.execPoolRotationPark t p s
  | .doublesWrite t src b value => Sys2Proof.Machine.execDoublesWrite t src b value s
  | .runTimeSave t => Sys2Proof.Machine.execRunTimeSave t s
  | .mainsZeroCrossing t ph rising rmsDeciVolt => Sys2Proof.Machine.execMainsZeroCrossing t ph rising rmsDeciVolt s
  | .halfCycleEnd t ph rmsDeciVolt => Sys2Proof.Machine.execHalfCycleEnd t ph rmsDeciVolt s
  | .mainsLost t ph => Sys2Proof.Machine.execMainsLost t ph s
  | .frameStrobe t => Sys2Proof.Machine.execFrameStrobe t s
  | .strobeMiss t => Sys2Proof.Machine.execStrobeMiss t s
  | .forecastSuspend t => Sys2Proof.Machine.execForecastSuspend t s
  | .ppsEdge t => Sys2Proof.Machine.execPpsEdge t s
  | .ppsAbsent t => Sys2Proof.Machine.execPpsAbsent t s
  | .frameBoundary t => Sys2Proof.Machine.execFrameBoundary t s
  | .mapClear t src value => Sys2Proof.Machine.execMapClear t src value s
  | .channelOn t src f => Sys2Proof.Machine.execChannelOn t src f s
  | .channelOff t src f => Sys2Proof.Machine.execChannelOff t src f s
  | .inrushComplete t f => Sys2Proof.Machine.execInrushComplete t f s
  | .inrushTimeout t f => Sys2Proof.Machine.execInrushTimeout t f s
  | .thermalModelUpdate t f vdsCode isnsCode gsnsCode => Sys2Proof.Machine.execThermalModelUpdate t f vdsCode isnsCode gsnsCode s
  | .shortCircuitTrip t f isnsCode => Sys2Proof.Machine.execShortCircuitTrip t f isnsCode s
  | .currentLimitEngaged t f isnsCode => Sys2Proof.Machine.execCurrentLimitEngaged t f isnsCode s
  | .gateFail t f => Sys2Proof.Machine.execGateFail t f s
  | .weldedTest t f => Sys2Proof.Machine.execWeldedTest t f s
  | .cooldownEnd t f => Sys2Proof.Machine.execCooldownEnd t f s
  | .channelPowerGood t f => Sys2Proof.Machine.execChannelPowerGood t f s
  | .retryCountReset t f => Sys2Proof.Machine.execRetryCountReset t f s
  | .channelReset t src f key => Sys2Proof.Machine.execChannelReset t src f key s
  | .feedDropped t x => Sys2Proof.Machine.execFeedDropped t x s
  | .feedGood t x => Sys2Proof.Machine.execFeedGood t x s
  | .feedConfirmedOff t x => Sys2Proof.Machine.execFeedConfirmedOff t x s
  | .transferBlocked t => Sys2Proof.Machine.execTransferBlocked t s
  | .returnDwellEnd t => Sys2Proof.Machine.execReturnDwellEnd t s
  | .forceSelectA t src => Sys2Proof.Machine.execForceSelectA t src s
  | .forceSelectB t src => Sys2Proof.Machine.execForceSelectB t src s
  | .forceAutomatic t src => Sys2Proof.Machine.execForceAutomatic t src s
  | .estimatorSample t n voltCode current shortedCode => Sys2Proof.Machine.execEstimatorSample t n voltCode current shortedCode s
  | .restPoint t n => Sys2Proof.Machine.execRestPoint t n s
  | .confidenceDecay t n => Sys2Proof.Machine.execConfidenceDecay t n s
  | .batteryStateRecord t n => Sys2Proof.Machine.execBatteryStateRecord t n s
  | .tableCommit t src value => Sys2Proof.Machine.execTableCommit t src value s
  | .restHoldStart t src n => Sys2Proof.Machine.execRestHoldStart t src n s
  | .restHoldAbort t src n => Sys2Proof.Machine.execRestHoldAbort t src n s
  | .restHoldEnd t n => Sys2Proof.Machine.execRestHoldEnd t n s
  | .capacityTestStart t src n => Sys2Proof.Machine.execCapacityTestStart t src n s
  | .capacityTestAbort t src n => Sys2Proof.Machine.execCapacityTestAbort t src n s
  | .chargePermit t n => Sys2Proof.Machine.execChargePermit t n s
  | .fullCharge t n => Sys2Proof.Machine.execFullCharge t n s
  | .batLimitUpdate t g => Sys2Proof.Machine.execBatLimitUpdate t g s
  | .lowVoltageDisconnect t n => Sys2Proof.Machine.execLowVoltageDisconnect t n s
  | .stringReconnect t n => Sys2Proof.Machine.execStringReconnect t n s
  | .stringReset t src n key => Sys2Proof.Machine.execStringReset t src n key s
  | .temperatureSample t readings => Sys2Proof.Machine.execTemperatureSample t readings s
  | .sensorSuspect t n => Sys2Proof.Machine.execSensorSuspect t n s
  | .stopDeadlineCheck t h netsHigh => Sys2Proof.Machine.execStopDeadlineCheck t h netsHigh s
  | .driverSupplySample t b pinMilliVolt => Sys2Proof.Machine.execDriverSupplySample t b pinMilliVolt s
  | .thermalLatchClear t b => Sys2Proof.Machine.execThermalLatchClear t b s
  | .dieTemperatureSample t deciCelsius => Sys2Proof.Machine.execDieTemperatureSample t deciCelsius s
  | .dieSensorsDisagree t r => Sys2Proof.Machine.execDieSensorsDisagree t r s
  | .stepEnd t e => Sys2Proof.Machine.execStepEnd t e s
  | .stepEnable t e => Sys2Proof.Machine.execStepEnable t e s
  | .stepRelease t e => Sys2Proof.Machine.execStepRelease t e s
  | .stepWait t e => Sys2Proof.Machine.execStepWait t e s
  | .stepWaitpg t e => Sys2Proof.Machine.execStepWaitpg t e s
  | .stepCheck t e => Sys2Proof.Machine.execStepCheck t e s
  | .stepJump t e => Sys2Proof.Machine.execStepJump t e s
  | .stepMark t e => Sys2Proof.Machine.execStepMark t e s
  | .waitComplete t e => Sys2Proof.Machine.execWaitComplete t e s
  | .waitpgLevelReached t e => Sys2Proof.Machine.execWaitpgLevelReached t e s
  | .waitpgTimeout t e => Sys2Proof.Machine.execWaitpgTimeout t e s
  | .enAssertCommand t src n => Sys2Proof.Machine.execEnAssertCommand t src n s
  | .enReleaseCommand t src n => Sys2Proof.Machine.execEnReleaseCommand t src n s
  | .pgFlagSet t n => Sys2Proof.Machine.execPgFlagSet t n s
  | .pgFlagClear t n => Sys2Proof.Machine.execPgFlagClear t n s
  | .inputGoodSet t => Sys2Proof.Machine.execInputGoodSet t s
  | .inputGoodClear t => Sys2Proof.Machine.execInputGoodClear t s
  | .programStartCommand t src p => Sys2Proof.Machine.execProgramStartCommand t src p s
  | .programAbort t src p => Sys2Proof.Machine.execProgramAbort t src p s
  | .supplyCollapse t vauxMilliVolt => Sys2Proof.Machine.execSupplyCollapse t vauxMilliVolt s
  | .telemetryWindowEnd t w => Sys2Proof.Machine.execTelemetryWindowEnd t w s
  | .heldReadAndClear t src kind q w inst maximum => Sys2Proof.Machine.execHeldReadAndClear t src kind q w inst maximum s
  | .heldClear t src kind q w inst value => Sys2Proof.Machine.execHeldClear t src kind q w inst value s
  | .clearAllHeld t src value => Sys2Proof.Machine.execClearAllHeld t src value s
  | .captureArm t src x => Sys2Proof.Machine.execCaptureArm t src x s
  | .captureTrigger t src x => Sys2Proof.Machine.execCaptureTrigger t src x s
  | .captureDisarm t src x => Sys2Proof.Machine.execCaptureDisarm t src x s
  | .captureRecordingEnd t x => Sys2Proof.Machine.execCaptureRecordingEnd t x s
  | .captureFlushComplete t x => Sys2Proof.Machine.execCaptureFlushComplete t x s
  | .journalPageWrite t => Sys2Proof.Machine.execJournalPageWrite t s
  | .journalPageWritten t ok => Sys2Proof.Machine.execJournalPageWritten t ok s
  | .sequenceSearch t src seq => Sys2Proof.Machine.execSequenceSearch t src seq s
  | .sequenceSearchComplete t => Sys2Proof.Machine.execSequenceSearchComplete t s
  | .injectExecute t src value => Sys2Proof.Machine.execInjectExecute t src value s
  | .serviceReset t src svc key => Sys2Proof.Machine.execServiceReset t src svc key s
  | .autoRestart t => Sys2Proof.Machine.execAutoRestart t s
  | .processorWatchdog t processor => Sys2Proof.Machine.execProcessorWatchdog t processor s
  | .referenceLost t => Sys2Proof.Machine.execReferenceLost t s
  | .pllUnlock t which => Sys2Proof.Machine.execPllUnlock t which s
  | .driverFault t b => Sys2Proof.Machine.execDriverFault t b s
  | .testKey t valid => Sys2Proof.Machine.execTestKey t valid s
  | .testKeyTimeout t => Sys2Proof.Machine.execTestKeyTimeout t s
  | .partnerResetIn t low => Sys2Proof.Machine.execPartnerResetIn t low s
  | .twinPresenceTimeout highSince => Sys2Proof.Machine.execTwinPresenceTimeout highSince s
  | .electionWaitEnd pins => Sys2Proof.Machine.execElectionWaitEnd pins s
  | .tokenStateRise t => Sys2Proof.Machine.execTokenStateRise t s
  | .tokenCollisionCheck t tokenIn => Sys2Proof.Machine.execTokenCollisionCheck t tokenIn s
  | .driveRightTaken t samples => Sys2Proof.Machine.execDriveRightTaken t samples s
  | .twinIdentityExchange t linkUp partnerNode partnerPreference partnerLevel => Sys2Proof.Machine.execTwinIdentityExchange t linkUp partnerNode partnerPreference partnerLevel s
  | .twinJoinRetry pins => Sys2Proof.Machine.execTwinJoinRetry pins s
  | .twinSampleReceive t received own => Sys2Proof.Machine.execTwinSampleReceive t received own s
  | .plausibilityRestored t => Sys2Proof.Machine.execPlausibilityRestored t s
  | .turnCrcCompare t partnerCrc => Sys2Proof.Machine.execTurnCrcCompare t partnerCrc s
  | .heartbeat t turn => Sys2Proof.Machine.execHeartbeat t turn s
  | .forwardedWriteApply t src entries transaction => Sys2Proof.Machine.execForwardedWriteApply t src entries transaction s
  | .partnerEventReceive t record => Sys2Proof.Machine.execPartnerEventReceive t record s
  | .synchronisationComplete t freeTime copy => Sys2Proof.Machine.execSynchronisationComplete t freeTime copy s
  | .twinLinkDown t => Sys2Proof.Machine.execTwinLinkDown t s
  | .handoverProposal t boundary cause => Sys2Proof.Machine.execHandoverProposal t boundary cause s
  | .handoverBoundary t => Sys2Proof.Machine.execHandoverBoundary t s
  | .cellHandoverInstant t c => Sys2Proof.Machine.execCellHandoverInstant t c s
  | .handoverComplete t => Sys2Proof.Machine.execHandoverComplete t s
  | .hardHandover t => Sys2Proof.Machine.execHardHandover t s
  | .twinSwap t src => Sys2Proof.Machine.execTwinSwap t src s
  | .twinForcedSwap t src => Sys2Proof.Machine.execTwinForcedSwap t src s
  | .twinHoldPartner t src => Sys2Proof.Machine.execTwinHoldPartner t src s
  | .twinReleasePartner t src => Sys2Proof.Machine.execTwinReleasePartner t src s
  | .twinDrillNow t src => Sys2Proof.Machine.execTwinDrillNow t src s
  | .heartbeatHang t => Sys2Proof.Machine.execHeartbeatHang t s
  | .loudFailure t net differNanoSeconds crcAgrees => Sys2Proof.Machine.execLoudFailure t net differNanoSeconds crcAgrees s
  | .heartbeatSilent t idleConsistent => Sys2Proof.Machine.execHeartbeatSilent t idleConsistent s
  | .linkLossJudgement t idleConsistent => Sys2Proof.Machine.execLinkLossJudgement t idleConsistent s
  | .coldTakeover t => Sys2Proof.Machine.execColdTakeover t s
  | .partnerResetPulseEnd t => Sys2Proof.Machine.execPartnerResetPulseEnd t s
  | .drillDue t => Sys2Proof.Machine.execDrillDue t s
  | .drillSkip t => Sys2Proof.Machine.execDrillSkip t s
  | .portLinkDown t port => Sys2Proof.Machine.execPortLinkDown t port s
  | .ringUnwrap t => Sys2Proof.Machine.execRingUnwrap t s
  | .nodeIsolated t => Sys2Proof.Machine.execNodeIsolated t s
  | .cycleStartFrame t node cycle lengthMicroSeconds turned => Sys2Proof.Machine.execCycleStartFrame t node cycle lengthMicroSeconds turned s
  | .cycleStartSend t => Sys2Proof.Machine.execCycleStartSend t s
  | .masterTakeover t => Sys2Proof.Machine.execMasterTakeover t s
  | .cyclicImageFrame t node octets => Sys2Proof.Machine.execCyclicImageFrame t node octets s
  | .imageTimeout t node => Sys2Proof.Machine.execImageTimeout t node s
  | .ringCheckFrame t node cycle => Sys2Proof.Machine.execRingCheckFrame t node cycle s
  | .crcFailedFrame t port => Sys2Proof.Machine.execCrcFailedFrame t port s
  | .requestFrame t node sequence flags mask parses entries => Sys2Proof.Machine.execRequestFrame t node sequence flags mask parses entries s
  | .transactionCommit t => Sys2Proof.Machine.execTransactionCommit t s
  | .responseFrame t node sequence result => Sys2Proof.Machine.execResponseFrame t node sequence result s
  | .segmentFrame t node sequence offset octets => Sys2Proof.Machine.execSegmentFrame t node sequence offset octets s
  | .segmentAcknowledgement t node sequence next => Sys2Proof.Machine.execSegmentAcknowledgement t node sequence next s
  | .transferAbort t node sequence code => Sys2Proof.Machine.execTransferAbort t node sequence code s
  | .segmentResendTimeout t node sequence => Sys2Proof.Machine.execSegmentResendTimeout t node sequence s
  | .integratorLogin t src key => Sys2Proof.Machine.execIntegratorLogin t src key s
  | .integratorKeySet t src key => Sys2Proof.Machine.execIntegratorKeySet t src key s
  | .vendorToken t src expiryMinutes tokenNode signatureValid => Sys2Proof.Machine.execVendorToken t src expiryMinutes tokenNode signatureValid s
  | .dropAuthority t src value => Sys2Proof.Machine.execDropAuthority t src value s
  | .authorityIdleTimeout t src => Sys2Proof.Machine.execAuthorityIdleTimeout t src s
  | .fanOutExecute t src value => Sys2Proof.Machine.execFanOutExecute t src value s
  | .fanOutTimeout t node => Sys2Proof.Machine.execFanOutTimeout t node s
  | .store t src key => Sys2Proof.Machine.execStore t src key s
  | .storeComplete rewritten => Sys2Proof.Machine.execStoreComplete rewritten s
  | .storeAbort t src value => Sys2Proof.Machine.execStoreAbort t src value s
  | .restoreStored t src call => Sys2Proof.Machine.execRestoreStored t src call s
  | .restoreFactory t src key => Sys2Proof.Machine.execRestoreFactory t src key s
  | .compactionStep flashReads => Sys2Proof.Machine.execCompactionStep flashReads s
  | .sramRepair t line call => Sys2Proof.Machine.execSramRepair t line call s
  | .scrubRead t failed source => Sys2Proof.Machine.execScrubRead t failed source s
  | .imageTransfer t src sequence length header => Sys2Proof.Machine.execImageTransfer t src sequence length header s
  | .installComplete t flashReads signatureGood => Sys2Proof.Machine.execInstallComplete t flashReads signatureGood s
  | .installAbort t src value => Sys2Proof.Machine.execInstallAbort t src value s
  | .confirm t src key => Sys2Proof.Machine.execConfirm t src key s
  | .selfCheckEvaluation t => Sys2Proof.Machine.execSelfCheckEvaluation t s
  | .trialExpiry t => Sys2Proof.Machine.execTrialExpiry t s
  | .powerOn t => Sys2Proof.Machine.execPowerOn t s
  | .supplyOutOfRange t supply milliVolt => Sys2Proof.Machine.execSupplyOutOfRange t supply milliVolt s
  | .rstNLow t low => Sys2Proof.Machine.execRstNLow t low s
  | .chipStart t inputs => Sys2Proof.Machine.execChipStart t inputs s
  | .crossingTimeout t loopBlock => Sys2Proof.Machine.execCrossingTimeout t loopBlock s
  | .halfPeriodStart t c => Sys2Proof.Machine.execHalfPeriodStart t c s
  | .deadTimeEnd t c net => Sys2Proof.Machine.execDeadTimeEnd t c net s
  | .pwmbProgrammedEdge t c rise => Sys2Proof.Machine.execPwmbProgrammedEdge t c rise s
  | .ringPhyReady t => Sys2Proof.Machine.execRingPhyReady t s
  | .ringPortLinkUp t port => Sys2Proof.Machine.execRingPortLinkUp t port s
  | .twinLinkUp t => Sys2Proof.Machine.execTwinLinkUp t s
  | .twinPresenceFall tokenHigh => Sys2Proof.Machine.execTwinPresenceFall tokenHigh s
  | .handoverDeferralTimeout t => Sys2Proof.Machine.execHandoverDeferralTimeout t s
  | .yieldHandoverTimeout t => Sys2Proof.Machine.execYieldHandoverTimeout t s
  | .journalBlockErased t ok => Sys2Proof.Machine.execJournalBlockErased t ok s
  | .storeFailed t => Sys2Proof.Machine.execStoreFailed t s
  | .installFlashWriteFailed t => Sys2Proof.Machine.execInstallFlashWriteFailed t s
  | .channelPowerGoodLoss t f => Sys2Proof.Machine.execChannelPowerGoodLoss t f s
  | .feedSenseOverRange t f isns code => Sys2Proof.Machine.execFeedSenseOverRange t f isns code s
  | .gateRiseThresholdReached t => Sys2Proof.Machine.execGateRiseThresholdReached t s

end Sys2Proof.Machine
end

