-- ==== Sys2Proof/Safety.lean ====
section
/-! DEFINITION. What counts as a safe run of the block, in the terms that the statements use. -/

namespace Sys2Proof

/-- The time of a command: each is given with the time at which it happens (R51). -/
def Instr.time : Instr → Tick
  | .registerWrite t _ _ _ _ _ _ => t
  | .blockArbiterAccept t _ => t
  | .regionArbiterAccept t _ => t
  | .chipArbiterAccept t => t
  | .eventsMerged t _ => t
  | .cellReset t _ _ _ => t
  | .blockReset t _ _ _ => t
  | .regionReset t _ _ _ => t
  | .chipReset t _ _ => t
  | .controlSampleReady t _ => t
  | .engineSlotStart t _ => t
  | .contextSkip t _ => t
  | .commandDelivery t _ => t
  | .contextEnable t _ _ _ => t
  | .contextHold t _ _ => t
  | .releaseWithSwap t _ _ => t
  | .releaseWithoutSwap t _ _ => t
  | .holdOverrun t _ => t
  | .cellPeriodStart t _ => t
  | .cellAdcConversion t _ _ => t
  | .cellOffsetCheckEnd t _ => t
  | .peakComparatorTrip t _ _ => t
  | .leadingEdgeBlankingEnd t _ _ => t
  | .maximumOnTimeEnd t _ => t
  | .ceilingTrip t _ _ => t
  | .pwmNetMismatch t _ _ => t
  | .groupStart t _ _ => t
  | .groupOrderlyStop t _ _ => t
  | .groupImmediateStop t _ _ => t
  | .setpointTargetWrite t _ _ _ => t
  | .turnStart t _ => t
  | .groupPowerGood t _ => t
  | .groupPowerGoodLoss t _ => t
  | .groupStartTimeout t _ => t
  | .mainsWaitExit t _ => t
  | .isoBulkUndervoltage t _ => t
  | .relayOpenConfirmed t _ => t
  | .batStopRelayDelayEnd t _ => t
  | .bstTargetUpdate t _ => t
  | .phaseAddDecision t _ => t
  | .phaseShedDecision t _ => t
  | .deviationLoadStep t _ => t
  | .loadStep t _ => t
  | .senseRatioUpdate t _ _ => t
  | .noRippleClassification t _ _ => t
  | .shareLimitActive t _ => t
  | .poolMemberAdd t _ => t
  | .poolMemberPark t _ => t
  | .poolRotation t _ => t
  | .poolRotationPark t _ => t
  | .doublesWrite t _ _ _ => t
  | .runTimeSave t => t
  | .mainsZeroCrossing t _ _ _ => t
  | .halfCycleEnd t _ _ => t
  | .mainsLost t _ => t
  | .frameStrobe t => t
  | .strobeMiss t => t
  | .forecastSuspend t => t
  | .ppsEdge t => t
  | .ppsAbsent t => t
  | .frameBoundary t => t
  | .mapClear t _ _ => t
  | .channelOn t _ _ => t
  | .channelOff t _ _ => t
  | .inrushComplete t _ => t
  | .inrushTimeout t _ => t
  | .thermalModelUpdate t _ _ _ _ => t
  | .shortCircuitTrip t _ _ => t
  | .currentLimitEngaged t _ _ => t
  | .gateFail t _ => t
  | .weldedTest t _ => t
  | .cooldownEnd t _ => t
  | .channelPowerGood t _ => t
  | .retryCountReset t _ => t
  | .channelReset t _ _ _ => t
  | .feedDropped t _ => t
  | .feedGood t _ => t
  | .feedConfirmedOff t _ => t
  | .transferBlocked t => t
  | .returnDwellEnd t => t
  | .forceSelectA t _ => t
  | .forceSelectB t _ => t
  | .forceAutomatic t _ => t
  | .estimatorSample t _ _ _ _ => t
  | .restPoint t _ => t
  | .confidenceDecay t _ => t
  | .batteryStateRecord t _ => t
  | .tableCommit t _ _ => t
  | .restHoldStart t _ _ => t
  | .restHoldAbort t _ _ => t
  | .restHoldEnd t _ => t
  | .capacityTestStart t _ _ => t
  | .capacityTestAbort t _ _ => t
  | .chargePermit t _ => t
  | .fullCharge t _ => t
  | .batLimitUpdate t _ => t
  | .lowVoltageDisconnect t _ => t
  | .stringReconnect t _ => t
  | .stringReset t _ _ _ => t
  | .temperatureSample t _ => t
  | .sensorSuspect t _ => t
  | .stopDeadlineCheck t _ _ => t
  | .driverSupplySample t _ _ => t
  | .thermalLatchClear t _ => t
  | .dieTemperatureSample t _ => t
  | .dieSensorsDisagree t _ => t
  | .stepEnd t _ => t
  | .stepEnable t _ => t
  | .stepRelease t _ => t
  | .stepWait t _ => t
  | .stepWaitpg t _ => t
  | .stepCheck t _ => t
  | .stepJump t _ => t
  | .stepMark t _ => t
  | .waitComplete t _ => t
  | .waitpgLevelReached t _ => t
  | .waitpgTimeout t _ => t
  | .enAssertCommand t _ _ => t
  | .enReleaseCommand t _ _ => t
  | .pgFlagSet t _ => t
  | .pgFlagClear t _ => t
  | .inputGoodSet t => t
  | .inputGoodClear t => t
  | .programStartCommand t _ _ => t
  | .programAbort t _ _ => t
  | .supplyCollapse t _ => t
  | .telemetryWindowEnd t _ => t
  | .heldReadAndClear t _ _ _ _ _ _ => t
  | .heldClear t _ _ _ _ _ _ => t
  | .clearAllHeld t _ _ => t
  | .captureArm t _ _ => t
  | .captureTrigger t _ _ => t
  | .captureDisarm t _ _ => t
  | .captureRecordingEnd t _ => t
  | .captureFlushComplete t _ => t
  | .journalPageWrite t => t
  | .journalPageWritten t _ => t
  | .sequenceSearch t _ _ => t
  | .sequenceSearchComplete t => t
  | .injectExecute t _ _ => t
  | .serviceReset t _ _ _ => t
  | .autoRestart t => t
  | .processorWatchdog t _ => t
  | .referenceLost t => t
  | .pllUnlock t _ => t
  | .driverFault t _ => t
  | .testKey t _ => t
  | .testKeyTimeout t => t
  | .partnerResetIn t _ => t
  | .twinPresenceTimeout x => x.time
  | .electionWaitEnd x => x.time
  | .tokenStateRise t => t
  | .tokenCollisionCheck t _ => t
  | .driveRightTaken t _ => t
  | .twinIdentityExchange t _ _ _ _ => t
  | .twinJoinRetry x => x.time
  | .twinSampleReceive t _ _ => t
  | .plausibilityRestored t => t
  | .turnCrcCompare t _ => t
  | .heartbeat t _ => t
  | .forwardedWriteApply t _ _ _ => t
  | .partnerEventReceive t _ => t
  | .synchronisationComplete t _ _ => t
  | .twinLinkDown t => t
  | .handoverProposal t _ _ => t
  | .handoverBoundary t => t
  | .cellHandoverInstant t _ => t
  | .handoverComplete t => t
  | .hardHandover t => t
  | .twinSwap t _ => t
  | .twinForcedSwap t _ => t
  | .twinHoldPartner t _ => t
  | .twinReleasePartner t _ => t
  | .twinDrillNow t _ => t
  | .heartbeatHang t => t
  | .loudFailure t _ _ _ => t
  | .heartbeatSilent t _ => t
  | .linkLossJudgement t _ => t
  | .coldTakeover t => t
  | .partnerResetPulseEnd t => t
  | .drillDue t => t
  | .drillSkip t => t
  | .portLinkDown t _ => t
  | .ringUnwrap t => t
  | .nodeIsolated t => t
  | .cycleStartFrame t _ _ _ _ => t
  | .cycleStartSend t => t
  | .masterTakeover t => t
  | .cyclicImageFrame t _ _ => t
  | .imageTimeout t _ => t
  | .ringCheckFrame t _ _ => t
  | .crcFailedFrame t _ => t
  | .requestFrame t _ _ _ _ _ _ => t
  | .transactionCommit t => t
  | .responseFrame t _ _ _ => t
  | .segmentFrame t _ _ _ _ => t
  | .segmentAcknowledgement t _ _ _ => t
  | .transferAbort t _ _ _ => t
  | .segmentResendTimeout t _ _ => t
  | .integratorLogin t _ _ => t
  | .integratorKeySet t _ _ => t
  | .vendorToken t _ _ _ _ => t
  | .dropAuthority t _ _ => t
  | .authorityIdleTimeout t _ => t
  | .fanOutExecute t _ _ => t
  | .fanOutTimeout t _ => t
  | .store t _ _ => t
  | .storeComplete x => x.time
  | .storeAbort t _ _ => t
  | .restoreStored t _ _ => t
  | .restoreFactory t _ _ => t
  | .compactionStep x => x.time
  | .sramRepair t _ _ => t
  | .scrubRead t _ _ => t
  | .imageTransfer t _ _ _ _ => t
  | .installComplete t _ _ => t
  | .installAbort t _ _ => t
  | .confirm t _ _ => t
  | .selfCheckEvaluation t => t
  | .trialExpiry t => t
  | .powerOn t => t
  | .supplyOutOfRange t _ _ => t
  | .rstNLow t _ => t
  | .chipStart t _ => t
  | .crossingTimeout t _ => t
  | .halfPeriodStart t _ => t
  | .deadTimeEnd t _ _ => t
  | .pwmbProgrammedEdge t _ _ => t
  | .ringPhyReady t => t
  | .ringPortLinkUp t _ => t
  | .twinLinkUp t => t
  | .twinPresenceFall x => x.time
  | .handoverDeferralTimeout t => t
  | .yieldHandoverTimeout t => t
  | .journalBlockErased t _ => t
  | .storeFailed t => t
  | .installFlashWriteFailed t => t
  | .channelPowerGoodLoss t _ => t
  | .feedSenseOverRange t _ _ _ => t
  | .gateRiseThresholdReached t => t

/-- The commands that act in the always-on domain or at the pins of a reset: no reset holds them off (R331, R441, R449). -/
def Instr.actsInReset : Instr → Bool
  | .powerOn _ => true
  | .supplyOutOfRange _ _ _ => true
  | .rstNLow _ _ => true
  | .partnerResetIn _ _ => true
  | .referenceLost _ => true
  | .pllUnlock _ _ => true
  | .chipStart _ _ => true
  | _ => false

/-- The commands that bring a level of the sideband, which stands whatever the chip does (R331). -/
def Instr.sideband : Instr → Bool
  | .twinPresenceFall _ => true
  | .tokenStateRise _ => true
  | _ => false

/-- The source of a command that is a write of a dictionary object, the authority that the object asks for (R380), and
whether it is an object of the chip itself, which a standby too serves (R337). -/
def Instr.dictionary : Instr → Option (NodeId × Nat × Bool)
  | .contextEnable _ src _ _ => some (src, 2, false)
  | .contextHold _ src _ => some (src, 2, false)
  | .releaseWithSwap _ src _ => some (src, 2, false)
  | .releaseWithoutSwap _ src _ => some (src, 2, false)
  | .groupStart _ src _ => some (src, 1, false)
  | .groupOrderlyStop _ src _ => some (src, 1, false)
  | .groupImmediateStop _ src _ => some (src, 1, false)
  | .setpointTargetWrite _ src _ _ => some (src, 1, false)
  | .doublesWrite _ src _ _ => some (src, 2, false)
  | .tableCommit _ src _ => some (src, 2, false)
  | .restHoldStart _ src _ => some (src, 1, false)
  | .restHoldAbort _ src _ => some (src, 1, false)
  | .capacityTestStart _ src _ => some (src, 1, false)
  | .capacityTestAbort _ src _ => some (src, 1, false)
  | .channelOn _ src _ => some (src, 1, false)
  | .channelOff _ src _ => some (src, 1, false)
  | .channelReset _ src _ _ => some (src, 1, false)
  | .forceSelectA _ src => some (src, 1, false)
  | .forceSelectB _ src => some (src, 1, false)
  | .forceAutomatic _ src => some (src, 1, false)
  | .mapClear _ src _ => some (src, 2, false)
  | .enAssertCommand _ src _ => some (src, 1, false)
  | .enReleaseCommand _ src _ => some (src, 1, false)
  | .programStartCommand _ src _ => some (src, 1, false)
  | .programAbort _ src _ => some (src, 1, false)
  | .heldClear _ src _ _ _ _ _ => some (src, 1, false)
  | .clearAllHeld _ src _ => some (src, 1, false)
  | .captureArm _ src _ => some (src, 1, false)
  | .captureTrigger _ src _ => some (src, 1, false)
  | .captureDisarm _ src _ => some (src, 1, false)
  | .sequenceSearch _ src _ => some (src, 1, false)
  | .cellReset _ src _ _ => some (src, 1, false)
  | .blockReset _ src _ _ => some (src, 1, false)
  | .regionReset _ src _ _ => some (src, 2, false)
  | .chipReset _ src _ => some (src, 2, true)
  | .stringReset _ src _ _ => some (src, 1, false)
  | .serviceReset _ src _ _ => some (src, 1, false)
  | .store _ src _ => some (src, 2, false)
  | .storeAbort _ src _ => some (src, 2, false)
  | .restoreStored _ src _ => some (src, 2, false)
  | .restoreFactory _ src _ => some (src, 2, false)
  | .imageTransfer _ src _ _ _ => some (src, 2, false)
  | .installAbort _ src _ => some (src, 2, false)
  | .confirm _ src _ => some (src, 2, false)
  | .twinSwap _ src => some (src, 2, true)
  | .twinForcedSwap _ src => some (src, 2, true)
  | .twinHoldPartner _ src => some (src, 2, true)
  | .twinReleasePartner _ src => some (src, 2, true)
  | .twinDrillNow _ src => some (src, 2, true)
  | .integratorLogin _ src _ => some (src, 0, false)
  | .integratorKeySet _ src _ => some (src, 2, false)
  | .vendorToken _ src _ _ _ => some (src, 0, false)
  | .dropAuthority _ src _ => some (src, 0, false)
  | .fanOutExecute _ src _ => some (src, 1, false)
  | .injectExecute _ src _ => some (src, 3, true)
  | _ => none

/-- The commands that move an output of a cell inside its period, with the cell. -/
def Instr.cellEdge : Instr → Option CellId
  | .halfPeriodStart _ x => some x
  | .deadTimeEnd _ x _ => some x
  | .pwmbProgrammedEdge _ x _ => some x
  | .peakComparatorTrip _ x _ => some x
  | .leadingEdgeBlankingEnd _ x _ => some x
  | .maximumOnTimeEnd _ x => some x
  | _ => none

/-- The commands of the frame, time and load map trackers. -/
def Instr.tracks : Instr → Bool
  | .frameStrobe _ | .strobeMiss _ | .forecastSuspend _ | .ppsEdge _ | .ppsAbsent _ | .frameBoundary _ => true
  | _ => false

/-- The steps of a program that command no other element, and the ends of its waits. -/
def Instr.runsStep : Instr → Bool
  | .stepEnd _ _ | .stepWait _ _ | .stepWaitpg _ _ | .stepCheck _ _ | .stepJump _ _ | .stepMark _ _ | .waitComplete _ _
  | .waitpgLevelReached _ _ | .waitpgTimeout _ _ => true
  | _ => false

/-- The commands of one feed channel, with the channel. -/
def Instr.ownFeed : Instr → Option FeedId
  | .gateFail _ x => some x
  | .inrushTimeout _ x => some x
  | .thermalModelUpdate _ x _ _ _ => some x
  | .shortCircuitTrip _ x _ => some x
  | .currentLimitEngaged _ x _ => some x
  | .cooldownEnd _ x => some x
  | .channelPowerGood _ x => some x
  | .channelPowerGoodLoss _ x => some x
  | .retryCountReset _ x => some x
  | .feedSenseOverRange _ x _ _ => some x
  | _ => none

/-- The commands of the input selector. -/
def Instr.selects : Instr → Bool
  | .inrushComplete _ _ | .feedDropped _ _ | .feedGood _ _ | .feedConfirmedOff _ _ | .transferBlocked _
  | .returnDwellEnd _ | .gateRiseThresholdReached _ => true
  | _ => false

/-- The commands of the charge estimator and of its records. -/
def Instr.estimates : Instr → Bool
  | .estimatorSample _ _ _ _ _ | .restPoint _ _ | .confidenceDecay _ _ | .restHoldEnd _ _ | .chargePermit _ _
  | .fullCharge _ _ | .batteryStateRecord _ _ => true
  | _ => false

/-- The commands of telemetry, captures and the journal that no source gives. -/
def Instr.records : Instr → Bool
  | .telemetryWindowEnd _ _ | .captureRecordingEnd _ _ | .captureFlushComplete _ _ | .journalPageWrite _
  | .journalPageWritten _ _ | .journalBlockErased _ _ | .sequenceSearchComplete _ => true
  | _ => false

/-- The commands of the twin side that move no output. -/
def Instr.pairs : Instr → Bool
  | .heartbeat _ _ | .twinPresenceTimeout _ | .electionWaitEnd _ | .tokenStateRise _ | .twinPresenceFall _
  | .twinJoinRetry _ | .handoverProposal _ _ _ | .handoverDeferralTimeout _ | .drillDue _ | .drillSkip _
  | .partnerResetPulseEnd _ | .twinLinkUp _ | .plausibilityRestored _ | .tokenCollisionCheck _ _
  | .cellHandoverInstant _ _ | .twinIdentityExchange _ _ _ _ _ => true
  | _ => false

/-- The commands of the ring side. -/
def Instr.rings : Instr → Bool
  | .ringCheckFrame _ _ _ | .cycleStartFrame _ _ _ _ _ | .cycleStartSend _ | .masterTakeover _ | .portLinkDown _ _
  | .ringUnwrap _ | .ringPortLinkUp _ _ | .crcFailedFrame _ _ | .cyclicImageFrame _ _ _ => true
  | _ => false

/-- The commands by which stores, installs and transfers go on. -/
def Instr.stores : Instr → Bool
  | .storeComplete _ | .storeFailed _ | .compactionStep _ | .selfCheckEvaluation _ | .installComplete _ _ _
  | .installFlashWriteFailed _ | .transferAbort _ _ _ _ | .segmentResendTimeout _ _ _ | .segmentAcknowledgement _ _ _ _
  | .fanOutTimeout _ _ | .responseFrame _ _ _ _ => true
  | _ => false

/-- The decisions of a group manager that write no object. -/
def Instr.judgesPhases : Instr → Bool
  | .groupPowerGoodLoss _ _ | .deviationLoadStep _ _ | .senseRatioUpdate _ _ _ | .phaseShedDecision _ _ => true
  | _ => false

/-- The judgements of temperature inputs and dies, and the flags of the sequenced channels. -/
def Instr.judgesHeat : Instr → Bool
  | .sensorSuspect _ _ | .dieSensorsDisagree _ _ | .thermalLatchClear _ _ | .pgFlagSet _ _ | .pgFlagClear _ _ => true
  | _ => false

end Sys2Proof

namespace Sys2Proof.Machine

/-- No cell drives both outputs high at once (R57, R58). -/
def Cell.noOverlap (x : Cell) : Bool := !(x.levelA && x.levelB)

/-- The chip is out of reset and not in recovery mode: it takes commands (R432, R449). -/
def State.awake (s : State) : Prop := s.inReset = false ∧ s.run.recovery = false

/-- A dictionary command of a source reaches the dictionary server, and the chip arbiter accepts it in this SYS cycle: the source
is heard, and nothing that waits goes before it (R37, R123, R474; log entry 6). -/
def State.reaches (s : State) (src : Nat) : Prop := s.hears src = true ∧ s.chipTakes 12 = true

/-- A dictionary command of a source is taken: it reaches the server and is accepted, the chip is no standby, or the command is
addressed to the chip itself, and the source holds the authority (R337, R380). -/
def State.accepts (s : State) (src need : Nat) (own : Bool) : Prop :=
  s.reaches src ∧ (s.standby = false ∨ own = true) ∧ need ≤ s.authorityOf src

/-- The state in which the chip arbiter has accepted a dictionary command of a source: its request is noted, and the arbiter accepts
no other in this SYS cycle. -/
def State.admitted (s : State) (src : Nat) : State := { (s.received src).markAccept 3 0 with accepting := true }

/-- The state on which an accepted dictionary command has its effect: it is admitted and the result is 0. -/
def State.noted (s : State) (src : Nat) : State := (s.admitted src).result 0

/-- The chip arbiter has accepted a command of this chip itself: an image, a move, a request or a forwarded write (R474). -/
def State.placed (s : State) : State := { s.markAccept 3 0 with accepting := true }

/-- The queue is in order: well formed commands, by rising times, none before the present. -/
def State.queueOrdered (s : State) : Prop :=
  s.pending.Pairwise (fun c d => c.time ≤ d.time) ∧ ∀ c ∈ s.pending, s.now ≤ c.time ∧ c.wf = true

/-- Every output of the chip is as a reset holds it (R318, R449). -/
def State.outputsOff (s : State) : Prop :=
  (∀ c n, s.pwmPin c n = none) ∧ (∀ f, s.gatePin f = .z) ∧ (∀ n, s.bridgePin n = .z) ∧ (∀ n, s.enPin n = none) ∧
    s.faultPinLow = true

/-- The values of every object outside a list of indices are the same in two states. -/
def State.objectsKept (s u : State) (written : List Nat) : Prop :=
  ∀ (d : Int) (x : Addr), x.index ∉ written → bget d u.obj x = bget d s.obj x

/-- The block arbiter takes a command of a rank for a group in this SYS cycle (R34). -/
def State.ranked (s : State) (g rank : Nat) : State := s.markCommand g (s.now / cycleTicks) rank

/-- No on or off command has met a feed channel in this SYS cycle, so that a trip acts on the channel as it stands (R212). -/
def State.unmarked (s : State) (f : Nat) : Prop :=
  ∀ m : FeedMark, bget none s.feedMarks f = some m → m.time / cycleTicks ≠ s.now / cycleTicks

/-- A slot executes its step `w` of an opcode now, with the step counted in `u`: the slot may execute, and it is its place in the
turn (R271, R276). -/
def State.stepRuns (s : State) (e op w : Nat) (u : State) : Prop :=
  s.slotReady e = true ∧ s.slotTurn e = true ∧ w = s.stepWord (s.progSlot e).addr ∧ opOf w = op ∧
    u = { s.setProgSlot e { s.progSlot e with steps := (s.progSlot e).steps + 1 } with stepAt := some (s.now, e) }

/-- A step that ends in a next state. -/
def completes (o : Host.Outcome State Fault Refusal) : Bool :=
  match o with
  | .next _ => true
  | _ => false

/-- An item of an arbiter's inputs is the one that the arbiter accepts now: the arbiter has accepted none in this SYS cycle,
the input beyond it has a place, and the item wins (R35 to R37, R41). -/
def State.wins (s : State) (level num : Nat) (inputs : List ArbInput) (commandsOnly : Bool) (i : ArbInput) (n : Nat) (x : Item) :
    Prop :=
  (∀ at? ∈ bget none (s.acceptAt.map fun p => (p.1, some p.2)) (level, num), at? / cycleTicks < s.now / cycleTicks) ∧
    s.roomBeyond level num = true ∧
    winner level (inputs.filterMap fun i => (s.candidate level i commandsOnly).map fun c => (i, c)) = some (i, n, x)

/-- The item leaves its input, and the arbiter has accepted one. -/
def State.taken (s : State) (level num : Nat) (i : ArbInput) (n : Nat) : State :=
  let u := s.setInput i ((s.input i).without n s.now)
  { u with acceptAt := bset u.acceptAt (level, num) u.now }

end Sys2Proof.Machine
end

