-- ==== Sys2Proof/Certificates/Slice0/Obligations.lean ====
section
/-! DEFINITION. The statements for the provers, from the numbered rules of the spec. In the statements of completion `s` is the
state before the command, `a` the state at its time, and `b` the same once the chip arbiter has accepted the command, with the
request of the source noted and its result 0 (log entry 6); `keep` puts back the time and the queue, which no command changes. -/

open Sys2Proof Sys2Proof.Machine

/-- An arbiter passes on the item that wins (R35, R36, R37, R40, R474). `a` is the state at the time of the command. The
item `x` of input `i` at place `n` is the one that wins; the arbiter passes it on and accepts no other in this SYS
cycle. -/
def Obligations.ArbitersAccept : Prop :=
  ∀ (s a : State) (t : Tick), s.awake → a = s.advance t →
    (∀ (b : BlockId) (i : ArbInput) (n : Nat) (x : Item), a.wins 1 b (blockInputs b) false i n x →
      exec (.blockArbiterAccept t b) s = .next (a.keep ((a.taken 1 b i n).offer (.region (Fin.ofNat 4 (b / 4)) (Fin.ofNat 6 (b
        % 4))) x.payload))) ∧
    (∀ (r : RegionId) (i : ArbInput) (n : Nat) (at? : Tick) (e : Event),
      a.wins 2 r (regionInputs r) false i n ⟨at?, .event e⟩ →
      exec (.regionArbiterAccept t r) s = .next (a.keep
        ({ a.taken 2 r i n with regionSeq := bset a.regionSeq r.val ((bget 0 a.regionSeq r.val + 1) % 65536) }.offer (.chip
        (Fin.ofNat 15 r)) (.event { e with region := r, rseq := (bget 0 a.regionSeq r.val + 1) % 65536 })))) ∧
    (∀ (r : RegionId) (i : ArbInput) (n : Nat) (at? : Tick) (c : Cmd), a.wins 2 r (regionInputs r) false i n ⟨at?, .command c⟩ →
      exec (.regionArbiterAccept t r) s = .next (a.keep ((a.taken 2 r i n).offer (.chip (Fin.ofNat 15 r)) (.command c)))) ∧
    (∀ (i : ArbInput) (n : Nat) (at? : Tick) (e : Event), a.wins 3 0 chipInputs a.journalFull i n ⟨at?, .event e⟩ →
      exec (.chipArbiterAccept t) s = .next (a.keep ((a.taken 3 0 i n).acceptEvent e))) ∧
    (∀ (i : ArbInput) (n : Nat) (at? : Tick) (c : Cmd), a.wins 3 0 chipInputs a.journalFull i n ⟨at?, .command c⟩ →
      exec (.chipArbiterAccept t) s = .next (a.keep (State.runCommand { a.taken 3 0 i n with accepting := true } c))) ∧
    (∀ (i : ArbInput), 0 < (a.input i).discarded → (a.input i).items.length < 32 →
      exec (.eventsMerged t i) s = .next (a.keep ((a.setInput i { a.input i with discarded := 0, firstDiscarded := 0 }).offer
        i (.event
        { ev 0x470A 0 with time := a.now, value := (a.input i).discarded, w4 := (a.input i).firstDiscarded,
                           w5 := (mergedWords i).1, w6 := (mergedWords i).2 }))))

/-- A reset command with the key resets its element (R44, R46, R47, R48, R211, R246, R324, R325). `b` is the state with the
request of the source noted. -/
def Obligations.ResetsActOnTheirElement : Prop :=
  ∀ (s a b : State) (t : Tick) (src : NodeId), s.awake → a = s.advance t → b = a.noted src →
    (∀ (c : CellId), a.accepts src 1 false → b.inFault (.block (c / 8)) = false → b.inFault (.region (c / 32)) = false →
      b.inFault .chip = false →
      exec (.cellReset t src c resetKey) s = .next (a.keep ((b.resetCell c).result 0))) ∧
    (∀ (k : BlockId), a.accepts src 1 false → b.inFault (.region (k / 4)) = false → b.inFault .chip = false →
      ((b.resetBlocks k).any fun i => decide (b.cfg 0x4030 1 i = 1)) = false →
      exec (.blockReset t src k resetKey) s = .next (a.keep (((b.resetBlocks k).foldl State.resetBlock b).result 0))) ∧
    (∀ (r : RegionId), a.accepts src 2 false → b.inFault .chip = false →
      ((List.range 4).map (4 * r.val + ·)).all b.blockAtRest = true →
      exec (.regionReset t src r resetKey) s = .next (a.keep (((b.regionCauses r).foldl State.raise (((List.range 4).map (4 *
        r.val + ·)).foldl (fun s e => s.endProgram e 6) ((((List.range 4).map (4 * r.val + ·)).foldl State.resetBlock
        (b.endFault (.region r))).clearSuspects r))).result 0))) ∧
    (∀ (r : RegionId), a.accepts src 2 false → b.inFault .chip = false →
      ((List.range 4).map (4 * r.val + ·)).all b.blockAtRest = false →
      exec (.regionReset t src r resetKey) s = .next (a.keep (((b.regionCauses r).foldl State.raise (((List.range 4).map (4 *
        r.val + ·)).foldl State.resetBlock (b.endFault (.region r)))).result 0))) ∧
    (a.accepts src 2 true → (b.twinState = .active ∧ b.partnerInStep = true → False) →
      exec (.chipReset t src resetKey) s = .next (a.keep ((b.enterReset 11 0).result 0))) ∧
    (a.accepts src 2 true → b.twinState = .active → b.partnerInStep = true → b.twin.handover = none →
      exec (.chipReset t src resetKey) s = .next (a.keep (((b.setTwin { b.twin with resetAfter := some (11, 0) }).propose
        2).result 0))) ∧
    (∀ (f : FeedId), a.accepts src 1 false → b.selector.transfer = none →
      exec (.channelReset t src f resetKey) s = .next (a.keep (b.resetChannel f))) ∧
    (∀ (n : StringId), a.accepts src 1 false →
      exec (.stringReset t src n resetKey) s = .next (a.keep (((b.stringCauses n).foldl State.raise ((b.endFault (.string
        n)).overtakeAnchors n)).result 0))) ∧
    (∀ (svc : SvcId), a.accepts src 1 false → b.inFault .chip = false →
      exec (.serviceReset t src svc resetKey) s = .next (a.keep (((b.serviceCauses svc).foldl State.raise (b.endFault
        (.service svc))).result 0))) ∧
    (a.accepts src 1 false → b.inFault .chip = false → (b.fault (.service 2)).raised.contains (0x8101, 0) = true →
      b.cfg 0x1200 3 0 ≠ 2 →
      exec (.serviceReset t src 2 resetKey) s = .next (a.keep (((b.endFault (.service 2)).raise (ev 0x8101 0)).result 0)))

/-- The engine samples, evaluates, skips and delivers (R32, R33, R91, R105, R106, R108, R109, R115, R119). -/
def Obligations.EngineCommandsComplete : Prop :=
  ∀ (s a : State) (t : Tick), s.awake → a = s.advance t →
    (∀ (k : CtxId) (c : Nat), c = 8 * a.ctxBase k + a.nat 0x6100 3 k → (a.ctx k).state = .run →
      (a.ctx k).seen < (a.cell c).sampleAt → (a.cell c).sampleAt + (if a.paired then nsTicks 130 else nsTicks 50) ≤ a.now →
      a.nat 0x6100 4 k ≤ (a.ctx k).periods + 1 → a.slotNow (k / 16) = none →
      exec (.controlSampleReady t k) s = .next (a.keep (a.setCtx k
        { a.ctx k with seen := (a.cell c).sampleAt, periods := 0,
                       ready := some ⟨(a.cell c).sampleAt, a.now, (a.source k (a.nat 0x6100 5 k)).1, (a.source k (a.nat 0x6100 5 k)).2⟩ }))) ∧
    (∀ (k : CtxId) (c : Nat) (x : Slot) (u : State), c = 8 * a.ctxBase k + a.nat 0x6100 3 k → (a.ctx k).state ≠ .disabled →
      (a.ctx k).seen < (a.cell c).sampleAt → (a.cell c).sampleAt + (if a.paired then nsTicks 130 else nsTicks 50) ≤ a.now →
      a.nat 0x6100 4 k ≤ (a.ctx k).periods + 1 → a.slotNow (k / 16) = some x → u = a.giveBack (k / 16) →
      exec (.controlSampleReady t k) s = .next (a.keep ((u.setCtx k
        { u.ctx k with seen := (a.cell c).sampleAt, periods := 0,
                       ready := if (u.ctx k).state = .run then some ⟨(a.cell c).sampleAt, u.now, (a.source k (a.nat 0x6100 5 k)).1, (a.source k (a.nat 0x6100 5 k)).2⟩ else (u.ctx k).ready }).startSlot (k / 16)))) ∧
    (∀ (k : CtxId) (c : Nat), c = 8 * a.ctxBase k + a.nat 0x6100 3 k → (a.ctx k).state ≠ .disabled →
      (a.ctx k).seen < (a.cell c).sampleAt → (a.cell c).sampleAt + (if a.paired then nsTicks 130 else nsTicks 50) ≤ a.now →
      (a.ctx k).periods + 1 < a.nat 0x6100 4 k →
      exec (.controlSampleReady t k) s = .next (a.keep (a.setCtx k
        { a.ctx k with seen := (a.cell c).sampleAt, periods := (a.ctx k).periods + 1 }))) ∧
    (∀ (e : BlockId) (k : Nat) (r : Ready), bget 0 a.engineBusy e.val ≤ a.now → a.chooseCtx (a.candidates e) = some (k, r) →
      exec (.engineSlotStart t e) s = .next (a.keep
        { a.evaluate k r with engineBusy := bset a.engineBusy e.val (a.now + 8 * cycleTicks),
                              engineSlot := bset a.engineSlot e.val (a.slotOfCtx k) })) ∧
    (∀ (k : CtxId) (r : Ready), (a.ctx k).state = .run → (a.ctx k).ready = some r → a.deadline k r < a.now →
      a.nat 0x6100 2 k ≠ 0 → (a.ctx k).skipRun + 1 ≠ a.nat 0x6100 0xB k →
      exec (.contextSkip t k) s = .next (a.keep (((a.bump 0x6120 6 k).setCtx k
        { a.ctx k with ready := none, skipRun := (a.ctx k).skipRun + 1 }).raiseLimited k
        { ev 0x2104 (k / 16) with second := k.val, stateCode := 1 }))) ∧
    (∀ (k : CtxId) (d : Delivery), (a.ctx k).delivery = some d → d.due ≤ a.now →
      exec (.commandDelivery t k) s = .next (a.keep ((a.setCtx k
        { a.ctx k with u := d.u, delivery := none,
                       uHold := if (a.ctx k).state = .run ∧ !(a.ctx k).preset then (a.ctx k).uHold else d.u }).deliver k
        d.u))) ∧
    (∀ (k : CtxId), (a.ctx k).state = .held → (a.ctx k).overrun = false → a.nat 0x6100 0xC k * usTicks ≤ a.holdTime k →
      (a.now - (a.holdTime k - a.nat 0x6100 0xC k * usTicks)) / cycleTicks < a.now / cycleTicks →
      exec (.holdOverrun t k) s = .next (a.keep (((a.setCtx k { a.ctx k with overrun := true }).raiseEngine 0x2103 k
        ((a.holdTime k / usTicks : Nat) : Int) (a.cfg 0x6100 0xC k)).stopFed k)))

/-- A context is enabled, held and released by its commands (R89, R109, R112, R113). -/
def Obligations.ContextCommandsComplete : Prop :=
  ∀ (s a b : State) (t : Tick) (src : NodeId), s.awake → a = s.advance t → b = a.noted src →
    (∀ (k : CtxId), a.accepts src 2 false → b.ctxGroup 17 k = none → (b.ctx k).state = .run →
      exec (.contextEnable t src k 0) s = .next (a.keep ((((b.setCtx k { (b.ctx k).initial with state := .disabled }).put
        0x6100 1 k 0)).result 0))) ∧
    (∀ (k : CtxId) (value : Nat), a.accepts src 2 false →
      exec (.contextEnable t src k value) s = .next (a.keep (b.writeEnable k value))) ∧
    (∀ (k : CtxId), a.accepts src 2 false →
      exec (.contextHold t src k) s = .next (a.keep (b.hold k))) ∧
    (∀ (k : CtxId), a.accepts src 2 false → (b.ctx k).state = .held → (b.ctx k).staging.check = 0 →
      exec (.releaseWithSwap t src k) s = .next (a.keep (((b.put 0x6120 0xA k 0).releaseCtx k true).result 0))) ∧
    (∀ (k : CtxId), a.accepts src 2 false → (b.ctx k).state = .held → (b.ctx k).active.check = 0 →
      exec (.releaseWithoutSwap t src k) s = .next (a.keep (((b.put 0x6120 0xA k 0).releaseCtx k false).result 0)))

/-- A cell starts its periods, converts and checks its offset (R53, R60, R62, R63, R76, R78, R82, R146). -/
def Obligations.CellClockCompletes : Prop :=
  ∀ (s a : State) (t : Tick), s.awake → a = s.advance t →
    (∀ (c : CellId) (l : List Sample) (u : State), u = a.applySamples l →
      (u.cell c).state = .run ∨ (u.cell c).state = .hold ∨ (u.cell c).state = .stop → (u.cell c).nextStart ≤ u.now →
      exec (.cellPeriodStart t ⟨c, l⟩) s = .next (a.keep (u.periodStart c (u.cell c).nextStart))) ∧
    (∀ (c : CellId) (l : List Sample) (u : State), u = a.applySamples l →
      (u.cell c).state = .start → (u.cell c).checkPassed = true → (u.cell c).nextStart ≤ u.now →
      exec (.cellPeriodStart t ⟨c, l⟩) s = .next (a.keep (u.periodStart c (u.cell c).nextStart))) ∧
    (∀ (c : CellId) (v : Int) (code : Nat) (u : State) (x : Cell), code = a.senseCode c v →
      u = (if (a.cell c).sums.start ≤ a.now - nsTicks 50 then a.finishPeriod c else a) →
      x = (u.countPeriod c ((((u.cell c).countCode code).countCheck code).takeSample code (a.now - nsTicks 50)) code (a.now - nsTicks 50)).countOverRange code →
      x.overRange < 4 →
      exec (.cellAdcConversion t c v) s = .next (a.keep (u.setCell c x))) ∧
    (∀ (c : CellId) (v : Int) (code : Nat) (u : State) (x : Cell), code = a.senseCode c v →
      u = (if (a.cell c).sums.start ≤ a.now - nsTicks 50 then a.finishPeriod c else a) →
      x = (u.countPeriod c ((((u.cell c).countCode code).countCheck code).takeSample code (a.now - nsTicks 50)) code (a.now - nsTicks 50)).countOverRange code →
      4 ≤ x.overRange →
      exec (.cellAdcConversion t c v) s = .next (a.keep ((u.setCell c { x with overRange := 0 }).cellTrip
        { ev 0x1201 c with value := code, limit := if code = 0 then 0 else 4095, stateCode := x.state.code }))) ∧
    (∀ (c : CellId) (g : Nat) (at? : Tick), (a.cell c).state = .start → (a.cell c).checkPassed = false →
      (a.cell c).checkCount = 16 → (a.cell c).startAt + nsTicks 800 ≤ a.now →
      (((a.cell c).checkSum : Int) - 16 * a.zero c).natAbs ≤ 16 * a.nat 0x5011 3 c → a.cellGroup c = some g →
      (a.group g).reference = some at? →
      exec (.cellOffsetCheckEnd t c) s = .next (a.keep (a.setCell c
        { a.cell c with checkPassed := true, period := a.nat 0x5010 2 c, offset := a.nat 0x5010 3 c,
                        nextStart := scheduleFrom at? (a.nat 0x5010 3 c) (a.nat 0x5010 2 c) a.now }))) ∧
    (∀ (c : CellId), (a.cell c).state = .start → (a.cell c).checkPassed = false → (a.cell c).checkCount = 16 →
      (a.cell c).startAt + nsTicks 800 ≤ a.now →
      16 * a.nat 0x5011 3 c < (((a.cell c).checkSum : Int) - 16 * a.zero c).natAbs →
      exec (.cellOffsetCheckEnd t c) s = .next (a.keep ((a.raise
        { ev 0x1202 c with value := rndDiv (a.cell c).checkSum 16, limit := a.cfg 0x5011 3 c, stateCode := 1 }).stopCellNow
        c)))

/-- The comparator, the ceiling, the maximum on-time and the output edges act in their cell (R57, R58, R59, R66, R67, R73,
R74, R75, R78, R475). -/
def Obligations.CellEdgesComplete : Prop :=
  ∀ (s a : State) (t : Tick), s.awake → a = s.advance t →
    (∀ (c : CellId) (v : Int), (a.cell c).interval = true → a.peakBlankingOver c (a.cell c) = true →
      a.beyond c (a.cell c) (a.senseCode c v) = true →
      exec (.peakComparatorTrip t c v) s = .next (a.keep ((a.endInterval c (a.cell c)).1.setCell c (a.endInterval c (a.cell
        c)).2))) ∧
    (∀ (c : CellId) (v : Int), (a.cell c).interval = true → a.peakBlankingOver c (a.cell c) = true →
      a.beyond c (a.cell c) (a.senseCode c v) = true →
      exec (.leadingEdgeBlankingEnd t c v) s = .next (a.keep ((a.endInterval c (a.cell c)).1.setCell c (a.endInterval c
        (a.cell c)).2))) ∧
    (∀ (c : CellId) (v : Int) (m : Tick), (a.cell c).interval = false → a.peakBlankingOver c (a.cell c) = true →
      a.beyond c (a.cell c) (a.senseCode c v) = true → (a.cell c).maxEnd = some m → m / 16 = a.now / 16 →
      exec (.peakComparatorTrip t c v) s = .next (a.keep ((a.put 0x5003 2 c (a.nat 0x5003 2 c - 1 : Nat)).setCell c
        { a.cell c with maxEnd := none }))) ∧
    (∀ (c : CellId) (u : State), (a.cell c).interval = true →
      (a.cell c).intervalStart + a.nat 0x5010 6 c * (a.cell c).onTimeSpan (a.nat 0x5010 1 c) / 65536 ≤ a.now →
      u = a.bump 0x5003 2 c →
      exec (.maximumOnTimeEnd t c) s = .next (a.keep ((u.endInterval c (a.cell c)).1.setCell c
        { (u.endInterval c (a.cell c)).2 with maxEnd := some (u.endInterval c (a.cell c)).1.now }))) ∧
    (∀ (c : CellId) (v : Int) (code : Nat) (x : Cell), code = a.senseCode c v → (a.cell c).state = .run →
      ceilingOpen (blankTicks (a.nat 0x5012 5 c)) (a.cell c).riseA (a.cell c).riseB a.now = true →
      (a.cell c).ceilingForced = false → a.nat 0x5012 3 c < code →
      x = (a.cell c).forceSafe (decide (a.nat 0x5010 8 c = 1)) (a.nat 0x5010 5 c) a.now → a.nat 0x5012 6 c ≤ x.ceilingRun →
      exec (.ceilingTrip t c v) s = .next (a.keep (((a.bump 0x5003 1 c).setCell c { x with ceilingRun := 0 }).cellTrip
        { ev 0x1101 c with value := code, limit := a.nat 0x5012 3 c, stateCode := x.state.code }))) ∧
    (∀ (c : CellId) (v : Int) (code : Nat) (x : Cell), code = a.senseCode c v → (a.cell c).state = .run →
      ceilingOpen (blankTicks (a.nat 0x5012 5 c)) (a.cell c).riseA (a.cell c).riseB a.now = true →
      (a.cell c).ceilingForced = false → a.nat 0x5012 3 c < code →
      x = (a.cell c).forceSafe (decide (a.nat 0x5010 8 c = 1)) (a.nat 0x5010 5 c) a.now → x.ceilingRun < a.nat 0x5012 6 c →
      exec (.ceilingTrip t c v) s = .next (a.keep (((a.bump 0x5003 1 c).setCell c x).raiseLimited c
        { ev 0x1102 c with value := code, limit := a.nat 0x5012 3 c, stateCode := x.state.code }))) ∧
    (∀ (c : CellId), a.holdsToken c = true →
      exec (.pwmNetMismatch t c .a) s = .next (a.keep (a.cellTrip
        { ev 0x1301 c with value := 0, stateCode := (a.cell c).state.code }))) ∧
    (∀ (c : CellId), a.holdsToken c = true →
      exec (.pwmNetMismatch t c .b) s = .next (a.keep (a.cellTrip
        { ev 0x1301 c with value := 1, stateCode := (a.cell c).state.code }))) ∧
    (∀ (c : CellId) (net : Net), a.holdsToken c = false →
      exec (.pwmNetMismatch t c net) s = .next (a.keep a)) ∧
    (∀ (c : CellId) (x : Cell), (a.cell c).switching = true → a.nat 0x5010 1 c = 3 → (a.cell c).secondHalf = false →
      (a.cell c).periodStart + (a.cell c).period / 2 ≤ a.now →
      x = { a.cell c with secondHalf := true, ceilingForced := false } →
      exec (.halfPeriodStart t c) s = .next (a.keep ((a.programRise c .b true (x.programFall .a a.now)).1.setCell c
        (a.programRise c .b true (x.programFall .a a.now)).2))) ∧
    (∀ (c : CellId) (x : Cell), (a.cell c).switching = true → a.nat 0x5010 1 c = 4 → (a.cell c).secondHalf = false →
      (a.cell c).ceilingForced = false → (a.cell c).periodStart + (a.cell c).period / 2 ≤ a.now →
      x = { a.cell c with secondHalf := true, ceilingForced := false } → x.hasInterval 4 = true →
      exec (.halfPeriodStart t c) s = .next (a.keep (a.setCell c (x.startInterval a.now)))) ∧
    (∀ (c : CellId), (a.cell c).waitB ≠ .none → (a.cell c).ceilingForced = true →
      (a.cell c).mayRise .b (a.nat 0x5010 4 c) (a.nat 0x5010 5 c) a.now = true →
      exec (.deadTimeEnd t c .b) s = .next (a.keep (a.setCell c ((a.cell c).goHigh .b a.now)))) ∧
    (∀ (c : CellId), (a.cell c).waitA ≠ .none → (a.cell c).ceilingForced = false →
      (a.cell c).mayRise .a (a.nat 0x5010 4 c) (a.nat 0x5010 5 c) a.now = true →
      exec (.deadTimeEnd t c .a) s = .next (a.keep (a.setCell c ((a.cell c).raiseNet (a.nat 0x5010 1 c) (a.valley c (a.cell
        c)) .a a.now)))) ∧
    (∀ (c : CellId), (a.cell c).waitB ≠ .none → (a.cell c).ceilingForced = false →
      (a.cell c).mayRise .b (a.nat 0x5010 4 c) (a.nat 0x5010 5 c) a.now = true →
      exec (.deadTimeEnd t c .b) s = .next (a.keep (a.setCell c ((a.cell c).raiseNet (a.nat 0x5010 1 c) (a.valley c (a.cell
        c)) .b a.now)))) ∧
    (∀ (c : CellId), (a.cell c).switching = true → a.nat 0x5010 1 c = 2 → a.nat 0x5010 9 c ≠ a.nat 0x5010 0xA c →
      (a.cell c).periodStart + a.nat 0x5010 9 c ≤ a.now → (a.cell c).state = .run →
      exec (.pwmbProgrammedEdge t c true) s = .next (a.keep ((a.programRise c .b false (a.cell c)).1.setCell c (a.programRise
        c .b false (a.cell c)).2))) ∧
    (∀ (c : CellId), (a.cell c).switching = true → a.nat 0x5010 1 c = 2 → a.nat 0x5010 9 c ≠ a.nat 0x5010 0xA c →
      (a.cell c).periodStart + a.nat 0x5010 0xA c ≤ a.now → (a.cell c).state = .run → (a.cell c).ceilingForced = false →
      exec (.pwmbProgrammedEdge t c false) s = .next (a.keep (a.setCell c { (a.cell c).fall .b a.now with waitB := .none })))

/-- Group commands start, stop and set a group (R34, R125, R129, R130, R133, R134, R141, R144). -/
def Obligations.GroupCommandsComplete : Prop :=
  ∀ (s a b : State) (t : Tick) (src : NodeId), s.awake → a = s.advance t → b = a.noted src →
    (∀ (g : GroupId) (c : State), a.accepts src 1 false → b.upperCopy (g / 4) = false → b.groupFree g = true → c = b.ranked g 3 →
      c.startResult g ≠ 0 →
      exec (.groupStart t src g) s = .next (a.keep (((c.put (0x6200 + g % 4) 0xC (g / 4) (c.startResult g)).raise
        { ev 0x2402 (g / 4) with value := c.startResult g, stateCode := (c.group g).state.code, second := g }).result 0x23))) ∧
    (∀ (g : GroupId) (c : State), a.accepts src 1 false → b.upperCopy (g / 4) = false → b.groupFree g = true → c = b.ranked g 3 →
      c.startResult g = 0 →
      exec (.groupStart t src g) s = .next (a.keep (((c.put (0x6200 + g % 4) 0xC (g / 4) 0).beginStart g).result 0))) ∧
    (∀ (g : GroupId) (c : State), a.accepts src 1 false → b.upperCopy (g / 4) = false → b.groupFree g = true → c = b.ranked g 3 →
      exec (.groupOrderlyStop t src g) s = .next (a.keep (((c.put (0x6200 + g % 4) 0xC (g / 4) 0).orderlyStop g).result 0))) ∧
    (∀ (g : GroupId) (c : State), a.accepts src 1 false → b.upperCopy (g / 4) = false → b.groupFree g = true → c = b.ranked g 3 →
      exec (.groupImmediateStop t src g) s = .next (a.keep (((c.put (0x6200 + g % 4) 0xC (g / 4) 0).stopGroupNow g).result
        0))) ∧
    (∀ (g : GroupId) (v : Nat) (c : State), a.accepts src 1 false → b.upperCopy (g / 4) = false → b.groupFree g = true →
      c = b.ranked g 3 → c.cfg (0x6200 + g % 4) 6 (g / 4) ≤ v → (v : Int) ≤ c.cfg (0x6200 + g % 4) 7 (g / 4) →
      exec (.setpointTargetWrite t src g v) s = .next (a.keep ((c.put (0x6200 + g % 4) 3 (g / 4) v).result 0))) ∧
    (∀ (g : GroupId) (v : Nat) (c : State), a.accepts src 1 false → b.upperCopy (g / 4) = false → b.groupFree g = true →
      c = b.ranked g 3 →
      c.cfg (0x6200 + g % 4) 6 (g / 4) ≤ c.cfg (0x6200 + g % 4) 7 (g / 4) → c.cfg (0x6200 + g % 4) 7 (g / 4) < v →
      exec (.setpointTargetWrite t src g v) s = .next (a.keep ((((c.put (0x6200 + g % 4) 3 (g / 4) (c.cfg (0x6200 + g % 4) 7
        (g / 4))).put (0x6200 + g % 4) 8 (g / 4) 1).raise
        { ev 0x2401 (g / 4) with value := v, limit := c.cfg (0x6200 + g % 4) 7 (g / 4), stateCode := (c.group g).state.code,
                                 second := g }).result 1))) ∧
    (∀ (g : GroupId) (at? : Nat), a.accepts src 1 false → b.upperCopy (g / 4) = false → at? = b.now / cycleTicks →
      (b.group g).cmdAt = some (at?, 1) → ∀ v : Nat,
      exec (.groupOrderlyStop t src g) s = .next (a.keep b) ∧ exec (.groupImmediateStop t src g) s = .next (a.keep b) ∧
        exec (.setpointTargetWrite t src g v) s = .next (a.keep b))

/-- The timers and conditions of a group take effect when they are due (R128, R131, R132, R136, R138, R140, R141, R142). -/
def Obligations.GroupTimersComplete : Prop :=
  ∀ (s a : State) (t : Tick), s.awake → a = s.advance t →
    (∀ (g : GroupId), (a.group g).state = .run → (a.group g).powerGood = false → a.role g ≠ 3 →
      a.since (a.group g).inBandSince msTicks = true →
      exec (.groupPowerGood t g) s = .next (a.keep (a.setGood g))) ∧
    (∀ (g : GroupId), (a.group g).state = .run → (a.group g).powerGood = false → a.role g = 3 → (a.group g).relayOpen = true →
      exec (.groupPowerGood t g) s = .next (a.keep (a.setGood g))) ∧
    (∀ (g : GroupId), (a.group g).powerGood = true → a.role g ≠ 3 → a.since (a.group g).outBandSince (100 * usTicks) = true →
      exec (.groupPowerGoodLoss t g) s = .next (a.keep (a.setGroup g { a.group g with powerGood := false }))) ∧
    (∀ (g : GroupId) (x : Group), x = (a.group g).countStart a.now → x.awaitGood = true → x.state = .starting →
      a.nat (0x6200 + g % 4) 0xB (g / 4) * msTicks ≤ x.startSteps →
      exec (.groupStartTimeout t g) s = .next (a.keep ((((a.setGroup g { x with awaitGood := false }).raise
        { ev 0x2403 (g / 4) with value := ((x.startSteps / msTicks : Nat) : Int), limit := a.nat (0x6200 + g % 4) 0xB (g / 4),
                                 stateCode := 1, second := g, owners := (a.groupCells g).map Elem.cell }).markStop g).stopGroup g))) ∧
    (∀ (g : GroupId), a.role g = 1 → (a.group g).state = .mainsWait → a.pfcReady g = true →
      exec (.mainsWaitExit t g) s = .next (a.keep (((a.resetFeeders g).presetForce g).setGroupState g .run))) ∧
    (∀ (g : GroupId) (u : State), a.role g = 2 → (a.group g).state = .run →
      a.since (a.group g).bulkLowSince (100 * usTicks) = true →
      u = (a.raise { ev 0x2405 (g / 4) with value := a.inputMilliVolt (a.nat (0x6210 + g % 4) 2 (g / 4)), limit := a.cfg (0x6210 + g % 4) 3 (g / 4) * 100, stateCode := 2, second := g.val }).setGroupState g .stopping →
      exec (.isoBulkUndervoltage t g) s = .next (a.keep (((u.setGroup g { u.group g with toWait := true }).cellsOrderly
        ((u.setGroup g { u.group g with toWait := true }).groupCells g)).settle g))) ∧
    (∀ (g : GroupId), a.role g = 3 → (a.group g).relayOpen = false → a.since (a.group g).relayEdge (25 * msTicks) = true →
      (a.group g).state = .run →
      exec (.relayOpenConfirmed t g) s = .next (a.keep ((a.setGroup g { a.group g with relayOpen := true }).setGood g))) ∧
    (∀ (g : GroupId), a.role g = 3 → (a.group g).relayOpen = false → a.since (a.group g).relayEdge (25 * msTicks) = true →
      (a.group g).state ≠ .run →
      exec (.relayOpenConfirmed t g) s = .next (a.keep (a.setGroup g { a.group g with relayOpen := true }))) ∧
    (∀ (g : GroupId), a.since (a.group g).stopHold (25 * msTicks) = true →
      exec (.batStopRelayDelayEnd t g) s = .next (a.keep (a.stopGroupCells g))) ∧
    (∀ (g : GroupId) (i : Int) (u : State), a.role g = 4 → (a.group g).bstAt = none →
      i = (if a.nat (0x6210 + g % 4) 1 (g / 4) < 24 then a.idMilli (a.nat (0x6210 + g % 4) 1 (g / 4)) * 1000 else 0) →
      u = a.setGroup g { a.group g with feedMicroAmp := (a.group g).feedMicroAmp + (i - (a.group g).feedMicroAmp) * lowPass 10 (a.nat (0x6210 + g % 4) 3 (g / 4)) / fxOne, bstAt := some a.now } →
      u.bstDemand g ≤ u.feedCeiling →
      exec (.bstTargetUpdate t g) s = .next (a.keep (u.setGroup g
        { u.group g with bstTarget := limitInt (u.bstDemand g) (rndDiv (a.group g).forceMicro 1000) u.feedCeiling })))

/-- Units and pool members are added, shed and classified when their conditions have lasted (R31, R34, R153, R154, R155, R156,
R159, R161, R164, R165, R166, R170). -/
def Obligations.PhaseAndPoolCommandsComplete : Prop :=
  ∀ (s a : State) (t : Tick), s.awake → a = s.advance t →
    (∀ (g : GroupId) (c : State), a.since (a.group g).addSince (a.nat (0x6300 + g % 4) 6 (g / 4) * usTicks) = true →
      a.groupFree g = true → c = a.ranked g 4 →
      exec (.phaseAddDecision t g) s = .next (a.keep ((c.phaseAdd g).getD c))) ∧
    (∀ (g : GroupId) (c : State), a.since (a.group g).shedSince (a.nat (0x6300 + g % 4) 7 (g / 4) * msTicks) = true →
      a.groupFree g = true → c = a.ranked g 5 →
      exec (.phaseShedDecision t g) s = .next (a.keep ((c.phaseShed g).getD c))) ∧
    (∀ (g : GroupId) (at? : Nat), a.since (a.group g).shedSince (a.nat (0x6300 + g % 4) 7 (g / 4) * msTicks) = true →
      at? = a.now / cycleTicks → (a.group g).cmdAt = some (at?, 1) ∨ (a.group g).cmdAt = some (at?, 2) →
      exec (.phaseShedDecision t g) s = .next (a.keep a)) ∧
    (∀ (g : GroupId), a.since (a.group g).devSince usTicks = true → (a.group g).devRaised = false →
      exec (.deviationLoadStep t g) s = .next (a.keep ((a.setGroup g { a.group g with devRaised := true }).offerLoadStep g
        1))) ∧
    (∀ (g : GroupId) (c : State), (a.group g).stepOffered ≠ 0 → a.groupFree g = true →
      c = (a.setGroup g { a.group g with stepOffered := 0 }).ranked g 2 → c.poolOf g = none →
      exec (.loadStep t g) s = .next (a.keep (c.loadStep g))) ∧
    (∀ (g : GroupId) (p : Nat) (c u : State), (a.group g).stepOffered = 1 → a.groupFree g = true →
      c = (a.setGroup g { a.group g with stepOffered := 0 }).ranked g 2 → (c.group g).state = .run → c.poolOf g = some p →
      u = c.poolLoadStep p →
      exec (.loadStep t g) s = .next (a.keep ((u.setGroup g { u.group g with stepOffered := 0 }).loadStep g))) ∧
    (∀ (g : GroupId) (code : Nat) (m : Int), a.hasSense g = true → (a.group g).state = .run → a.rampUnits g = [] →
      ((a.activeUnits g).any fun u => u.any fun c => (a.cell c).noRipple) = false →
      a.cfg (0x6300 + g % 4) 3 (g / 4) * 256 ≤ 4 * (a.group g).load →
      0 < (a.activeUnits g).foldl (fun v u => v + ((a.cell (leadCell u)).meanCode - a.zero (leadCell u))) (0 : Int) →
      m = (code : Int) * 16384 * 65536 / (a.activeUnits g).foldl (fun v u => v + ((a.cell (leadCell u)).meanCode - a.zero (leadCell u))) (0 : Int) →
      exec (.senseRatioUpdate t g code) s = .next (a.keep (a.setGroup g
        { a.group g with rho := if (a.group g).rhoCount = 0 then m else (a.group g).rho + (m - (a.group g).rho) / 64,
                         rhoCount := (a.group g).rhoCount + 1 }))) ∧
    (∀ (c : CellId) (code : Nat) (g : Nat) (k : Classify) (u : List Nat) (v : State), a.cellGroup c = some g →
      (a.group g).classify = some k → k.cell = c.val → k.left = 0 → u = a.unitOf g c → a.classOf g k code = 1 →
      v = (a.setGroup g { a.group g with classify := none }).put (0x6310 + g % 4) 0xA (g / 4) 1 →
      exec (.noRippleClassification t c code) s = .next (a.keep ((((v.raise
        { ev 0x2501 (g / 4) with value := code, stateCode := 2, second := g, owners := u.map Elem.cell }).markStop
        g).cellsOrderly u).settle g))) ∧
    (∀ (g : GroupId), ((a.groupCells g).any fun c => a.since (a.cell c).limitedSince msTicks) = true →
      exec (.shareLimitActive t g) s = .next (a.keep (a.raiseLimited g
        { ev 0x2505 (g / 4) with limit := a.cfg (0x6300 + g % 4) 0xC (g / 4), stateCode := 2, second := g }))) ∧
    (∀ (p : PoolId), a.cfg (0x2100 + p) 0x1A 0 = 1 → a.since (a.pool p).addSince (a.nat (0x2100 + p) 0x14 0 * usTicks) = true → a.memberRampRuns p = false →
      exec (.poolMemberAdd t p) s = .next (a.keep (a.addLeastWorn p))) ∧
    (∀ (p : PoolId), a.cfg (0x2100 + p) 0x1A 0 = 1 → a.since (a.pool p).shedSince (a.nat (0x2100 + p) 0x15 0 * msTicks) = true → a.memberRampRuns p = false →
      exec (.poolMemberPark t p) s = .next (a.keep (a.parkMostWorn p))) ∧
    (∀ (p : PoolId), a.cfg (0x2100 + p) 0x1A 0 = 1 → 0 < a.nat (0x2100 + p) 0x16 0 →
      (a.pool p).rotateFrom + a.nat (0x2100 + p) 0x16 0 * 3600 * secTicks ≤ a.now → a.memberRampRuns p = false →
      (a.setPool p { a.pool p with rotateFrom := a.now }).leastWornMember ((a.setPool p { a.pool p with rotateFrom := a.now }).parkedMembers p) = none →
      exec (.poolRotation t p) s = .next (a.keep (a.setPool p { a.pool p with rotateFrom := a.now }))) ∧
    (∀ (p : PoolId) (g : Nat) (u : State), a.cfg (0x2100 + p) 0x1A 0 = 1 → 0 < a.nat (0x2100 + p) 0x16 0 →
      (a.pool p).rotateFrom + a.nat (0x2100 + p) 0x16 0 * 3600 * secTicks ≤ a.now → a.memberRampRuns p = false →
      u = a.setPool p { a.pool p with rotateFrom := a.now } → u.leastWornMember (u.parkedMembers p) = some g →
      u.groupFree g = true →
      exec (.poolRotation t p) s = .next (a.keep (((u.ranked g 4).addMember p g (.add 0)).setPool p
        { ((u.ranked g 4).addMember p g (.add 0)).pool p with rotating := some g, fullSince := none }))) ∧
    (∀ (p : PoolId) (g : Nat) (u : State), (a.pool p).rotating = some g → a.cfg (0x2100 + p) 0x1A 0 = 1 →
      a.since (a.pool p).fullSince (100 * msTicks) = true → a.memberRampRuns p = false → u = a.parkMostWorn p →
      exec (.poolRotationPark t p) s = .next (a.keep ((u.setPool p
        { u.pool p with rotating := none, fullSince := none }).raise { ev 0x4501 0 with value := p, second := g }))) ∧
    (∀ (src : NodeId) (k : BlockId) (value : Nat), a.accepts src 2 false →
      exec (.doublesWrite t src k value) s = .next (a.keep ((a.noted src).writeDoubles k value))) ∧
    (a.runSavedAt + 3600 * secTicks ≤ a.now →
      exec (.runTimeSave t) s = .next (a.keep a.saveRunTimes))

/-- A feed channel moves through its states and trips when its conditions hold (R202, R203, R204, R205, R206, R207, R208,
R209, R210, R212). -/
def Obligations.FeedTimersComplete : Prop :=
  ∀ (s a : State) (t : Tick), s.awake → a = s.advance t →
    (∀ (f : FeedId), (a.feed f).state = .inrush → a.since (a.feed f).belowOn (10 * usTicks) = true →
      exec (.inrushComplete t f) s = .next (a.keep ((a.toFeed f .on .full).endTransfer f))) ∧
    (∀ (f : FeedId), a.unmarked f → (a.feed f).state = .inrush → (a.feed f).entered + a.nat 0x6800 0xF f * msTicks ≤ a.now →
      exec (.inrushTimeout t f) s = .next (a.keep (a.feedTrip f 0x5203 .latched (((a.now - (a.feed f).entered) / msTicks :
        Nat) : Int) (a.nat 0x6800 0xF f)))) ∧
    (∀ (f : FeedId) (v i g : Nat), a.unmarked f →
      exec (.thermalModelUpdate t f v i g) s = .next (a.keep (((((a.setFeed f ((a.feed f).codes v i g)).judgeFeed
        f).amplifierRests f).modelStep f).thermalTrip f))) ∧
    (∀ (f : FeedId) (v i g code : Nat) (u w : State), code < 4096 →
      u = (((a.setFeed f ((a.feed f).codes v i g)).judgeFeed f).amplifierRests f).modelStep f →
      w = (a.setFeed f { a.feed f with isns := code }).judgeFeed f →
      exec (.thermalModelUpdate t f v i g) s = .next (a.keep (u.tripFirst f fun s => s.thermalTrip f)) ∧
        exec (.shortCircuitTrip t f code) s = .next (a.keep (w.tripFirst f fun s => s.shortTrip f)) ∧
        exec (.gateFail t f) s = .next (a.keep (a.tripFirst f fun s => s.gateTrip f))) ∧
    (∀ (f : FeedId) (code : Nat) (u : State), a.unmarked f → code < 4096 → u = (a.setFeed f { a.feed f with isns := code }).judgeFeed f →
      u.feedLive f = true → u.cfg 0x6800 0xE f < u.idMilli f → u.cfg 0x6800 0x17 f = 1 → u.retriesLeft f = true →
      exec (.shortCircuitTrip t f code) s = .next (a.keep (u.feedTrip f 0x5201 .cooldown (u.idMilli f) (u.cfg 0x6800 0xE f)))) ∧
    (∀ (f : FeedId) (code : Nat) (u : State), a.unmarked f → code < 4096 →
      u = (a.setFeed f { a.feed f with isns := code }).judgeFeed f →
      u.feedLive f = true → u.cfg 0x6800 0xE f < u.idMilli f → ¬ (u.cfg 0x6800 0x17 f = 1 ∧ u.retriesLeft f = true) →
      exec (.shortCircuitTrip t f code) s = .next (a.keep (u.feedTrip f 0x5202 .latched (u.idMilli f) (u.cfg 0x6800 0xE f)))) ∧
    (∀ (f : FeedId) (code : Nat) (u : State), code < 4096 → u = (a.setFeed f { a.feed f with isns := code }).judgeFeed f →
      (u.feed f).state = .on → u.cfg 0x6800 0xD f < u.idMilli f →
      exec (.currentLimitEngaged t f code) s = .next (a.keep ((u.setFeed f { u.feed f with gate := .limiting }).raiseLimited f
        { ev 0x5103 f with value := u.idMilli f, limit := u.cfg 0x6800 0xD f, stateCode := 2 }))) ∧
    (∀ (f : FeedId), a.unmarked f → a.feedLive f = true →
      a.since (a.feed f).belowRise (2 * msTicks) = true ∨ a.since (a.feed f).belowVolt (2 * msTicks) = true →
      exec (.gateFail t f) s = .next (a.keep (a.feedTrip f 0x5302 .latched (a.vgs f) (if a.since (a.feed f).belowRise (2 *
        msTicks) then a.cfg 0x6800 0xA f else 1000)))) ∧
    (∀ (f : FeedId) (u : State), (a.feed f).state = .off → a.since (a.feed f).weldFrom (5 * msTicks) = true →
      u = a.setFeed f { a.feed f with weldFrom := none } → u.nat 0x6800 0x10 f = 1 ∨ u.nat 0x6800 0x10 f = 3 →
      u.cfg 0x6800 0x11 f < u.outMilli f →
      exec (.weldedTest t f) s = .next (a.keep (u.weld f (u.outMilli f) (u.cfg 0x6800 0x11 f)))) ∧
    (∀ (f : FeedId), (a.feed f).state = .cooldown → (a.feed f).entered + a.nat 0x6800 0x15 f * msTicks ≤ a.now →
      (a.feed f).tj ≤ a.cfg 0x6810 0xC f * 100000 →
      exec (.cooldownEnd t f) s = .next (a.keep ((a.setFeed f { a.feed f with retries := (a.feed f).retries + 1 }).feedInrush
        f .ramp))) ∧
    (∀ (f : FeedId), (a.feed f).state = .on → (a.feed f).powerGood = false → a.goodConditions f = true →
      a.since (a.feed f).goodCond (100 * usTicks) = true →
      exec (.channelPowerGood t f) s = .next (a.keep (a.setFeed f
        { a.feed f with powerGood := true, goodSince := some a.now }))) ∧
    (∀ (f : FeedId), (a.feed f).powerGood = true → a.goodConditions f = false →
      exec (.channelPowerGoodLoss t f) s = .next (a.keep (a.setFeed f
        { a.feed f with powerGood := false, goodSince := none }))) ∧
    (∀ (f : FeedId), (a.feed f).powerGood = true → a.since (a.feed f).goodSince (a.nat 0x6800 0x16 f * secTicks) = true →
      exec (.retryCountReset t f) s = .next (a.keep (a.setFeed f { a.feed f with retries := 0 }))) ∧
    (∀ (f : FeedId) (code : Nat), code = 0 ∨ code = 4095 → a.feedLive f = true → (a.feed f).isnsLost = false →
      exec (.feedSenseOverRange t f true code) s = .next (a.keep ((a.setFeed f
        { a.feed f with isnsLost := true, isns := code }).raise
        { ev 0x5501 f with value := code, stateCode := if (a.feed f).state = .on then 2 else 1 }))) ∧
    (∀ (f : FeedId) (code : Nat), code = 0 ∨ code = 4095 → a.feedLive f = true → (a.feed f).vdsLost = false →
      exec (.feedSenseOverRange t f false code) s = .next (a.keep ((a.setFeed f
        { a.feed f with vdsLost := true, vds := code }).raise
        { ev 0x5501 f with value := code, stateCode := if (a.feed f).state = .on then 2 else 1 })))

/-- Channel commands and the input selector act by their rules (R209, R212, R216, R217, R218, R219). -/
def Obligations.FeedCommandsAndSelectorComplete : Prop :=
  ∀ (s a b : State) (t : Tick) (src : NodeId), s.awake → a = s.advance t → b = a.noted src →
    (∀ (f : FeedId), a.accepts src 1 false → b.channelResult f true ≠ 0 →
      exec (.channelOn t src f) s = .next (a.keep { (b.put 0x6830 2 f (b.channelResult f true)).result 0x23 with
        feedMarks := bset b.feedMarks f (some { time := b.now, on := true, before := b.feed f }) })) ∧
    (∀ (f : FeedId) (u : State), a.accepts src 1 false → b.channelResult f true = 0 → u = (b.put 0x6830 2 f 0).result 0 →
      (u.feed f).state = .off →
      exec (.channelOn t src f) s = .next (a.keep { u.feedInrush f .ramp with
        feedMarks := bset b.feedMarks f (some { time := b.now, on := true, before := b.feed f }) })) ∧
    (∀ (f : FeedId), a.accepts src 1 false → b.channelResult f false ≠ 0 →
      exec (.channelOff t src f) s = .next (a.keep { (b.put 0x6830 2 f (b.channelResult f false)).result 0x23 with
        feedMarks := bset b.feedMarks f (some { time := b.now, on := false, before := b.feed f }) })) ∧
    (∀ (f : FeedId), a.accepts src 1 false → b.channelResult f false = 0 →
      exec (.channelOff t src f) s = .next (a.keep { ((b.put 0x6830 2 f 0).result 0).feedOff f with
        feedMarks := bset b.feedMarks f (some { time := b.now, on := false, before := b.feed f }) })) ∧
    (a.accepts src 1 false → b.selector.transfer = none → b.selectorOn = true →
      exec (.forceSelectA t src) s = .next (a.keep ((b.setSelector { b.selector with force := 1 }).moveSelector))) ∧
    (a.accepts src 1 false → b.selector.transfer = none → b.selectorOn = true →
      exec (.forceSelectB t src) s = .next (a.keep ((b.setSelector { b.selector with force := 2 }).moveSelector))) ∧
    (a.accepts src 1 false → b.selector.transfer = none → b.selectorOn = true →
      exec (.forceAutomatic t src) s = .next (a.keep ((b.setSelector { b.selector with force := 0 }).moveSelector))) ∧
    (∀ (x : Feed), a.selectorOn = true → a.selector.closed = some (Feed.number x) → a.feedDropped (Feed.number x) = true →
      exec (.feedDropped t x) s = .next (a.keep (a.openFeed (Feed.number x)))) ∧
    (∀ (x : Feed), a.selectorOn = true → a.feedGood (Feed.number x) = true →
      exec (.feedGood t x) s = .next (a.keep a.moveSelector)) ∧
    (∀ (x : Feed), a.selectorOn = true → a.selector.closed = none → a.confirmedOff 0 = true → a.confirmedOff 1 = true →
      exec (.feedConfirmedOff t x) s = .next (a.keep ((a.setSelector
        { a.selector with opened := none, blocked := false }).selectFeed))) ∧
    (∀ (y : Nat) (at? : Tick), a.selector.opened = some (y, at?) → a.selectorOn = true → at? + msTicks ≤ a.now →
      a.confirmedOff y = false → a.selector.blocked = false →
      exec (.transferBlocked t) s = .next (a.keep ((a.setSelector { a.selector with blocked := true }).raise
        { ev 0x5403 0 with value := (((a.now - at?) / usTicks : Nat) : Int), limit := 1000, stateCode := 3 }))) ∧
    (∀ (f pref : Nat), pref = a.nat 0x6840 2 0 → a.inputFeed pref = some f → a.selectorOn = true → 0 < a.nat 0x6840 7 0 →
      a.selector.force = 0 → a.selector.transfer = none → a.selector.closed = some (1 - pref) →
      a.since (a.feed f).inGood (a.nat 0x6840 6 0 * msTicks + a.nat 0x6840 7 0 * secTicks) = true →
      (a.feed f).freedAt + a.nat 0x6840 7 0 * secTicks ≤ a.now → a.feedGood pref = true →
      exec (.returnDwellEnd t) s = .next (a.keep ((a.raise { ev 0x5404 0 with stateCode := a.selectorCode }).openFeed (1 -
        pref)))) ∧
    (∀ (at? : Tick) (x : Nat), a.selector.transfer = some at? → a.selector.closed = some x → a.selector.timed = false →
      exec (.gateRiseThresholdReached t) s = .next (a.keep (((a.setSelector { a.selector with timed := true }).put 0x6840 0xB
        0 (((a.now - at?) * 5 / 128 : Nat) : Int)).raise
        { ev 0x5401 0 with value := (((a.now - at?) * 5 / 128 : Nat) : Int), stateCode := 3, w4 := x })))

/-- The estimator samples, rests, learns and protects its strings when they are due (R227, R228, R231, R234, R236, R237, R238,
R241, R242, R243, R244). -/
def Obligations.BatteryTimersComplete : Prop :=
  ∀ (s a : State) (t : Tick), s.awake → a = s.advance t →
    (∀ (n : StringId) (v i latest sh : Nat), a.estimates n = true → a.sampleDue n latest = true → (a.str n).fast = true →
      exec (.estimatorSample t n v ⟨i, latest⟩ sh) s = .next (a.keep (((((((((a.sampleInputs n v i latest sh).sampleTemps
        n).sampleCount n).sampleStart n).sampleJudge n).sampleRest n).samplePermit n).sampleAllow n).sampleTest n))) ∧
    (∀ (n : StringId) (v i latest sh : Nat) (u : State), a.estimates n = true → a.sampleDue n latest = true →
      (a.str n).fast = false →
      u = { a with shorted := bset a.shorted (a.nat 0x7000 3 n) (a.now + 12800 * usTicks / 1000) } →
      exec (.estimatorSample t n v ⟨i, latest⟩ sh) s = .next (a.keep (((((((((u.sampleInputs n v i latest sh).sampleTemps
        n).sampleCount n).sampleStart n).sampleJudge n).sampleRest n).samplePermit n).sampleAllow n).sampleTest n))) ∧
    (∀ (n : StringId) (u : State), a.estimates n = true → (a.str n).restTaken = false →
      a.since (a.str n).restSince (a.nat 0x7110 4 0 * 60 * secTicks) = true →
      u = (a.setStr n { a.str n with restTaken := true }).raise { ev 0x6201 n with value := rndDiv (a.str n).socV 1000 } →
      exec (.restPoint t n) s = .next (a.keep ((if u.usableSoc (a.str n).socV then u.usableRest n else u).writeRecord n))) ∧
    (∀ (n : StringId) (u : State), a.estimates n = true → (a.str n).dayAt + 86400 * secTicks ≤ a.now →
      u = (a.setStr n { a.str n with dayAt := a.now }).put 0x7030 3 n (min (a.cfg 0x7030 3 n + 1) 65535) →
      a.cfg 0x7030 3 n + 1 < u.cfg 0x7110 8 0 →
      exec (.confidenceDecay t n) s = .next (a.keep (u.put 0x7030 2 n (max 0 (u.cfg 0x7030 2 n - u.cfg 0x7110 7 0))))) ∧
    (∀ (n : StringId), a.estimates n = true → (a.str n).recordAt + 600 * secTicks ≤ a.now →
      exec (.batteryStateRecord t n) s = .next (a.keep (a.writeRecord n))) ∧
    (∀ (n : StringId), 1 ≤ (a.str n).hold → (a.str n).hold ≤ 3 →
      (a.str n).holdAt + a.nat 0x7120 (if (a.str n).hold = 1 then 2 else 4) 0 * 60 * secTicks ≤ a.now →
      exec (.restHoldEnd t n) s = .next (a.keep (a.endHold (a.nat 0x7000 9 n) 1))) ∧
    (∀ (n : StringId), a.estimates n = true → (a.str n).permitted = false →
      a.since (a.str n).permitSince (60 * secTicks) = true →
      exec (.chargePermit t n) s = .next (a.keep ((a.setStr n { a.str n with permitted := true }).raise
        { ev 0x6402 n with value := (a.str n).temp }))) ∧
    (∀ (n : StringId) (u : State), a.estimates n = true → (a.str n).full = false → (a.str n).tapering = true →
      a.since (a.str n).tailSince (a.nat 0x7010 6 n * 60 * secTicks) = true →
      u = (a.setStr n { a.str n with full := true }).raise { ev 0x6505 n with value := (a.str n).amp } →
      exec (.fullCharge t n) s = .next (a.keep (if u.topHoldDue (u.nat 0x7000 9 n) then u.beginHold (u.nat 0x7000 9 n) 1 else
        u))) ∧
    (∀ (g : GroupId), a.role g = 3 → a.strapBad [5] = false → a.connectedOf g = [] →
      exec (.batLimitUpdate t g) s = .next (a.keep ((a.put (0x6210 + g.val % 4) 1 (g.val / 4) 0).put (0x6210 + g.val % 4) 2
        (g.val / 4) 0))) ∧
    (∀ (g : GroupId), a.role g = 3 → a.strapBad [5] = false → a.connectedOf g ≠ [] →
      ((a.connectedOf g).any fun n => !(a.str n).permitted || decide ((a.str n).hold ≠ 0)) = true →
      ((a.connectedOf g).any fun n => decide (a.cfg 0x7000 0xE n < max (-(a.str n).amp) 0)) = false →
      exec (.batLimitUpdate t g) s = .next (a.keep ((a.put (0x6210 + g.val % 4) 1 (g.val / 4) 0).put (0x6210 + g.val % 4) 2
        (g.val / 4) (min (a.cfg (0x6210 + g.val % 4) 2 (g.val / 4) + a.cfg 0x7130 1 0) (a.cfg 0x7130 3 0))))) ∧
    (∀ (n : StringId), a.estimates n = true → (a.str n).lowDisconnected = false →
      a.since (a.str n).lvdSince (a.nat 0x7010 8 n * msTicks) = true →
      exec (.lowVoltageDisconnect t n) s = .next (a.keep ((a.raise
        { ev 0x6303 n with value := (a.str n).volt, limit := a.cfg 0x7010 7 n * max 1 (bget 0 a.obj ⟨0x2011, 6, 0⟩),
                           stateCode := 1 }).disconnectString n))) ∧
    (∀ (n : StringId) (f : Nat), f = a.nat 0x7000 0xB n → a.estimates n = true → (a.str n).lowDisconnected = true →
      a.since (a.str n).reconnectSince (10 * secTicks) = true → (a.group (a.nat 0x7000 9 n)).relayOpen = true → f < 24 →
      (a.feed f).state = .off →
      exec (.stringReconnect t n) s = .next (a.keep (((a.setStr n
        { a.str n with lowDisconnected := false, reconnectSince := none }).feedInrush f .ramp).raise
        { ev 0x6602 n with value := (a.str n).volt, stateCode := 2 })))

/-- Table commits, holds and capacity tests answer their commands (R226, R237, R238, R239, R240, R389). -/
def Obligations.BatteryCommandsComplete : Prop :=
  ∀ (s a b : State) (t : Tick) (src : NodeId), s.awake → a = s.advance t → b = a.noted src →
    (a.accepts src 2 false →
      exec (.tableCommit t src 1) s = .next (a.keep b.commitTables)) ∧
    (∀ (v : Nat), a.accepts src 2 false → v ≠ 1 →
      exec (.tableCommit t src v) s = .next (a.keep (b.result 0x23))) ∧
    (∀ (n : StringId), a.accepts src 1 false → b.estimates n = true → b.holdRuns (b.nat 0x7000 9 n) = false →
      exec (.restHoldStart t src n) s = .next (a.keep (b.beginHold (b.nat 0x7000 9 n) 3))) ∧
    (∀ (n : StringId), a.accepts src 1 false → b.estimates n = true → b.holdRuns (b.nat 0x7000 9 n) = true →
      exec (.restHoldStart t src n) s = .next (a.keep ((b.put 0x7121 2 n 5).result 0x23))) ∧
    (∀ (n : StringId), a.accepts src 1 false → b.estimates n = true → b.holdRuns (b.nat 0x7000 9 n) = true →
      b.testRuns (b.nat 0x7000 9 n) = false →
      exec (.restHoldAbort t src n) s = .next (a.keep (b.endHold (b.nat 0x7000 9 n) 2))) ∧
    (∀ (n : StringId), a.accepts src 1 false → b.estimates n = true → b.holdRuns (b.nat 0x7000 9 n) = false →
      b.testReady (b.nat 0x7000 9 n) = true →
      exec (.capacityTestStart t src n) s = .next (a.keep (b.beginHold (b.nat 0x7000 9 n) 4))) ∧
    (∀ (n : StringId), a.accepts src 1 false → b.estimates n = true → b.holdRuns (b.nat 0x7000 9 n) = false →
      b.testReady (b.nat 0x7000 9 n) = false →
      exec (.capacityTestStart t src n) s = .next (a.keep ((b.put 0x7121 2 n 6).result 0x23))) ∧
    (∀ (n : StringId), a.accepts src 1 false → b.estimates n = true → b.testRuns (b.nat 0x7000 9 n) = true →
      exec (.capacityTestAbort t src n) s = .next (a.keep (b.endHold (b.nat 0x7000 9 n) 2)))

/-- The mains and frame trackers follow their inputs (R177, R178, R179, R181, R183, R184, R185, R186, R189, R194, R195). -/
def Obligations.TrackersComplete : Prop :=
  ∀ (s a : State) (t : Tick), s.awake → a = s.advance t →
    (∀ (ph : PhaseId) (rising : Bool) (rms : Nat), a.nat (0x2200 + ph) 7 0 < 100 →
      exec (.mainsZeroCrossing t ph rising rms) s = .next (a.keep a)) ∧
    (∀ (ph : PhaseId) (rising : Bool) (rms : Nat), 100 ≤ a.nat (0x2200 + ph) 7 0 →
      exec (.mainsZeroCrossing t ph rising rms) s = .next (a.keep ((a.crossing ph rising (min rms (a.nat (0x2200 + ph) 7
        0))).mainsWaits ph))) ∧
    (∀ (ph : PhaseId) (rms : Nat) (u : State), a.halfOverdue ph = true →
      u = (a.put (0x2200 + ph) 4 0 (min rms (a.nat (0x2200 + ph) 7 0))).invalidHalf ph →
      exec (.halfCycleEnd t ph rms) s = .next (a.keep ((u.setMains ph { u.mainsT ph with opened := none }).mainsWaits ph))) ∧
    (∀ (ph : PhaseId), a.mainsState ph = 3 → (a.mainsT ph).entered + 10 * (a.mainsT ph).period ≤ a.now →
      exec (.mainsLost t ph) s = .next (a.keep ((a.put (0x2200 + ph) 1 0 4).raiseMains 0x4603 ph))) ∧
    (a.frameState = 0 →
      exec (.frameStrobe t) s = .next (a.keep a.acquireFrame)) ∧
    (a.frameState = 1 →
      exec (.frameStrobe t) s = .next (a.keep a.acquireEdge)) ∧
    (a.frameState = 2 ∨ a.frameState = 3 → a.strobeDeviation a.now ≤ nsUnits 2000 →
      exec (.frameStrobe t) s = .next (a.keep a.acceptStrobe)) ∧
    (a.frameState = 2 ∨ a.frameState = 3 → nsUnits 2000 < a.strobeDeviation a.now →
      exec (.frameStrobe t) s = .next (a.keep a.beginStep)) ∧
    (a.frameState = 4 →
      exec (.frameStrobe t) s = .next (a.keep a.stepEdge)) ∧
    (∀ (u : State), a.frameState = 3 → a.frame.expect * a.framePeriod + nsUnits 2000 < (a.now - a.frame.alignAt) * stepUnits →
      u = (a.bump 0x2210 0xB 0).setFrame { a.frame with expect := a.frame.expect + 1, blockStart := none } →
      exec (.strobeMiss t) s = .next (a.keep u)) ∧
    (∀ (u : State), a.frameState = 2 → a.frame.expect * a.framePeriod + nsUnits 2000 < (a.now - a.frame.alignAt) * stepUnits →
      u = (a.bump 0x2210 0xB 0).setFrame { a.frame with expect := a.frame.expect + 1, blockStart := none } →
      u.nat 0x2210 9 0 ≤ u.nat 0x2210 0xB 0 →
      exec (.strobeMiss t) s = .next (a.keep ((u.raise
        { ev 0x4612 0 with value := u.cfg 0x2210 0xB 0, limit := u.cfg 0x2210 9 0, stateCode := 2 }).toFrame 3))) ∧
    (0 < a.nat 0x2210 3 0 → a.guardBeyond = true → a.frame.suspended = false →
      exec (.forecastSuspend t) s = .next (a.keep ((a.setFrame
        { a.frame with suspended := true, interrupted := true }).raiseFrame 0x4613))) ∧
    (∀ (at? : Tick), a.cfg 0x2211 1 0 = 1 → a.frame.ppsAt = some at? →
      exec (.ppsEdge t) s = .next (a.keep (((a.put 0x2211 2 0 (((a.now - at?) * 5 / 128 : Nat) - 1000000000 : Int)).put 0x2211
        4 0 1).setFrame
        { a.frame with ppsAt := some a.now, ppsWaits := true, ppsFrom := some a.now, ppsNoted := false }))) ∧
    (a.cfg 0x2211 1 0 = 1 → a.frame.ppsAt = none →
      exec (.ppsEdge t) s = .next (a.keep ((a.put 0x2211 4 0 1).setFrame
        { a.frame with ppsAt := some a.now, ppsWaits := true, ppsFrom := some a.now, ppsNoted := false }))) ∧
    (a.cfg 0x2211 1 0 = 1 → a.frame.ppsNoted = false → a.since a.frame.ppsFrom (3 * secTicks) = true →
      exec (.ppsAbsent t) s = .next (a.keep (((a.put 0x2211 4 0 0).setFrame { a.frame with ppsNoted := true }).raise (ev
        0x4618 0)))) ∧
    (∀ (u v : State), 2 ≤ a.frameState → a.frame.boundaryCycle < a.frameCycle a.now →
      u = (if a.frame.learnWait = 0 then a.learnFrame else a) → u.frame.discardLeft = none →
      v = u.setFrame { u.frame with boundaryCycle := u.frameCycle u.now, learnWait := u.frame.learnWait - 1, discarded := u.frame.discarded, discardLeft := none } →
      exec (.frameBoundary t) s = .next (a.keep (v.placeForecasts.noteResumed))) ∧
    (∀ (src : NodeId), a.accepts src 2 false →
      exec (.mapClear t src 1) s = .next (a.keep (a.noted src).clearMap)) ∧
    (∀ (src : NodeId) (v : Nat), a.accepts src 2 false → v ≠ 1 →
      exec (.mapClear t src v) s = .next (a.keep ((a.noted src).result 0x23)))

/-- Temperatures are sampled, judged and latched (R249, R250, R252, R254, R258, R259, R260, R261, R323). -/
def Obligations.ThermalCommandsComplete : Prop :=
  ∀ (s a : State) (t : Tick), s.awake → a = s.advance t →
    (∀ (rs : List (TempId × TempReading)) (u v : State), u = rs.foldl (fun s r => s.sampleTemp r.1 r.2) a →
      v = (List.range 48).foldl (fun s i => if (s.sinkOf i).any s.sinkOn then s else s.put 0x2411 1 i (if s.nat 0x2411 3 i = 2 ∨ s.nat 0x2411 3 i = 3 ∨ s.nat 0x2411 3 i = 4 then 0x7FFF else s.cfg 0x2411 2 i)) u →
      exec (.temperatureSample t rs) s = .next (a.keep ((((List.range 12).filter v.sinkOn).foldl State.judgeSink
        v).shareThrottle))) ∧
    (∀ (i : TempId) (h : Nat), a.sinkOf i = some h → a.sinkOn h = true → 3 ≤ (a.validSensors h).length →
      a.nat 0x2411 3 i = 0 → a.since (a.tempIn i).deviates (a.nat (0x2400 + h) 0x15 0 * secTicks) = true →
      exec (.sensorSuspect t i) s = .next (a.keep ((((a.put 0x2411 4 i 1).put 0x2411 3 i 1).setTempIn i
        { ((a.put 0x2411 4 i 1).put 0x2411 3 i 1).tempIn i with deviates := none }).raise
        { ev 0x3101 (((a.put 0x2411 4 i 1).put 0x2411 3 i 1).sinkRegion h) with value := ((a.put 0x2411 4 i 1).put 0x2411 3 i 1).cfg 0x2411 2 i,
                                                                                limit := ((a.put 0x2411 4 i 1).put 0x2411 3 i 1).cfg (0x2400 + h) 0x14 0,
                                                                                second := i, stateCode := 0 }))) ∧
    (∀ (h : SinkId) (nets : List CellId),
      (∀ p ∈ (a.sink h).stops, p.1 ≤ a.now → ∀ c ∈ p.2, (nets.any fun n => decide (n.val = c)) = false ∧ ((a.cell c).state = .idle ∨ (a.cell c).state = .fault)) →
      exec (.stopDeadlineCheck t h nets) s = .next (a.keep (a.setSink h
        { a.sink h with stops := (a.sink h).stops.filter fun p => !decide (p.1 ≤ a.now) }))) ∧
    (∀ (h : SinkId) (nets : List CellId) (by' : Tick) (c : Nat) (u : State), (a.sink h).stops = [(by', [c])] → by' ≤ a.now →
      c < 128 → (a.cell c).state = .run ∨ (a.cell c).state = .stop ∨ (∃ n ∈ nets, n.val = c) →
      u = a.setSink h { a.sink h with stops := [] } →
      exec (.stopDeadlineCheck t h nets) s = .next (a.keep (u.latchBlock (c / 8) 2 (u.cfg (0x2400 + h) 0x18 0) (u.cfg (0x2400 +
        h) 0x11 0)))) ∧
    (∀ (k : BlockId) (v : Nat) (u : State), ((16 * v : Nat) : Int) < a.cfg 0x4030 4 k → (a.driver k).low = 1 →
      u = (a.setDriver k { a.driver k with low := 2 }).put 0x4030 3 k ((16 * v : Nat) : Int) → a.cfg 0x4030 1 k ≠ 1 →
      u.blockAtRest k = false →
      exec (.driverSupplySample t k v) s = .next (a.keep (u.blockTrip
        { ev 0x2602 k with value := ((16 * v : Nat) : Int), limit := u.cfg 0x4030 4 k }))) ∧
    (∀ (k : BlockId) (v : Nat) (u : State), ((16 * v : Nat) : Int) < a.cfg 0x4030 4 k →
      u = (a.setDriver k { a.driver k with low := min 2 ((a.driver k).low + 1) }).put 0x4030 3 k ((16 * v : Nat) : Int) →
      a.cfg 0x4030 1 k ≠ 1 → (a.driver k).low = 0 ∨ u.blockAtRest k = true →
      exec (.driverSupplySample t k v) s = .next (a.keep u)) ∧
    (∀ (k : BlockId) (v : Nat), a.cfg 0x4030 4 k ≤ ((16 * v : Nat) : Int) → a.cfg 0x4030 1 k ≠ 1 →
      exec (.driverSupplySample t k v) s = .next (a.keep ((a.setDriver k { a.driver k with low := 0 }).put 0x4030 3 k ((16 * v
        : Nat) : Int)))) ∧
    (∀ (k : BlockId) (u : State), a.cfg 0x4030 1 k = 1 → a.cfg 0x4030 6 k = 3 →
      a.since (a.driver k).goodSince (10 * msTicks) = true → u = ((a.put 0x4030 1 k 0).put 0x4030 6 k 0).put 0x4030 7 k 0 →
      exec (.thermalLatchClear t k) s = .next (a.keep ((u.setDriver k
        { u.driver k with offSince := none, goodSince := none }).raise (ev 0x2604 k)))) ∧
    (∀ (l : List Int) (hot : Nat) (u v w : State),
      u = (List.range 4).foldl (fun s r => s.sampleDie r (l.getD (2 * r) (s.cfg 0x3010 1 r)) (l.getD (2 * r + 1) (s.cfg 0x3010 2 r))) a →
      u.run.highestDie = none → v = (u.setRun { u.run with highestDie := some u.dieNow }).put 0x2420 2 0 u.dieNow →
      hot = ((List.range 4).find? fun r => decide (v.cfg 0x3010 1 r = u.dieNow ∨ v.cfg 0x3010 2 r = u.dieNow)).getD 0 →
      v.run.dieArmed = true → v.cfg 0x2420 1 0 ≤ u.dieNow →
      w = ((v.setRun { v.run with dieArmed := false }).raise { ev 0x3106 hot with value := u.dieNow, limit := v.cfg 0x2420 1 0 }).countCool →
      (List.range 4).find? (fun r => w.dieTooHot r && !a.dieTooHot r) = none →
      exec (.dieTemperatureSample t l) s = .next (a.keep w)) ∧
    (∀ (l : List Int) (r h : Nat) (u v : State),
      u = (List.range 4).foldl (fun s r => s.sampleDie r (l.getD (2 * r) (s.cfg 0x3010 1 r)) (l.getD (2 * r + 1) (s.cfg 0x3010 2 r))) a →
      u.run.highestDie = some (h : Int) →
      v = ((u.setRun { u.run with highestDie := some (max (h : Int) u.dieNow) }).put 0x2420 2 0 (max (h : Int) u.dieNow)) →
      v.run.dieArmed = false → v.cfg 0x2420 1 0 - 50 < u.dieNow →
      (List.range 4).find? (fun r => v.countCool.dieTooHot r && !a.dieTooHot r) = some r →
      exec (.dieTemperatureSample t l) s = .next (a.keep (v.countCool.chipTrip
        { ev 0x4701 0 with value := max (v.countCool.cfg 0x3010 1 r) (v.countCool.cfg 0x3010 2 r), limit := 1250 }))) ∧
    (∀ (r : RegionId), (a.die r).standing = false → a.since (a.die r).apartSince (10 * secTicks) = true →
      exec (.dieSensorsDisagree t r) s = .next (a.keep ((a.setDie r { a.die r with standing := true }).raise
        { ev 0x3107 r with value := (a.cfg 0x3010 1 r - a.cfg 0x3010 2 r).natAbs, limit := 100 }))) ∧
    (∀ (r : RegionId), (a.die r).standing = true → a.since (a.die r).closeSince (10 * secTicks) = true →
      exec (.dieSensorsDisagree t r) s = .next (a.keep (a.setDie r { a.die r with standing := false })))

/-- Each step of a program executes by its opcode (R269, R271, R272, R274, R275, R276, R280, R282). -/
def Obligations.StepsExecuteByTheirOpcode : Prop :=
  ∀ (s a : State) (t : Tick), s.awake → a = s.advance t →
    (∀ (e : SlotId) (w : Nat) (u : State), a.stepRuns e 0 w u →
      exec (.stepEnd t e) s = .next (a.keep ((u.endTurn e).endProgram e 1))) ∧
    (∀ (e : SlotId) (w : Nat) (u : State), a.stepRuns e 1 w u →
      exec (.stepEnable t e) s = .next (a.keep ((u.stepAction e w).goNext e))) ∧
    (∀ (e : SlotId) (w : Nat) (u : State), a.stepRuns e 2 w u →
      exec (.stepRelease t e) s = .next (a.keep ((u.stepAction e w).goNext e))) ∧
    (∀ (e : SlotId) (n : Nat) (w : Nat) (u : State), a.stepRuns e 3 w u →
      n = argOf w % 0x20000 * waitUnit (argOf w / 0x20000) → n ≠ 0 →
      exec (.stepWait t e) s = .next (a.keep ((u.endTurn e).setProgSlot e
        { (u.endTurn e).progSlot e with waitEnd := some (u.turnAt + n) }))) ∧
    (∀ (e : SlotId) (w : Nat) (u : State), a.stepRuns e 3 w u →
      argOf w % 0x20000 * waitUnit (argOf w / 0x20000) = 0 →
      exec (.stepWait t e) s = .next (a.keep (u.goNext e))) ∧
    (∀ (e : SlotId) (w : Nat) (u : State), a.stepRuns e 4 w u → u.levelReached w = true →
      exec (.stepWaitpg t e) s = .next (a.keep (u.goNext e))) ∧
    (∀ (e : SlotId) (w : Nat) (u : State), a.stepRuns e 4 w u → u.levelReached w = false →
      exec (.stepWaitpg t e) s = .next (a.keep ((u.endTurn e).setProgSlot e
        { (u.endTurn e).progSlot e with
          waitEnd := some (u.turnAt + argOf w / 0x800 % 16 * waitUnit (argOf w / 0x8000 % 8)) }))) ∧
    (∀ (e : SlotId) (w : Nat) (u : State), a.stepRuns e 5 w u →
      u.flagAt (targetOf w) = decide (argOf w / 0x80000 % 2 = 0) →
      exec (.stepCheck t e) s = .next (a.keep (u.jumpTo e (argOf w % 0x800)))) ∧
    (∀ (e : SlotId) (w : Nat) (u : State), a.stepRuns e 5 w u →
      u.flagAt (targetOf w) ≠ decide (argOf w / 0x80000 % 2 = 0) →
      exec (.stepCheck t e) s = .next (a.keep (u.goNext e))) ∧
    (∀ (e : SlotId) (w : Nat) (u : State), a.stepRuns e 6 w u →
      exec (.stepJump t e) s = .next (a.keep (u.jumpTo e (argOf w % 0x800)))) ∧
    (∀ (e : SlotId) (w : Nat) (u : State), a.stepRuns e 7 w u →
      exec (.stepMark t e) s = .next (a.keep ((u.raiseProg 0x3205 ((u.progSlot e).program.getD 0) 0 (argOf w)).goNext e)))

/-- A waiting program goes on when its wait completes (R275, R276). -/
def Obligations.WaitsOfProgramsComplete : Prop :=
  ∀ (s a : State) (t : Tick), s.awake → a = s.advance t →
    (∀ (e : SlotId) (w : Nat) (d : Tick), (a.progSlot e).waitEnd = some d → d ≤ a.now → w = a.stepWord (a.progSlot e).addr →
      opOf w = 3 →
      exec (.waitComplete t e) s = .next (a.keep (a.goNext e))) ∧
    (∀ (e : SlotId) (w : Nat) (d : Tick), (a.progSlot e).waitEnd = some d → w = a.stepWord (a.progSlot e).addr → opOf w = 4 →
      a.levelReached w = true →
      exec (.waitpgLevelReached t e) s = .next (a.keep ((if a.slotPassed e then a.endTurn e else a).goNext e))) ∧
    (∀ (e : SlotId) (w : Nat) (d : Tick), (a.progSlot e).waitEnd = some d → d ≤ a.now → w = a.stepWord (a.progSlot e).addr →
      opOf w = 4 → a.levelReached w = false → argOf w / 0x40000 % 2 = 1 →
      exec (.waitpgTimeout t e) s = .next (a.keep ((a.raiseProg 0x3209 ((a.progSlot e).program.getD 0) 0 0).jumpTo e (argOf w
        % 0x800)))) ∧
    (∀ (e : SlotId) (w : Nat) (d : Tick), (a.progSlot e).waitEnd = some d → d ≤ a.now → w = a.stepWord (a.progSlot e).addr →
      opOf w = 4 → a.levelReached w = false → argOf w / 0x40000 % 2 ≠ 1 →
      exec (.waitpgTimeout t e) s = .next (a.keep ((a.raiseProg 0x3201 ((a.progSlot e).program.getD 0) 0 0).goNext e)))

/-- Sequencer channels, input good, program commands and the supply collapse act by their rules (R262, R266, R267, R269,
R270, R281, R282, R283, R286). -/
def Obligations.ChannelsInputsAndProgramsComplete : Prop :=
  ∀ (s a : State) (t : Tick), s.awake → a = s.advance t →
    (∀ (src : NodeId) (n : SeqId), a.accepts src 1 false → (a.noted src).guards n = [] → ((a.noted src).seq n).held = false →
      exec (.enAssertCommand t src n) s = .next (a.keep ((a.noted src).assertEn n))) ∧
    (∀ (src : NodeId) (n : SeqId), a.accepts src 1 false → (a.noted src).guards n = [] → ((a.noted src).seq n).held = false →
      exec (.enReleaseCommand t src n) s = .next (a.keep ((a.noted src).releaseEn n))) ∧
    (∀ (src : NodeId) (n : SeqId), a.accepts src 1 false → ((a.noted src).seq n).held = true →
      exec (.enAssertCommand t src n) s = .next (a.keep (((a.noted src).raiseRefused 0 n).result 0x23)) ∧
        exec (.enReleaseCommand t src n) s = .next (a.keep (((a.noted src).raiseRefused 0 n).result 0x23))) ∧
    (∀ (src : NodeId) (n : SeqId), a.accepts src 1 false → ((a.noted src).seq n).held = false → (a.noted src).guards n ≠ [] →
      exec (.enAssertCommand t src n) s = .next (a.keep ((a.noted src).result 0x23)) ∧
      exec (.enReleaseCommand t src n) s = .next (a.keep ((a.noted src).result 0x23))) ∧
    (∀ (n : SeqId), a.pgActive n = true → a.pgSteady n = true → (a.seq n).flag = false →
      exec (.pgFlagSet t n) s = .next (a.keep (a.setSeq n
        { a.seq n with flag := true, flagSeen := (a.seq n).flagSeen || (a.seq n).commanded }))) ∧
    (∀ (n : SeqId) (u : State), (a.seq n).pgMode ≠ 0 → a.pgActive n = false → a.pgSteady n = true → (a.seq n).flag = true →
      u = a.setSeq n { a.seq n with flag := false } →
      ((a.seq n).commanded && !(a.seq n).held && (a.seq n).flagSeen && !u.inReleaseSet n) = true →
      exec (.pgFlagClear t n) s = .next (a.keep (u.raise { ev 0x3204 0 with second := n, stateCode := 1 }))) ∧
    (∀ (n : SeqId) (u : State), (a.seq n).pgMode ≠ 0 → a.pgActive n = false → a.pgSteady n = true → (a.seq n).flag = true →
      u = a.setSeq n { a.seq n with flag := false } →
      ((a.seq n).commanded && !(a.seq n).held && (a.seq n).flagSeen && !u.inReleaseSet n) = false →
      exec (.pgFlagClear t n) s = .next (a.keep u)) ∧
    (∀ (u v : State), u = a.trackInputs → u.cfg 0x2510 6 0 = 0 →
      u.since u.mainsPart (u.nat 0x2510 5 0 * msTicks) = true ∨ u.since u.feedPart (u.nat 0x2510 5 0 * msTicks) = true →
      v = u.put 0x2510 6 0 1 →
      exec (.inputGoodSet t) s = .next (a.keep ((v.triggered 2).foldl (fun s p => if v.lossRuns = true ∧ s.progRuns p = false
        ∧ s.deferred.contains p = false then { s with deferred := s.deferred ++ [p] } else s.startProgram p) v))) ∧
    (∀ (u v w : State), u = a.trackInputs → u.cfg 0x2510 6 0 = 1 → u.since u.noPart (u.nat 0x2510 4 0 * msTicks) = true →
      v = u.put 0x2510 6 0 0 →
      w = (List.range 16).foldl (fun s e => if (s.progSlot e).program.any (s.hasTrigger · 2) then s.endProgram e 5 else s) v →
      exec (.inputGoodClear t) s = .next (a.keep ((w.triggered 1).foldl State.startProgram w))) ∧
    (∀ (src : NodeId) (p : ProgId) (u : State), a.accepts src 1 false → u = (a.noted src).startProgram p →
      exec (.programStartCommand t src p) s = .next (a.keep (u.result (if u.nat 0x2620 6 p = 0 then 0 else 0x23)))) ∧
    (∀ (src : NodeId) (p : ProgId), a.accepts src 1 false →
      exec (.programAbort t src p) s = .next (a.keep ((a.noted src).abortProgram p))) ∧
    (∀ (v : Nat), v < 11000 →
      exec (.supplyCollapse t v) s = .next (a.keep (a.collapse v)))

/-- Telemetry windows close when due, and held values are read and cleared by their commands (R291, R292, R296). -/
def Obligations.TelemetryCommandsComplete : Prop :=
  ∀ (s a : State) (t : Tick), s.awake → a = s.advance t →
    (∀ (w : WindowId), a.windowDue w = true → w.val ≠ 3 →
      exec (.telemetryWindowEnd t w) s = .next (a.keep (a.closeWindows w))) ∧
    (∀ (w : WindowId) (u : State), a.windowDue w = true → w.val = 3 →
      u = (if a.windowDue 2 = true then a.closeWindows 2 else a) →
      exec (.telemetryWindowEnd t w) s = .next (a.keep ((((List.range 64).filterMap u.trendEvent).foldl State.note
        u).closeWindows 3).clearMinutes)) ∧
    (∀ (src : NodeId) (kind : TeleKind) (q w : Fin 4) (inst : Nat) (maximum : Bool) (u : State) (x : Window),
      inst < teleCount (teleKind kind) → u = a.setAuth src { a.authRec src with lastRequest := a.now } →
      x = u.window (teleKind kind) inst (4 * q.val + w.val) →
      exec (.heldReadAndClear t src kind q w inst maximum) s = .next (a.keep
        (({ u with lastRead := x.heldBefore u.now maximum }.clearHeld (teleKind kind) inst (4 * q.val +
        w.val)).result 0))) ∧
    (∀ (src : NodeId) (kind : TeleKind) (q w : Fin 4) (inst : Nat), a.accepts src 1 false → inst < teleCount (teleKind kind) →
      exec (.heldClear t src kind q w inst 1) s = .next (a.keep ((a.noted src).clearHeld (teleKind kind) inst (4 * q.val +
        w.val)))) ∧
    (∀ (src : NodeId) (kind : TeleKind) (q w : Fin 4) (inst v : Nat), a.accepts src 1 false →
      inst < teleCount (teleKind kind) → v ≠ 1 →
      exec (.heldClear t src kind q w inst v) s = .next (a.keep ((a.noted src).result 0x23))) ∧
    (∀ (src : NodeId) (kind : TeleKind) (q w : Fin 4) (inst v : Nat), a.accepts src 1 false →
      teleCount (teleKind kind) ≤ inst →
      exec (.heldClear t src kind q w inst v) s = .next (a.keep ((a.noted src).result 0x12))) ∧
    (∀ (src : NodeId), a.accepts src 1 false →
      exec (.clearAllHeld t src 1) s = .next (a.keep
        { a.noted src with tele := teleElements.map fun k => (k, (List.range 16).map fun n => ((a.noted src).window k.1 k.2 n).clear (a.noted src).now) })) ∧
    (∀ (src : NodeId) (v : Nat), a.accepts src 1 false → v ≠ 1 →
      exec (.clearAllHeld t src v) s = .next (a.keep ((a.noted src).result 0x23)))

/-- Captures arm, trigger, disarm, record and flush by their state (R298, R299, R300, R303). -/
def Obligations.CaptureCommandsComplete : Prop :=
  ∀ (s a : State) (t : Tick), s.awake → a = s.advance t →
    (∀ (src : NodeId) (x : TrigId), a.accepts src 1 false → ((a.noted src).capture x).state = .idle →
      exec (.captureArm t src x) s = .next (a.keep ((a.noted src).armCapture x))) ∧
    (∀ (src : NodeId) (x : TrigId), a.accepts src 1 false → ((a.noted src).capture x).state = .armed →
      exec (.captureArm t src x) s = .next (a.keep (a.noted src))) ∧
    (∀ (src : NodeId) (x : TrigId), a.accepts src 1 false → ((a.noted src).capture x).state = .triggered →
      (a.noted src).journal.store ≠ 1 →
      exec (.captureArm t src x) s = .next (a.keep ((a.noted src).armCapture x))) ∧
    (∀ (src : NodeId) (x : TrigId), a.accepts src 1 false → ((a.noted src).capture x).state = .triggered →
      (a.noted src).journal.store = 1 →
      exec (.captureArm t src x) s = .next (a.keep ((a.noted src).result 0x23))) ∧
    (∀ (src : NodeId) (x : TrigId), a.accepts src 1 false → ((a.noted src).capture x).state = .flushing →
      exec (.captureArm t src x) s = .next (a.keep ((a.noted src).result 0x23))) ∧
    (∀ (src : NodeId) (x : TrigId), a.accepts src 1 false →
      exec (.captureTrigger t src x) s = .next (a.keep ((a.noted src).fireCapture x 3 0 (a.noted src).now))) ∧
    (∀ (src : NodeId) (x : TrigId), a.accepts src 1 false → ((a.noted src).capture x).state = .armed →
      exec (.captureDisarm t src x) s = .next (a.keep ((a.noted src).setCapture x
        { (a.noted src).capture x with state := .idle }))) ∧
    (∀ (src : NodeId) (x : TrigId), a.accepts src 1 false → ((a.noted src).capture x).state ≠ .armed →
      exec (.captureDisarm t src x) s = .next (a.keep ((a.noted src).result 0x23))) ∧
    (∀ (x : TrigId) (c : Capture), c = a.capture x → c.state = .triggered → 12000 ≤ c.after.length → a.journal.store = 1 →
      exec (.captureRecordingEnd t x) s = .next (a.keep ((a.setCapture x
        { c with state := .flushing, header := none, part := 0 }).note
        { ev 0x4811 0 with area := [((x.val + 256 * c.cause : Nat) : Int), c.eventSeq, (min 4000 c.before.length : Nat)] ++ stampWords c.trigStamp ++ [4855] }))) ∧
    (∀ (x : TrigId), (a.capture x).state = .flushing → (a.capture x).header.isSome = true → (a.partsLeft x).isEmpty = true →
      a.cfg (0x8040 + x) 5 0 = 1 →
      exec (.captureFlushComplete t x) s = .next (a.keep (a.armCapture x))) ∧
    (∀ (x : TrigId), (a.capture x).state = .flushing → (a.capture x).header.isSome = true → (a.partsLeft x).isEmpty = true →
      a.cfg (0x8040 + x) 5 0 ≠ 1 →
      exec (.captureFlushComplete t x) s = .next (a.keep (a.setCapture x { a.capture x with state := .idle })))

/-- Journal pages are programmed, blocks erased and sequences searched by their rules (R301, R302, R304). -/
def Obligations.JournalCommandsComplete : Prop :=
  ∀ (s a : State) (t : Tick), s.awake → a = s.advance t →
    (∀ (l : List (Nat × SlotRec)) (x : Option Nat) (j : Journal) (first : Nat), j = a.journal →
      j.store = 1 ∧ j.page.isNone = true ∧ j.erasing.isNone = true → a.duePage = some (l, x) →
      first = (l.headD (0, .filler)).1 → ¬ (first % 2048 = 0 ∧ j.ready ≠ some (first / 2048)) →
      exec (.journalPageWrite t) s = .next (a.keep (a.setJournal
        { j with page := some l, partOf := x, next := if j.next / 32 = first / 32 then j.after (first + 31) else j.next }))) ∧
    (∀ (l : List (Nat × SlotRec)) (x : Option Nat) (j : Journal) (first : Nat), j = a.journal →
      j.store = 1 ∧ j.page.isNone = true ∧ j.erasing.isNone = true → a.duePage = some (l, x) →
      first = (l.headD (0, .filler)).1 → first % 2048 = 0 ∧ j.ready ≠ some (first / 2048) →
      exec (.journalPageWrite t) s = .next (a.keep (a.setJournal { j with erasing := some (j.ahead first) }))) ∧
    (∀ (l : List (Nat × SlotRec)) (j : Journal) (first : Nat), j = a.journal → j.page = some l → j.partOf = none →
      first = (l.headD (0, .filler)).1 →
      exec (.journalPageWritten t true) s = .next (a.keep (a.setJournal
        { j with page := none, partOf := none, slots := l.foldl (fun b p => bset b p.1 p.2) j.slots,
                 queue := j.queue.filter fun q => !(l.any fun p => decide (p.1 = q.slot) && decide (p.2 = .record q.item)),
                 write := j.after (first + 31),
                 wraps := if j.after (first + 31) < first then j.wraps + 1 else j.wraps }).noteDiscarded)) ∧
    (∀ (l : List (Nat × SlotRec)) (first : Nat) (u : State), a.journal.page = some l → first = (l.headD (0, .filler)).1 →
      u = (a.setJournal { a.journal with page := none, partOf := none }).retireBlock (first / 2048) →
      exec (.journalPageWritten t false) s = .next (a.keep (u.setJournal (u.journal.reassign first).setWrite))) ∧
    (∀ (blk head : Nat), a.journal.erasing = some blk →
      head = (match a.journal.queue with | q :: _ => q.slot | [] => a.journal.next) →
      exec (.journalBlockErased t true) s = .next (a.keep (a.setJournal
        { a.journal with erasing := none, ready := some (head / 2048),
                         slots := a.journal.slots.filter fun p => decide (p.1 / 2048 ≠ blk),
                         oldest := if a.journal.oldest / 2048 = blk then usableFrom a.journal.retired 400 ((blk + 1) * 2048 % slotCount) else a.journal.oldest }))) ∧
    (∀ (blk head : Nat) (u : State), a.journal.erasing = some blk →
      head = (match a.journal.queue with | q :: _ => q.slot | [] => a.journal.next) →
      u = (a.setJournal { a.journal with erasing := none }).retireBlock blk → u.journal.store = 1 →
      exec (.journalBlockErased t false) s = .next (a.keep (u.setJournal
        { u.journal with erasing := some (u.journal.ahead head) }))) ∧
    (∀ (src : NodeId) (n : Nat), a.accepts src 1 false → n < 0x100000000 →
      exec (.sequenceSearch t src n) s = .next (a.keep ((((a.noted src).put 0x8011 1 0 n).put 0x8011 2 0
        0xFFFFFFFE).setJournal { (a.noted src).journal with search := some (n, (a.noted src).now) }))) ∧
    (∀ (src : NodeId) (n : Nat), a.accepts src 1 false → 0x100000000 ≤ n →
      exec (.sequenceSearch t src n) s = .next (a.keep ((a.noted src).result 0x13))) ∧
    (∀ (n : Nat) (at? : Tick), a.journal.search = some (n, at?) →
      exec (.sequenceSearchComplete t) s = .next (a.keep ((a.put 0x8011 2 0 ((a.findSlot n).getD 0xFFFFFFFF)).setJournal
        { a.journal with search := none })))

/-- The supervision of the chip acts on its inputs (R315, R322, R323, R326, R327, R446). -/
def Obligations.ChipSupervisionComplete : Prop :=
  ∀ (s a : State) (t : Tick), s.awake → a = s.advance t →
    (∀ (p : Fin 2) (u v : State), u = a.raise (ev 0x4705 0) →
      v = (u.setRun { u.run with watchdogAt := some u.now }).setStorage { u.storage with watchdogSeen := true } →
      (∀ at? : Tick, u.run.watchdogAt = some at? → at? + 10 * secTicks ≤ u.now) →
      exec (.processorWatchdog t p) s = .next (a.keep v)) ∧
    (∀ (p : Fin 2) (at? : Tick) (u v : State), u = a.raise (ev 0x4705 0) →
      v = (u.setRun { u.run with watchdogAt := some u.now }).setStorage { u.storage with watchdogSeen := true } →
      u.run.watchdogAt = some at? → u.now < at? + 10 * secTicks →
      exec (.processorWatchdog t p) s = .next (a.keep (v.chipTrip (ev 0x4706 0)))) ∧
    (exec (.referenceLost t) s = .next (a.keep (a.enterReset 3 0x4702))) ∧
    (∀ (p : Pll),
      exec (.pllUnlock t p) s = .next (a.keep (a.enterReset 3 0x4703))) ∧
    (∀ (b : BlockId), a.blockAtRest b = false →
      exec (.driverFault t b) s = .next (a.keep (a.blockTrip (ev 0x2603 b)))) ∧
    (∀ (b : BlockId), a.blockAtRest b = true → (a.driver b).reported = true →
      exec (.driverFault t b) s = .next (a.keep a)) ∧
    (∀ (b : BlockId), a.blockAtRest b = true → (a.driver b).reported = false →
      exec (.driverFault t b) s = .next (a.keep ((a.setDriver b { a.driver b with reported := true }).raise (ev 0x2606 b)))) ∧
    (∀ (b : BlockId),
      exec (.crossingTimeout t (some b)) s = .next (a.keep (a.blockTrip { ev 0x2107 b with value := 8, limit := 8 }))) ∧
    (exec (.crossingTimeout t none) s = .next (a.keep (a.raise { ev 0x4704 0 with value := 8, limit := 8 }))) ∧
    (a.run.testWait = true → a.now ≤ a.run.releasedAt + msTicks →
      exec (.testKey t true) s = .next (a.keep (((a.setRun { a.run with testWait := false }).put 0x8007 1 0 1).raise (ev
        0x4708 0)))) ∧
    (a.run.testWait = true → a.run.releasedAt + msTicks ≤ a.now →
      exec (.testKeyTimeout t) s = .next (a.keep ((a.setRun { a.run with testWait := false }).raise (ev 0x4707
        0)).negotiate)) ∧
    (∀ (src : NodeId) (v : Nat), a.accepts src 3 true → (a.noted src).cfg 0x8007 1 0 ≠ 1 →
      exec (.injectExecute t src v) s = .next (a.keep (((a.noted src).put 0xF060 5 0 1).result 0x23))) ∧
    (∀ (src : NodeId) (u : State) (code : Nat), a.accepts src 3 true → u.cfg 0x8007 1 0 = 1 → u = a.noted src →
      code = u.nat 0xF060 1 0 → ¬ (pipOf code = 0 ∨ code = 0x4801 ∨ code = 0x4810 ∨ code = 0x4811) →
      u.nat 0xF060 2 0 < instanceLimit code →
      exec (.injectExecute t src 1) s = .next (a.keep ((u.put 0xF060 5 0 0).setRun
        { u.run with injected := u.run.injected ++ u.injection }))) ∧
    (a.restartDue = true ∧ a.cfg 0x2700 1 0 = 1 ∧ a.recentRestarts.length < a.nat 0x2700 3 0 →
      exec (.autoRestart t) s = .next (a.keep ((a.setAlways
        { a.always with restarts := a.now :: a.recentRestarts }).enterReset 7 a.run.stopCode)))

/-- Store, restore, compaction, repair and scrub act by their rules (R402, R407, R408, R409, R410, R411, R412, R419, R420,
R421). -/
def Obligations.StorageCommandsComplete : Prop :=
  ∀ (s a : State) (t : Tick), s.awake → a = s.advance t →
    (∀ (src : NodeId), a.accepts src 2 false → (a.noted src).storing = false →
      exec (.store t src 0x53544F52) s = .next (a.keep ((a.noted src).startStore.result 0))) ∧
    (∀ (src : NodeId) (key : Nat), a.accepts src 2 false → key ≠ 0x53544F52 ∨ (a.noted src).storing = true →
      exec (.store t src key) s = .next (a.keep ((a.noted src).result 0x23))) ∧
    (∀ (rewritten : Bool) (x y : Storage) (u : State), x = a.storage.writeParts → x.phase = 1 ∧ x.parts ≠ 0 →
      x.appendChecked (.commit x.firstPart x.parts x.captured false) rewritten = some y →
      u = (if rewritten = true then a.raise (ev 0x9104 0) else a).setStorage { y with phase := 3 } →
      u.chipTakes 10 = true →
      exec (.storeComplete ⟨t, rewritten⟩) s = .next (a.keep (u.placed.endStore 0))) ∧
    (∀ (src : NodeId) (b : Nat) (u : State) (y : Storage), a.accepts src 2 false → (a.noted src).storage.phase = 1 →
      (a.noted src).draw 1 = (b, u) →
      y = (if b = 1 ∧ u.storage.parts ≠ 0 then (u.storage.append (.commit u.storage.firstPart u.storage.parts u.storage.captured true)).getD u.storage else u.storage) →
      exec (.storeAbort t src 1) s = .next (a.keep (((u.setStorage y).endStore 3).result 0))) ∧
    (∀ (src : NodeId) (u : State), a.accepts src 2 false → u = a.noted src → u.storage.phase = 3 →
      exec (.storeAbort t src 1) s = .next (a.keep (((u.setStorage u.storage.voidNewest).endStore 3).result 0))) ∧
    (∀ (src : NodeId), a.accepts src 2 false → (a.noted src).storage.phase = 0 → (a.noted src).storage.storeDone = true →
      exec (.storeAbort t src 1) s = .next (a.keep ((a.noted src).result 2))) ∧
    (∀ (x : Storage), x = a.storage.writeParts → a.storage.phase = 1 → x.parts = 0 →
      exec (.storeFailed t) s = .next (a.keep ((a.raise (ev 0x9203 0)).endStore 2))) ∧
    (∀ (x : Storage), x = a.storage.writeParts → a.storage.phase = 1 → x.parts ≠ 0 →
      exec (.storeFailed t) s = .next (a.keep ((((((a.setStorage x.retireHead).raise (ev 0x9104 0)).setStorage
        x.retireHead.retireHead).raise (ev 0x9104 0)).raise (ev 0x9203 0)).endStore 2))) ∧
    (∀ (src : NodeId) (reads : List (Nat × Bool)), a.accepts src 2 false → (a.noted src).storing = false →
      (∃ g ∈ List.range 64, ((a.noted src).group g).state ≠ .stopped) →
      exec (.restoreStored t src ⟨0x4C4F4144, reads⟩) s = .next (a.keep (((a.noted src).put 0xF011 3 0 1).result 0x23))) ∧
    (∀ (src : NodeId) (reads : List (Nat × Bool)) (v u : State) (kept : Nat), a.accepts src 2 false →
      (a.noted src).storing = false → (∀ g ∈ List.range 64, ((a.noted src).group g).state = .stopped) →
      v = (a.noted src).readFlash reads →
      v.applySet ((v.storage.inForce.map fun y => y.set).getD { factory := true }) = (u, kept) →
      exec (.restoreStored t src ⟨0x4C4F4144, reads⟩) s = .next (a.keep (((u.put 0xF011 3 0 (if kept = 0 then 0 else 2)).put 0xF011 4 0
        (min kept 65535 : Nat)).result 0))) ∧
    (∀ (src : NodeId) (u : State), a.accepts src 2 false → (a.noted src).storing = false →
      u = (a.noted src).appendRecord (.commit (a.noted src).storage.nextSeq 0 { factory := true } false) →
      exec (.restoreFactory t src 0x46414354) s = .next (a.keep (((u.put 0xF011 3 0 0).put 0xF011 4 0 0).result 0))) ∧
    (∀ (reads : List (Nat × Bool)) (x : Storage) (v : State), a.storage.compactionDue = true → v = a.readFlash reads →
      v.storage.compact = some x →
      exec (.compactionStep ⟨t, reads⟩) s = .next (a.keep ((v.setStorage x.writeParts).bump 0x9020 3 0))) ∧
    (∀ (line : Nat) (r : MemRequest) (source : LineRead) (u : State), line < 196608 → a.holdOf line = none → r ≠ .writeLine →
      a.repairLine line source = (u, true) →
      exec (.sramRepair t line ⟨r, source⟩) s = .next (a.keep (u.holdLine line true))) ∧
    (∀ (line : Nat) (r : MemRequest) (source : LineRead) (u : State), line < 196608 → a.holdOf line = none → r ≠ .writeLine →
      a.repairLine line source = (u, false) →
      exec (.sramRepair t line ⟨r, source⟩) s = .next (a.keep ((u.holdLine line false).readerFault line))) ∧
    (∀ (line : Nat) (source : LineRead), line < 196608 → a.holdOf line = none →
      exec (.sramRepair t line ⟨.writeLine, source⟩) s = .next (a.keep (a.setStorage
        { a.storage with badLines := a.storage.badLines.filter fun n => decide (n ≠ line) }))) ∧
    (∀ (line : Nat) (r : MemRequest) (source : LineRead) (h : LineHold), line < 196608 → a.holdOf line = some h →
      exec (.sramRepair t line ⟨r, source⟩) s = .next (a.keep (a.joinHold line h r))) ∧
    (∀ (failed : Bool) (source : LineRead) (u v : State) (ok : Bool),
      u = a.setStorage { a.storage with scrub := (a.storage.scrub + 1) % 196608 } → u.holdOf a.storage.scrub = none →
      (failed || u.storage.badLines.contains a.storage.scrub) = true → u.repairLine a.storage.scrub source = (v, ok) →
      exec (.scrubRead t failed source) s = .next (a.keep (v.holdLine a.storage.scrub ok))) ∧
    (∀ (failed : Bool) (source : LineRead) (u : State),
      u = a.setStorage { a.storage with scrub := (a.storage.scrub + 1) % 196608 } → u.holdOf a.storage.scrub = none →
      (failed || u.storage.badLines.contains a.storage.scrub) = false →
      exec (.scrubRead t failed source) s = .next (a.keep u)) ∧
    (∀ (failed : Bool) (source : LineRead) (u : State) (h : LineHold),
      u = a.setStorage { a.storage with scrub := (a.storage.scrub + 1) % 196608 } → u.holdOf a.storage.scrub = some h →
      exec (.scrubRead t failed source) s = .next (a.keep (u.setHold a.storage.scrub
        { h with waiting := h.waiting ++ [.read] })))

/-- Installs, trials and confirmations act by their rules (R402, R425, R427, R428, R433, R434, R438). -/
def Obligations.FirmwareCommandsComplete : Prop :=
  ∀ (s a : State) (t : Tick), s.awake → a = s.advance t →
    (∀ (src : NodeId) (n len : Nat) (header : List Nat), a.accepts src 2 false →
      exec (.imageTransfer t src n len header) s = .next (a.keep ((a.noted src).beginInstall src n len header))) ∧
    (∀ (l : List (Nat × Bool)) (r u v : State), a.imageComplete = true → a.storage.installWritten = false → r = a.readFlash l →
      r.installCrcGood l = true → u = r.setSlotState r.storage.idle 2 r.storage.installImage →
      v = u.setStorage { u.storage with installWritten := true } → v.chipTakes 10 = true → v.storage.install = true →
      exec (.installComplete t l true) s = .next (a.keep ((v.placed.closeInstall 2).respond v.storage.installSrc
        v.storage.installSeq (oneResult 0)))) ∧
    (∀ (l : List (Nat × Bool)) (good : Bool) (r : State), a.imageComplete = true → a.storage.installWritten = false →
      r = a.readFlash l → r.installCrcGood l = false →
      exec (.installComplete t l good) s = .next (a.keep (((r.endInstall 9 5).raise
        { ev 0x9301 0 with value := 9 }).respond r.storage.installSrc r.storage.installSeq (oneResult 0x23)))) ∧
    (∀ (l : List (Nat × Bool)) (r : State), a.imageComplete = true → a.storage.installWritten = false → r = a.readFlash l →
      r.installCrcGood l = true →
      exec (.installComplete t l false) s = .next (a.keep (((r.endInstall 12 5).raise
        { ev 0x9301 0 with value := 12 }).respond r.storage.installSrc r.storage.installSeq (oneResult 0x23)))) ∧
    (∀ (src : NodeId) (u : State), a.accepts src 2 false → u = a.noted src → u.storage.install = true →
      exec (.installAbort t src 1) s = .next (a.keep (((u.sendAbort u.storage.installSrc u.storage.installSeq
        0x50).abortInstall).result 0))) ∧
    (∀ (src : NodeId), a.accepts src 2 false → (a.noted src).storage.install = false →
      (a.noted src).storage.installDone = true →
      exec (.installAbort t src 1) s = .next (a.keep ((a.noted src).result 2))) ∧
    (a.storage.install = true → a.storage.installWritten = false →
      exec (.installFlashWriteFailed t) s = .next (a.keep (((a.sendAbort a.storage.installSrc a.storage.installSeq
        0x50).endInstall 11 5).raise (ev 0x9104 0)))) ∧
    (∀ (u : State), u = a.writeMigrated →
      exec (.selfCheckEvaluation t) s = .next (a.keep (u.put 0x9011 3 0 (((List.range 8).filter u.selfCheck).foldl (fun n b =>
        n + 2 ^ b) 0 : Nat)))) ∧
    (∀ (src : NodeId), a.accepts src 2 false → (a.noted src).confirmable = true →
      exec (.confirm t src 0x434F4E46) s = .next (a.keep ((a.noted src).confirm.result 0))) ∧
    (∀ (src : NodeId) (b : Nat) (u : State), a.accepts src 2 false → (a.noted src).confirmable = false →
      (a.noted src).twinState = .active → (a.noted src).draw 1 = (b, u) →
      exec (.confirm t src 0x434F4E46) s = .next (a.keep (u.result (if b = 1 then 0 else 0x23)))) ∧
    (∀ (u v : State), a.storage.runningState = 3 ∧ a.since a.storage.trialAt (900 * secTicks) = true →
      u = a.setSlotState a.storage.running 5 (a.storage.slot a.storage.running).2 →
      v = (u.setStorage { u.storage with trialAt := none }).setAlways { u.always with trialExpired := true } →
      ¬ (v.twinState = .active ∧ v.partnerInStep = true) →
      exec (.trialExpiry t) s = .next (a.keep (v.enterReset 10 0x9302))) ∧
    (∀ (u v w : State), a.storage.runningState = 3 ∧ a.since a.storage.trialAt (900 * secTicks) = true →
      u = a.setSlotState a.storage.running 5 (a.storage.slot a.storage.running).2 →
      v = (u.setStorage { u.storage with trialAt := none }).setAlways { u.always with trialExpired := true } →
      v.twinState = .active ∧ v.partnerInStep = true → w = v.setTwin { v.twin with resetAfter := some (10, 0x9302) } →
      w.twin.handover.isSome = false →
      exec (.trialExpiry t) s = .next (a.keep (w.propose 2)))

/-- The chips of a twin elect, join and leave by their rules (R331, R332, R333, R335, R456). -/
def Obligations.PairingCommandsComplete : Prop :=
  ∀ (s a : State) (t : Tick), s.awake → a = s.advance t →
    (∀ (high : Tick), a.run.started ∧ a.twinState = .negotiating → high + 10 * msTicks ≤ a.now →
      a.run.strapAt + 10 * msTicks ≤ a.now →
      exec (.twinPresenceTimeout ⟨t, high⟩) s = .next (a.keep ({ a with twinState := .alone }.setTwin
        { a.twin with presence := false }).raiseToken)) ∧
    (∀ (token : Bool) (u : State), u = a.seePins true token → u.twinState = .negotiating →
      exec (.twinPresenceFall ⟨t, token⟩) s = .next (a.keep ((u.setTwin { u.twin with waitFrom := u.now }).negotiate))) ∧
    (∀ (token : Bool) (u : State), u = a.seePins true token → u.twinState ≠ .negotiating →
      exec (.twinPresenceFall ⟨t, token⟩) s = .next (a.keep u)) ∧
    (∀ (u : State), u = a.setTwin { a.twin with tokenIn := true } →
      exec (.tokenStateRise t) s = .next (a.keep u.negotiate)) ∧
    (∀ (w : Tick) (u : State), a.electionWait = some w → u = a.seePins true false →
      a.run.started ∧ a.twinState = .negotiating ∧ a.twin.waitFrom + w ≤ a.now →
      exec (.electionWaitEnd ⟨t, true, false⟩) s = .next (a.keep { u with twinState := .activeUnpaired }.raiseToken)) ∧
    (∀ (u : State), a.twin.tokenOut ∧ ¬ a.twin.tokenChecked ∧ a.since a.twin.raisedAt (2 * usTicks) →
      u = a.setTwin { a.twin with tokenChecked := true, tokenIn := true } →
      exec (.tokenCollisionCheck t true) s = .next (a.keep (u.exclude false))) ∧
    (a.twin.tokenOut ∧ ¬ a.twin.tokenChecked ∧ a.since a.twin.raisedAt (2 * usTicks) →
      exec (.tokenCollisionCheck t false) s = .next (a.keep (a.setTwin
        { a.twin with tokenChecked := true, tokenIn := false }))) ∧
    (∀ (l : List Sample) (u v : State),
      a.twin.tokenOut ∧ a.twin.tokenChecked ∧ a.isActive ∧ a.since a.twin.raisedAt (100 * usTicks) →
      u = (a.applySamples l).setDriving true a.now →
      v = (((List.range 24).foldl State.adoptFeed (u.setTwin { u.twin with raisedAt := none })).startSelector.bridgesLow.setTokens true) →
      exec (.driveRightTaken t l) s = .next (a.keep (if v.run.ringReady ∧ ¬ v.run.programsRun then v.powerUpPrograms else v))) ∧
    (∀ (node pref level : Nat) (note : State), a.twinState = .syncing ∧ ¬ a.twin.joined →
      note = (((((a.put 0x1200 3 0 2).put 0x1200 4 0 0xFF).put 0x1200 7 0 level).put 0x1200 8 0 node).putPartner 3) →
      exec (.twinIdentityExchange t true node pref level) s = .next (a.keep (if level = a.nat 0x1200 6 0 ∧ node ≠ a.nat 0x2011
        1 0 then note.setTwin { a.twin with joined := true } else note.exclude true))) ∧
    (∀ (node pref level : Nat), a.twinState = .syncing ∧ ¬ a.twin.joined → a.since a.twin.tryAt secTicks = true →
      exec (.twinIdentityExchange t false node pref level) s = .next (a.keep ((a.put 0x1200 3 0 0).exclude true))) ∧
    (∀ (node pref level : Nat), a.isActive = true → a.testing = false → a.cfg 0x1200 3 0 ≠ 2 →
      exec (.twinIdentityExchange t false node pref level) s = .next (a.keep { a with twinState := .activeUnpaired })) ∧
    (∀ (node pref level : Nat), a.isActive = true → a.testing = false →
      exec (.twinIdentityExchange t true node pref level) s = .next (a.keep
        { (((((a.put 0x1200 3 0 2).put 0x1200 4 0 0xFF).put 0x1200 7 0 level).put 0x1200 8 0 node).putPartner (if level = a.nat 0x1200 6 0 ∧ node ≠ a.nat 0x2011 1 0 then 4 else 8)) with twinState := .activeUnpaired })) ∧
    (a.twinState = .excluded → a.since a.twin.tryAt (60 * secTicks) = true →
      exec (.twinJoinRetry ⟨t, true, true⟩) s = .next (a.keep (a.seePins true true).trainLink)) ∧
    (∀ (u v : State), a.cfg 0x1200 3 0 = 2 → a.isActive = true → u = ((a.put 0x1200 3 0 0).put 0x1200 4 0 0).putPartner 0xFF →
      v = { u.raise (ev 0x8101 0) with twinState := .activeUnpaired }.refuseHandover →
      exec (.twinLinkDown t) s = .next (a.keep (v.setTwin { v.twin with handover := none, deferred := none }))) ∧
    (a.cfg 0x1200 3 0 ≠ 0 → ¬ (a.cfg 0x1200 3 0 = 2 ∧ a.isActive = true) →
      exec (.twinLinkDown t) s = .next (a.keep (((a.put 0x1200 3 0 0).put 0x1200 4 0 0).putPartner 0xFF))) ∧
    (exec (.twinLinkUp t) s = .next (a.keep ((a.put 0x1200 3 0 2).put 0x1200 4 0 0xFF)))

/-- A pair in operation exchanges samples, turn CRCs, heartbeats and events by the rules (R336, R338, R339, R340, R351). -/
def Obligations.TwinRunningCommandsComplete : Prop :=
  ∀ (s a : State) (t : Tick), s.awake → a = s.advance t →
    (∀ (x y : Sample) (u : State) (n : Nat) (outside : Bool), a.standby ∧ a.twinState ≠ .detached ∧ a.cfg 0x1200 3 0 = 2 →
      u = a.applySample x → u.compareSamples x y = some (n, outside) →
      exec (.twinSampleReceive t x y) s = .next (a.keep (u.judgeInput n outside))) ∧
    (∀ (x y : Sample) (u : State), a.standby ∧ a.twinState ≠ .detached ∧ a.cfg 0x1200 3 0 = 2 → u = a.applySample x →
      u.compareSamples x y = none →
      exec (.twinSampleReceive t x y) s = .next (a.keep u)) ∧
    (a.twin.insideSince + 10 * secTicks ≤ a.now → a.twinState = .suspect →
      exec (.plausibilityRestored t) s = .next (a.keep { a with twinState := .inStep })) ∧
    (a.twin.insideSince + 10 * secTicks ≤ a.now → a.twinState = .active ∧ a.cfg 0x1200 2 0 = 6 →
      exec (.plausibilityRestored t) s = .next (a.keep (a.putPartner 5))) ∧
    (∀ (crc : Nat), a.standby ∧ a.twin.joined → crc = a.twin.crc →
      exec (.turnCrcCompare t crc) s = .next (a.keep (a.setTwin { a.twin with agreed := a.twin.agreed + 1 }))) ∧
    (∀ (crc : Nat) (u : State), a.standby ∧ a.twin.joined → crc ≠ a.twin.crc → u = a.setTwin { a.twin with agreed := 0 } →
      exec (.turnCrcCompare t crc) s = .next (a.keep (if u.twinState = .inStep ∨ u.twinState = .suspect then u.standbyDiverges
        (u.now / usTicks - 1) else u))) ∧
    (∀ (n : Nat), a.standby = true →
      exec (.heartbeat t n) s = .next (a.keep (a.setTwin
        { a.twin with heartbeatAt := a.now, heartbeatTurn := n, silentAt := none, idleSince := none }))) ∧
    (∀ (r : List Nat) (code turn : Nat) (u : State), a.cfg 0x1200 3 0 = 2 ∧ r.length = 64 →
      code = leValue ((r.drop 2).take 2) → turn = (((leValue ((r.drop 16).take 8) / 65536 : Nat) : Int) - a.freeBase).toNat →
      u = (a.setTwin { a.twin with mirror := bset a.twin.mirror a.twin.mirrorNext r, mirrorNext := (a.twin.mirrorNext + 1) % 1024, partnerFaults := if weighed code then (turn :: a.twin.partnerFaults).take 32 else a.twin.partnerFaults }).put 0x8121 1 0 a.twin.mirrorNext →
      code ≠ 0x8104 → u.isActive = true → code = 0x8205 →
      exec (.partnerEventReceive t r) s = .next (a.keep ({ u with twinState := .active }.putPartner 5))) ∧
    (∀ (r : List Nat) (code turn : Nat) (u v : State), a.cfg 0x1200 3 0 = 2 ∧ r.length = 64 →
      code = leValue ((r.drop 2).take 2) → turn = (((leValue ((r.drop 16).take 8) / 65536 : Nat) : Int) - a.freeBase).toNat →
      u = (a.setTwin { a.twin with mirror := bset a.twin.mirror a.twin.mirrorNext r, mirrorNext := (a.twin.mirrorNext + 1) % 1024, partnerFaults := if weighed code then (turn :: a.twin.partnerFaults).take 32 else a.twin.partnerFaults }).put 0x8121 1 0 a.twin.mirrorNext →
      u.twinState = .active ∧ code = 0x8104 → v = (u.setTwin { u.twin with insideSince := u.now }).putPartner 6 →
      v.twin.handover = none →
      exec (.partnerEventReceive t r) s = .next (a.keep v)) ∧
    (∀ (ft : Nat) (l : List Entry) (x : Lockstep) (u : State), a.twinState = .syncing ∧ a.twin.joined ∧ 1000 ≤ a.twin.agreed →
      u = { (a.loadContents l).loadLockstep x with freeBase := (ft : Int) - (a.now / usTicks : Nat), twinState := .inStep } →
      exec (.synchronisationComplete t ft ⟨l, x⟩) s = .next (a.keep ((u.setTwin
        { u.twin with insideSince := u.now, outOfWindow := [] }).raise (ev 0x8205 0))))

/-- Handovers are proposed, taken cell by cell, completed and timed out by the rules (R215, R342, R343, R344, R354). -/
def Obligations.HandoverCommandsComplete : Prop :=
  ∀ (s a : State) (t : Tick), s.awake → a = s.advance t →
    (∀ (boundary : Tick) (cause : Nat), a.twinState = .inStep → a.twin.handover = none →
      exec (.handoverProposal t boundary cause) s = .next (a.keep (a.setTwin
        { a.twin with handover := some { boundary := boundary, cause := cause, giving := false, hard := false, begun := false, moved := [], drill := decide (cause = 3) } }))) ∧
    (∀ (h : Handover) (u v w : State), a.twin.handover = some h → ¬ h.hard ∧ ¬ h.begun ∧ h.boundary ≤ a.now →
      u = a.raise (ev 0x8201 0) → v = (if h.drill then u.raise (ev 0x8203 0) else u) →
      w = (if h.giving then v.setDriving false v.now else v.setDriving true (h.boundary + usTicks)) →
      exec (.handoverBoundary t) s = .next (a.keep (w.moveCells { h with begun := true, movedAt := h.boundary } ((List.range
        128).filter w.movesAtOnce) h.boundary false))) ∧
    (∀ (c : CellId) (h : Handover) (low : Bool), a.twin.handover = some h → h.begun ∧ ¬ h.hard ∧ ¬ h.moved.contains c.val →
      low = (!(a.cell c).levelA && !(a.cell c).levelB) → low = true ∨ h.boundary + (a.cell c).period ≤ a.now →
      exec (.cellHandoverInstant t c) s = .next (a.keep (a.moveCells h [c.val] a.now !low))) ∧
    (∀ (h : Handover) (u v : State), a.twin.handover = some h → h.begun ∧ ¬ h.hard ∧ 128 ≤ h.moved.length →
      u = (a.countHandover h.cause (h.movedAt - h.boundary)).setTwin { a.twin with handover := none, tokenOut := !h.giving, tokenIn := h.giving, tokenChecked := true, raisedAt := none, yieldCode := 0, insideSince := a.now, heartbeatAt := a.now, outOfWindow := [] } →
      v = (if h.drill then (u.put 0x1230 7 0 0).scheduleDrill u.freeTime else u) → h.giving = false →
      exec (.handoverComplete t) s = .next (a.keep ({ v with twinState := .active }.putPartner 5))) ∧
    (∀ (h : Handover) (u v w : State), a.twin.handover = some h → h.begun ∧ ¬ h.hard ∧ 128 ≤ h.moved.length →
      u = (a.countHandover h.cause (h.movedAt - h.boundary)).setTwin { a.twin with handover := none, tokenOut := !h.giving, tokenIn := h.giving, tokenChecked := true, raisedAt := none, yieldCode := 0, insideSince := a.now, heartbeatAt := a.now, outOfWindow := [] } →
      w = (if h.drill then (u.put 0x1230 7 0 0).scheduleDrill u.freeTime else u) →
      v = { w with twinState := .inStep }.putPartner 2 → h.giving = true → v.twin.resetAfter = none →
      exec (.handoverComplete t) s = .next (a.keep v)) ∧
    (∀ (h : Handover), a.twin.handover = some h → h.hard ∧ h.boundary ≤ a.now →
      exec (.hardHandover t) s = .next (a.keep (a.doHard h))) ∧
    (∀ (at? : Tick) (n : Nat), a.twin.deferred = some (at?, n) → at? + 50 * msTicks ≤ a.now →
      exec (.handoverDeferralTimeout t) s = .next (a.keep a.endDeferral)) ∧
    (∀ (h : Handover) (code : Nat) (u : State), a.twin.handover = some h → a.twin.resetAfter = some (8, code) →
      h.giving ∧ ¬ h.hard ∧ h.boundary + 100 * usTicks ≤ a.now →
      u = (((List.range 128).filter a.token).foldl State.stopCellNow a).bridgesLow →
      exec (.yieldHandoverTimeout t) s = .next (a.keep ((u.setTwin
        { u.twin with handover := none, resetAfter := none }).setRun
        { u.run with stopCode := if u.run.stopAt.isSome then u.run.stopCode else code,
                     stopAt := if u.run.stopAt.isSome then u.run.stopAt else some u.now })))

/-- Twin commands, failures and drills act by their rules (R345, R346, R347, R348, R352, R353, R355, R356, R357). -/
def Obligations.TwinCommandsAndFailuresComplete : Prop :=
  ∀ (s a : State) (t : Tick), s.awake → a = s.advance t →
    (∀ (src : NodeId), a.accepts src 2 true →
      exec (.twinSwap t src) s = .next (a.keep ((a.noted src).swap 1 true))) ∧
    (∀ (src : NodeId), a.accepts src 2 true →
      exec (.twinForcedSwap t src) s = .next (a.keep ((a.noted src).swap 2 false))) ∧
    (∀ (src : NodeId) (u : State), a.accepts src 2 true → (a.noted src).isActive = true → (a.noted src).cfg 0x1200 3 0 = 2 →
      u = (a.noted src).twinResult 0 →
      exec (.twinHoldPartner t src) s = .next (a.keep (u.setTwin
        { u.twin with resetHeld := true, resetLow := if u.twin.resetLow.isSome then u.twin.resetLow else some u.now,
                      presence := false, tokenIn := false }))) ∧
    (∀ (src : NodeId), a.accepts src 2 true → (a.noted src).isActive = false →
      exec (.twinHoldPartner t src) s = .next (a.keep ((a.noted src).twinResult 4))) ∧
    (∀ (src : NodeId), a.accepts src 2 true → (a.noted src).twin.resetHeld = true →
      exec (.twinReleasePartner t src) s = .next (a.keep (((a.noted src).twinResult 0).setTwin
        { ((a.noted src).twinResult 0).twin with resetHeld := false, resetLow := none }))) ∧
    (∀ (src : NodeId), a.accepts src 2 true → (a.noted src).twin.resetHeld = false →
      exec (.twinReleasePartner t src) s = .next (a.keep ((a.noted src).twinResult 5))) ∧
    (∀ (src : NodeId), a.accepts src 2 true → ¬ ((a.noted src).swapRefusal = 0 ∧ (a.noted src).cfg 0x1230 5 0 = 1) →
      exec (.twinDrillNow t src) s = .next (a.keep ((a.noted src).swap 3 true))) ∧
    (∀ (src : NodeId), a.accepts src 2 true → (a.noted src).swapRefusal = 0 ∧ (a.noted src).cfg 0x1230 5 0 = 1 →
      exec (.twinDrillNow t src) s = .next (a.keep ((a.noted src).twinResult 0))) ∧
    (a.isActive = true →
      exec (.heartbeatHang t) s = .next (a.keep (a.enterReset 5 0x8102))) ∧
    (∀ (net ns : Nat) (ok : Bool),
      (a.twinState = .inStep ∨ a.twinState = .suspect) ∧ a.cfg 0x1200 3 0 = 2 ∧ a.now < a.twin.heartbeatAt + 2 * usTicks ∧ 750 ≤ ns ∧ ok →
      exec (.loudFailure t net ns ok) s = .next (a.keep (((a.raise { ev 0x8105 0 with second := net }).bump 0x1200 0xD
        0).takeover 6))) ∧
    (∀ (idle : Bool), a.heartbeatLost = true →
      exec (.heartbeatSilent t idle) s = .next (a.keep (a.judgeNets idle))) ∧
    (∀ (u : State), a.heartbeatLost ∧ a.since a.twin.silentAt (8 * usTicks) → u = a.judgeNets false → u.standby = true →
      u.twinState ≠ .detached →
      exec (.linkLossJudgement t false) s = .next (a.keep ({ u.raise (ev 0x8101 0) with twinState := .detached }.setTwin
        { (u.raise (ev 0x8101 0)).twin with handover := none }))) ∧
    (∀ (u : State), a.heartbeatLost ∧ a.since a.twin.silentAt (8 * usTicks) → u = a.judgeNets true →
      exec (.linkLossJudgement t true) s = .next (a.keep u)) ∧
    (∀ (u v : State), a.heartbeatLost ∧ a.twinState ≠ .inStep ∧ a.since a.twin.idleSince (10 * msTicks) →
      u = { (a.raise (ev 0x8202 0)).assertReset with twinState := .activeUnpaired }.raiseToken →
      v = u.setTwin { u.twin with handover := none, silentAt := none, idleSince := none } →
      exec (.coldTakeover t) s = .next (a.keep (((v.bump 0x1200 0xC 0).put 0x1200 0xE 0 8).setRun
        { ((v.bump 0x1200 0xC 0).put 0x1200 0xE 0 8).run with programsRun := false }))) ∧
    (¬ a.twin.resetHeld ∧ a.since a.twin.resetLow (a.nat 0x1210 1 0 * msTicks) →
      exec (.partnerResetPulseEnd t) s = .next (a.keep (a.setTwin { a.twin with resetLow := none }))) ∧
    (
      a.twinState = .active ∧ a.cfg 0x1230 1 0 = 1 ∧ a.cfg 0x1230 5 0 = 0 ∧ a.twin.drillSince.isNone ∧ a.cfg 0x1230 6 0 ≤ a.freeTime →
      exec (.drillDue t) s = .next (a.keep (a.setTwin { a.twin with drillSince := some a.now }))) ∧
    (a.since a.twin.drillSince (600 * secTicks) = true →
      exec (.drillSkip t) s = .next (a.keep (((a.put 0x1230 7 0 1).scheduleDrill (a.cfg 0x1230 6 0)).raise
        { ev 0x8203 0 with value := 1 })))

/-- Supplies, reset pins and the start act by their rules (R123, R173, R175, R331, R449, R450, R451, R452, R453). -/
def Obligations.StartAndPinsComplete : Prop :=
  ∀ (s a : State) (t : Tick), s.awake → a = s.advance t →
    (∀ (u : State), u = a.loseAlwaysOn →
      exec (.powerOn t) s = .next (a.keep ({ u with freeBase := -((u.now / usTicks : Nat) : Int) }.setRun
        { resetAt := u.now, supplyGood := some u.now }))) ∧
    (∀ (x : Supply) (mv : Nat),
      exec (.supplyOutOfRange t x mv) s = .next (a.keep (a.supplyLevel x mv))) ∧
    (∀ (ns : Nat) (still : Bool), 220 ≤ ns →
      exec (.rstNLow t ⟨ns, still⟩) s = .next (a.keep ((a.enterReset 6 0).setRun
        { (a.enterReset 6 0).run with rstLow := still }))) ∧
    (∀ (ns : Nat) (still : Bool), ns < 180 →
      exec (.rstNLow t ⟨ns, still⟩) s = .next (a.keep a)) ∧
    (∀ (ns : Nat) (still : Bool) (u : State), 20 ≤ ns → u = a.enterReset 4 0 →
      exec (.partnerResetIn t ⟨ns, still⟩) s = .next (a.keep ((u.setAlways { u.always with partnerReset := true }).setRun
        { u.run with partnerLow := still }))) ∧
    (∀ (ns : Nat) (still : Bool), ns < 20 →
      exec (.partnerResetIn t ⟨ns, still⟩) s = .next (a.keep a)) ∧
    (∀ (x : StartInputs),
      exec (.chipStart t x) s = .next (a.keep (a.start x))) ∧
    (∀ (u : State), a.run.started ∧ ¬ a.run.ringReady →
      u = { a.setRun { a.run with ringReady := true, joined := a.nodeValid } with ring := { a.ring with cycleAt := some a.now, cycleLength := a.nat 0x1101 1 0 } } →
      exec (.ringPhyReady t) s = .next (a.keep (if u.run.driving ∧ u.isActive ∧ ¬ u.run.programsRun then u.powerUpPrograms
        else u))) ∧
    (∀ (l : List Sample) (u v : State), a.turnDone ≠ some (a.now / usTicks) →
      u = (({ a with turnDone := some (a.now / usTicks) }.turnTwinCrc).applySamples l).turnCaptures l →
      v = { u with progSlots := u.progSlots.map fun (p : Nat × SlotT) => (p.1, { p.2 with steps := 0 }) }.turnChannels.turnInjections.turnMoves.applyImages →
      exec (.turnStart t l) s = .next (a.keep ((List.range 4).foldl State.turnPool (v.liveGroups.foldl State.turnGroup
        v)).turnMap.trackInputs.turnWatch.turnTelemetry.turnTwin)) ∧
    (∀ (l : List Sample), a.turnDone = some (a.now / usTicks) →
      exec (.turnStart t l) s = .next (a.keep a))

/-- Log-ins, writes, requests and forwarded writes are taken by the rules (R176, R337, R377, R380, R381, R382, R383, R384,
R386, R387). -/
def Obligations.AuthorityAndRequestsComplete : Prop :=
  ∀ (s a : State) (t : Tick), s.awake → a = s.advance t →
    (∀ (src : NodeId) (key : List Nat), a.accepts src 0 false →
      exec (.integratorLogin t src key) s = .next (a.keep ((a.noted src).login (src % 256) key))) ∧
    (∀ (src : NodeId) (key : List Nat), a.accepts src 2 false → key.length = 8 →
      exec (.integratorKeySet t src key) s = .next (a.keep (((a.noted src).setAccess
        { (a.noted src).access with key := some key }).result 0))) ∧
    (∀ (src : NodeId) (key : List Nat), a.accepts src 2 false → key.length ≠ 8 →
      exec (.integratorKeySet t src key) s = .next (a.keep ((a.noted src).result 0x13))) ∧
    (∀ (src node : NodeId) (m : Nat) (ok : Bool), a.accepts src 0 false →
      exec (.vendorToken t src m node ok) s = .next (a.keep ((a.noted src).takeToken (src % 256) m node ok))) ∧
    (∀ (src : NodeId), a.accepts src 0 false →
      exec (.dropAuthority t src 1) s = .next (a.keep ((a.noted src).dropRaised (src % 256)))) ∧
    (∀ (src : NodeId), (a.authRec src).raised.isSome = true →
      (a.authRec src).lastRequest + a.nat 0x1101 4 0 * secTicks ≤ a.now ∨ ((a.authRec src).raised = some 3 ∧ (a.authRec src).expiry ≤ a.freeTime / 60000000) →
      exec (.authorityIdleTimeout t src) s = .next (a.keep (a.dropRaised src))) ∧
    (∀ (src : NodeId) (i sub inst : Nat) (v : Int) (len : Nat), a.reaches src →
      exec (.registerWrite t src i sub inst v len) s = .next (a.keep ((a.admitted src).writeObj src ⟨i, sub, inst⟩ v [] len))) ∧
    (∀ (due : List Staged) (u : State), a.access.commitTurn ≠ some (a.now / usTicks) → a.turnDone = some (a.now / usTicks) →
      due = (a.access.staged.takeWhile fun x => decide (x.due ≤ a.now)).take 4 → due.isEmpty = false →
      u = a.setAccess { a.access with staged := a.access.staged.drop due.length, commitTurn := some (a.now / usTicks) } →
      exec (.transactionCommit t) s = .next (a.keep (due.foldl (fun s x => s.place 12 (.request x) fun s => s.commitStaged x)
        u))) ∧
    (∀ (n : NodeId) (q fl : Nat) (mask : List NodeId) (ok : Bool) (l : List Entry), a.sawCopy n q = true →
      exec (.requestFrame t n q fl mask ok l) s = .next (a.keep a)) ∧
    (∀ (n : NodeId) (q fl : Nat) (mask : List NodeId) (ok : Bool) (l : List Entry), n.val = 0 ∨ a.ringCode ≠ 0 →
      a.sawCopy n q = false →
      fl.testBit 1 = false ∨ (mask.any fun m => decide (m.val = a.nat 0x2011 1 0)) = true →
      exec (.requestFrame t n q fl mask ok l) s = .next (a.keep ((a.noteCopy n q).takeRequest n q fl ok l))) ∧
    (∀ (n : NodeId) (q fl : Nat) (mask : List NodeId) (ok : Bool) (l : List Entry), fl.testBit 1 = true →
      (mask.any fun m => decide (m.val = a.nat 0x2011 1 0)) = false →
      exec (.requestFrame t n q fl mask ok l) s = .next (a.keep a)) ∧
    (∀ (src : NodeId) (l : List Entry) (tr : Bool), a.standby = true → a.chipTakes 12 = true →
      exec (.forwardedWriteApply t src l tr) s = .next (a.keep (a.placed.commitEntries (innerSource 3 src) tr l).1))

/-- Segmented transfers and fan-outs go on, end and time out by the rules (R379, R387, R388, R389). -/
def Obligations.TransfersAndFanOutsComplete : Prop :=
  ∀ (s a : State) (t : Tick), s.awake → a = s.advance t →
    (∀ (n : NodeId) (q o : Nat) (l : List Nat) (x : Transfer), a.transfer n q = some x →
      x.write ∧ o = x.next ∧ x.next + l.length ≤ x.length ∧ l ≠ [] ∧ l.length ≤ 1016 →
      exec (.segmentFrame t n q o l) s = .next (a.keep (a.imageOctets x l))) ∧
    (∀ (n : NodeId) (q o : Nat) (l : List Nat) (x : Transfer), a.transfer n q = some x →
      ¬ (x.write ∧ o = x.next ∧ x.next + l.length ≤ x.length ∧ l ≠ [] ∧ l.length ≤ 1016) →
      exec (.segmentFrame t n q o l) s = .next (a.keep ((a.failTransfer x).sendAbort n q 0x51))) ∧
    (∀ (n : NodeId) (q o : Nat) (l : List Nat), a.transfer n q = none →
      exec (.segmentFrame t n q o l) s = .next (a.keep (a.sendAbort n q 0x51))) ∧
    (∀ (n : NodeId) (q m : Nat) (x : Transfer), a.transfer n q = some x → ¬ (x.write ∨ m < x.next ∨ x.sent < m) →
      m = x.length →
      exec (.segmentAcknowledgement t n q m) s = .next (a.keep ((a.dropTransfer n q).respond n q (oneResult 0)))) ∧
    (∀ (n : NodeId) (q m : Nat) (x : Transfer), a.transfer n q = some x → ¬ (x.write ∨ m < x.next ∨ x.sent < m) →
      m ≠ x.length → m ≠ x.next →
      exec (.segmentAcknowledgement t n q m) s = .next (a.keep (a.putTransfer (a.sendSegments
        { x with next := m, sent := min x.length (m + 8128), resends := 0, lastAt := a.now } x.sent (min x.length (m +
        8128)))))) ∧
    (∀ (n : NodeId) (q c : Nat) (x : Transfer), a.transfer n q = some x → ¬ (x.write ∧ x.next = x.length) →
      exec (.transferAbort t n q c) s = .next (a.keep (a.failTransfer x))) ∧
    (∀ (n : NodeId) (q c : Nat) (x : Transfer), a.transfer n q = some x → x.write ∧ x.next = x.length →
      exec (.transferAbort t n q c) s = .next (a.keep a)) ∧
    (∀ (n : NodeId) (q : Nat) (x : Transfer), a.transfer n q = some x → ¬ x.write ∧ x.lastAt + 20 * msTicks ≤ a.now →
      x.resends < 3 →
      exec (.segmentResendTimeout t n q) s = .next (a.keep (a.putTransfer (a.sendSegments
        { x with resends := x.resends + 1, lastAt := a.now } x.next x.sent)))) ∧
    (∀ (n : NodeId) (q : Nat) (x : Transfer), a.transfer n q = some x → ¬ x.write ∧ x.lastAt + 20 * msTicks ≤ a.now →
      3 ≤ x.resends →
      exec (.segmentResendTimeout t n q) s = .next (a.keep ((a.dropTransfer n q).sendAbort n q 0x50))) ∧
    (∀ (src : NodeId), a.accepts src 1 false → (a.noted src).access.fanOut.isSome = false →
      exec (.fanOutExecute t src 1) s = .next (a.keep (((a.noted src).startFanOut src).result 0))) ∧
    (∀ (src : NodeId) (v : Nat), a.accepts src 1 false → v ≠ 1 ∨ (a.noted src).access.fanOut.isSome = true →
      exec (.fanOutExecute t src v) s = .next (a.keep ((a.noted src).result 0x23))) ∧
    (∀ (n : NodeId) (q r : Nat) (f : FanOut), a.access.fanOut = some f →
      f.sequence = q ∧ f.waiting.any (fun p => decide (p.1 = n.val)) →
      exec (.responseFrame t n q r) s = .next (a.keep (a.fanResult n r))) ∧
    (∀ (n : NodeId) (f : FanOut) (m sends : Nat) (last : Tick), a.access.fanOut = some f →
      (f.waiting.find? fun p => decide (p.1 = n.val)) = some (m, sends, last) → last + a.nat 0x1101 3 0 * msTicks ≤ a.now →
      3 ≤ sends →
      exec (.fanOutTimeout t n) s = .next (a.keep (a.fanResult n 0x60))) ∧
    (∀ (n : NodeId) (f : FanOut) (m sends : Nat) (last : Tick), a.access.fanOut = some f →
      (f.waiting.find? fun p => decide (p.1 = n.val)) = some (m, sends, last) → last + a.nat 0x1101 3 0 * msTicks ≤ a.now →
      sends < 3 →
      exec (.fanOutTimeout t n) s = .next (a.keep (a.setAccess
        { a.access with fanOut := some { f with waiting := f.waiting.map fun p => if p.1 = n.val then (p.1, sends + 1, a.now) else p } })))

/-- The ring port follows its links, cycle starts, images and checks by the rules (R364, R365, R366, R367, R369, R370,
R372). -/
def Obligations.RingCommandsComplete : Prop :=
  ∀ (s a : State) (t : Tick), s.awake → a = s.advance t →
    (∀ (p : Port) (u : State), u = a.setLink p false → u.run.joined = true → u.portUp (portOther p) = true →
      exec (.portLinkDown t p) s = .next (a.keep (u.wrapAt p))) ∧
    (∀ (p : Port) (u : State), u = a.setLink p false → u.run.joined = true → u.portUp (portOther p) = false →
      u.ring.bothDown = none →
      exec (.portLinkDown t p) s = .next (a.keep (u.setRing
        { u.ring with wrapped := none, goodSince := none, checkBack := false, bothDown := some u.now }))) ∧
    (∀ (p : Port) (u : State),
      u = (a.setLink p true).setRing { (a.setLink p true).ring with bothDown := none, isolated := false } →
      u.run.joined = true → u.ring.wrapped = some p → u.ring.goodSince = none →
      exec (.ringPortLinkUp t p) s = .next (a.keep (u.setRing { u.ring with goodSince := some u.now }))) ∧
    (∀ (p : Port) (u : State),
      u = (a.setLink p true).setRing { (a.setLink p true).ring with bothDown := none, isolated := false } →
      u.run.joined = true → u.ring.wrapped ≠ some p → u.portUp (portOther p) = false →
      exec (.ringPortLinkUp t p) s = .next (a.keep (u.wrapAt (portOther p)))) ∧
    (a.ring.wrapped.isSome ∧ a.ring.checkBack ∧ a.since a.ring.goodSince secTicks →
      exec (.ringUnwrap t) s = .next (a.keep ((a.setRing
        { a.ring with wrapped := none, goodSince := none, checkBack := false }).raise (ev 0x7102 0)))) ∧
    (∀ (u : State), a.run.joined ∧ ¬ a.ring.isolated ∧ a.since a.ring.bothDown (3 * a.ring.cycleLength * usTicks) →
      u = (a.setRing { a.ring with isolated := true }).raise (ev 0x7103 0) →
      exec (.nodeIsolated t) s = .next (a.keep (u.imageSources.foldl State.fallBack u))) ∧
    (∀ (n : NodeId) (c len : Nat) (turned : Bool) (u v : State), a.ringCode ≠ 0 →
      u = a.setRing { a.ring with wrappedElsewhere := turned } → ¬ (u.ring.master ∧ a.nat 0x2011 1 0 ≤ n.val) →
      v = (if n.val = a.nat 0x2011 1 0 then u.markDuplicate else u) →
      exec (.cycleStartFrame t n c len turned) s = .next (a.keep ((v.setRing { v.ring with master := false }).onCycle (c %
        0x100000000) len n))) ∧
    (∀ (n : NodeId) (c len : Nat) (turned : Bool) (u : State), a.ringCode ≠ 0 →
      u = a.setRing { a.ring with wrappedElsewhere := turned } → u.ring.master ∧ a.nat 0x2011 1 0 ≤ n.val →
      exec (.cycleStartFrame t n c len turned) s = .next (a.keep u)) ∧
    (a.ringCode ≠ 0 ∧ a.ring.master ∧ a.since a.ring.cycleAt (a.ring.cycleLength * usTicks) → a.cfg 0x1101 2 0 = 1 →
      exec (.cycleStartSend t) s = .next (a.keep a.sendCycle)) ∧
    (a.ringCode ≠ 0 ∧ a.ring.master ∧ a.since a.ring.cycleAt (a.ring.cycleLength * usTicks) → a.cfg 0x1101 2 0 ≠ 1 →
      exec (.cycleStartSend t) s = .next (a.keep (a.setRing { a.ring with master := false }))) ∧
    (
      a.ringCode ≠ 0 ∧ a.cfg 0x1101 2 0 = 1 ∧ ¬ a.ring.master ∧ a.since a.ring.cycleAt ((3 * a.ring.cycleLength + 10 * a.nat 0x2011 1 0) * usTicks) →
      exec (.masterTakeover t) s = .next (a.keep (a.setRing { a.ring with master := true }).sendCycle)) ∧
    (∀ (n : NodeId) (l : List Nat), a.ringCode ≠ 0 → a.imageSources.contains n.val = true →
      exec (.cyclicImageFrame t n l) s = .next (a.keep (a.setRing
        { a.ring with images := bset a.ring.images n.val { seen := true, waiting := some l } }))) ∧
    (∀ (n : NodeId) (x : ImageSrc), x = bget {} a.ring.images n.val →
      3 ≤ x.missed ∧ ¬ x.raised ∧ a.imageSources.contains n.val →
      exec (.imageTimeout t n) s = .next (a.keep (((a.setRing
        { a.ring with images := bset a.ring.images n.val { x with raised := true } }).raise
        { ev 0x7301 0 with value := x.missed, limit := 3 }).fallBack n))) ∧
    (∀ (n : NodeId) (c : Nat), a.ringCode ≠ 0 → n.val = a.nat 0x2011 1 0 ∧ ¬ a.ring.master →
      exec (.ringCheckFrame t n c) s = .next (a.keep a.markDuplicate)) ∧
    (∀ (n : NodeId) (c : Nat), a.ringCode ≠ 0 → ¬ (n.val = a.nat 0x2011 1 0 ∧ ¬ a.ring.master) →
      a.ring.wrapped.isSome = true →
      exec (.ringCheckFrame t n c) s = .next (a.keep (a.setRing { a.ring with checkBack := true }))) ∧
    (∀ (u : State),
      u = (a.bump 0x1100 (portFails .east) 0).setRing { (a.bump 0x1100 (portFails .east) 0).ring with eastFails := a.now :: (a.ring.eastFails.filter fun b => decide (a.now < b + secTicks)).take 31 } →
      exec (.crcFailedFrame t .east) s = .next (a.keep (if 10 < u.ring.eastFails.length then u.raiseLimited 0
        { ev 0x7201 0 with value := u.ring.eastFails.length, limit := 10 } else u))) ∧
    (∀ (u : State),
      u = (a.bump 0x1100 (portFails .west) 0).setRing { (a.bump 0x1100 (portFails .west) 0).ring with westFails := a.now :: (a.ring.westFails.filter fun b => decide (a.now < b + secTicks)).take 31 } →
      exec (.crcFailedFrame t .west) s = .next (a.keep (if 10 < u.ring.westFails.length then u.raiseLimited 1
        { ev 0x7201 0 with value := u.ring.westFails.length, limit := 10 } else u)))

/-- A step executes the command at the front of the queue, and idles on an empty one (R51, 00_scope.md). The queue is the
model's (log entry 2); each command comes with its time (R51). -/
def Obligations.StepTakesTheFront : Prop :=
  (∀ (s : State) (c : Instr) (rest : List Instr), step { s with pending := c :: rest } = exec c { s with pending := rest }) ∧
  ∀ s : State, s.pending = [] → step s = .next s

/-- Every command answers a next state at its time, with the queue as it was, but a repair of a line that the SRAM does not
have (R416). -/
def Obligations.EveryCommandAnswersNext : Prop :=
  ∀ (s : State) (c : Instr),
    (∀ t line call, c = .sramRepair t line call → 196608 ≤ line → exec c s = .fault .noSuchSramLine) ∧
    ((∀ t line call, c = .sramRepair t line call → line < 196608) →
      ∃ u, exec c s = .next u ∧ u.pending = s.pending ∧ u.now = max s.now c.time)

/-- Every step keeps the queue in order (R51). -/
def Obligations.QueueOrderIsKept : Prop :=
  ∀ s u : State, s.queueOrdered → step s = .next u → u.queueOrdered ∧ s.now ≤ u.now

/-- In reset every output is off, up to the start (R318, R449, R456). -/
def Obligations.ResetHoldsTheOutputs : Prop :=
  ∀ s u : State, s.inReset = true → (∀ t inputs rest, s.pending ≠ .chipStart t inputs :: rest) → step s = .next u →
    u.inReset = true ∧ u.outputsOff

/-- In reset, and in recovery mode, a command of a running chip only passes the time (R432, R449). -/
def Obligations.ResetTakesOnlyTime : Prop :=
  ∀ (s : State) (c : Instr), s.inReset = true → c.actsInReset = false → c.sideband = false →
    (∀ t line call, c = .sramRepair t line call → line < 196608) → exec c s = .next (s.advance c.time)

/-- A dictionary command is refused on a standby and for want of authority (R337, R378, R380, R383), waits at the dictionary
server's input where the chip arbiter does not accept it in its SYS cycle (R37, R45, R474; log entry 6), and is not heard from
the ring of a chip without a valid node ID (R123). `Instr.dictionary` names the commands with their source, authority and
reach. -/
def Obligations.DictionaryIsJudged : Prop :=
  ∀ (s a : State) (c : Instr) (src : NodeId) (need : Nat) (own : Bool), s.awake → a = s.advance c.time →
    c.dictionary = some (src, need, own) →
    (a.hears src = false → exec c s = .next a) ∧
    (∀ u : State, a.hears src = true → a.chipTakes 12 = false → u = a.received src →
      exec c s = .next (a.keep (u.setInput (.chip 12)
        { u.input (.chip 12) with items := (u.input (.chip 12)).items ++ [⟨u.now - 3 * cycleTicks, .command (.write c)⟩] }))) ∧
    (a.reaches src → s.standby = true → own = false → exec c s = .next (a.keep ((a.admitted src).result 0x31))) ∧
    (a.reaches src → (s.standby = false ∨ own = true) → s.authorityOf src < need →
      exec c s = .next (a.keep (((a.admitted src).raiseLimited src (ev 0x7302 0)).result 0x30)))

/-- The frame, time and load map trackers touch their own objects alone (R181, R184, R189). The frame of `Instr.tracks`
(R181, R184, R189). -/
def Obligations.TrackersTouchTheirObjects : Prop :=
  ∀ (s u : State) (c : Instr), c.tracks = true → exec c s = .next u →
    u = { s with now := u.now, obj := u.obj, limited := u.limited, frame := u.frame, loadMap := u.loadMap,
                 faults := u.faults, inputs := u.inputs, twin := { s.twin with ownFaults := u.twin.ownFaults } } ∧
      s.objectsKept u [0x2210, 0x2211, 0x2230, 0x2300, 0x8006]

/-- A program step that commands nothing else touches its program alone (R271, R274, R275). The frame of `Instr.runsStep`
(R271, R274, R275). -/
def Obligations.StepsTouchTheirProgram : Prop :=
  ∀ (s u : State) (c : Instr), c.runsStep = true → exec c s = .next u →
    u = { s with now := u.now, obj := u.obj, progSlots := u.progSlots, deferred := u.deferred, stepAt := u.stepAt,
                 faults := u.faults, inputs := u.inputs, twin := { s.twin with ownFaults := u.twin.ownFaults } } ∧
      s.objectsKept u [0x2620, 0x8006]

/-- A command of a feed channel touches that channel alone, and the string whose disconnect it opens (R203, R208, R212, R236,
R240). The frame of `Instr.ownFeed` (R203, R208). -/
def Obligations.ChannelsTouchThemselves : Prop :=
  ∀ (s u : State) (c : Instr) (f : FeedId), c.ownFeed = some f → exec c s = .next u →
    u = { s with now := u.now, obj := u.obj, limited := u.limited, feeds := u.feeds, feedMarks := u.feedMarks,
                 lastResult := u.lastResult, freeCount := u.freeCount, strings := u.strings, storage := u.storage,
                 faults := u.faults, inputs := u.inputs, twin := { s.twin with ownFaults := u.twin.ownFaults } } ∧
      s.objectsKept u [0x6820, 0x6830, 0x7121, 0x8006] ∧
      ∀ e : Nat, e ≠ f.val → u.feed e = s.feed e

/-- The input selector touches the feed channels and itself alone, and the string whose disconnect it opens (R216, R217, R219,
R236, R240). The frame of `Instr.selects` (R216, R217, R219). -/
def Obligations.SelectorTouchesTheFeeds : Prop :=
  ∀ (s u : State) (c : Instr), c.selects = true → exec c s = .next u →
    u = { s with now := u.now, obj := u.obj, limited := u.limited, feeds := u.feeds, selector := u.selector,
                 freeCount := u.freeCount, strings := u.strings, storage := u.storage,
                 faults := u.faults, inputs := u.inputs, twin := { s.twin with ownFaults := u.twin.ownFaults } } ∧
      s.objectsKept u [0x6820, 0x6840, 0x7121, 0x8006]

/-- The charge estimator touches the strings alone (R229, R231, R234, R236, R238). The frame of `Instr.estimates` (R229,
R231, R234, R236, R238). -/
def Obligations.EstimatorTouchesTheStrings : Prop :=
  ∀ (s u : State) (c : Instr), c.estimates = true → exec c s = .next u →
    u = { s with now := u.now, obj := u.obj, freeCount := u.freeCount, strings := u.strings, shorted := u.shorted,
                 storage := u.storage, faults := u.faults, inputs := u.inputs,
                 twin := { s.twin with ownFaults := u.twin.ownFaults } } ∧
      s.objectsKept u [0x7030, 0x7121, 0x8006]

/-- Telemetry, captures and the journal touch nothing that drives (R291, R299, R302). The frame of `Instr.records` (R291,
R299, R302). -/
def Obligations.RecordingTouchesNoOutput : Prop :=
  ∀ (s u : State) (c : Instr), c.records = true → exec c s = .next u →
    u = { s with now := u.now, obj := u.obj, tele := u.tele, teleEnd := u.teleEnd, captures := u.captures,
                 journal := u.journal, storage := u.storage, faults := u.faults, inputs := u.inputs,
                 twin := { s.twin with ownFaults := u.twin.ownFaults } } ∧
      s.objectsKept u [0x8006, 0x8011]

/-- The timers and messages of the pair touch the twin side alone (R332, R333, R334, R342). The frame of `Instr.pairs`
(R332, R333, R334, R342). -/
def Obligations.PairingTouchesTheTwinSide : Prop :=
  ∀ (s u : State) (c : Instr), c.pairs = true → exec c s = .next u →
    u = { s with now := u.now, obj := u.obj, twin := u.twin, twinState := u.twinState, faults := u.faults,
                 inputs := u.inputs } ∧
      s.objectsKept u [0x1200, 0x1230, 0x5005, 0x8006]

/-- The frames and ports of the ring touch the ring side alone (R364, R369, R372). The frame of `Instr.rings` (R364, R369,
R372). -/
def Obligations.RingTouchesTheRingSide : Prop :=
  ∀ (s u : State) (c : Instr), c.rings = true → exec c s = .next u →
    u = { s with now := u.now, obj := u.obj, limited := u.limited, ring := u.ring, faults := u.faults,
                 inputs := u.inputs, twin := { s.twin with ownFaults := u.twin.ownFaults } } ∧
      s.objectsKept u [0x1100, 0x1604, 0x8006]

/-- Stores, installs and transfers touch the flash side alone (R379, R409, R411, R427). The frame of `Instr.stores` (R379,
R409, R411, R427). -/
def Obligations.StoresTouchTheFlash : Prop :=
  ∀ (s u : State) (c : Instr), c.stores = true → exec c s = .next u →
    u = { s with now := u.now, obj := u.obj, storage := u.storage, access := u.access, acceptAt := u.acceptAt,
                 faults := u.faults, inputs := u.inputs, twin := { s.twin with ownFaults := u.twin.ownFaults } } ∧
      s.objectsKept u [0x9010, 0x9011, 0x9020, 0x9030, 0xF010, 0xF081, 0x8006]

/-- A group manager judges its phases without writing an object (R131, R154, R155, R164). The frame of `Instr.judgesPhases`
(R131, R154, R155, R164). -/
def Obligations.PhaseJudgementsWriteNoObject : Prop :=
  ∀ (s u : State) (c : Instr), c.judgesPhases = true → exec c s = .next u →
    u = { s with now := u.now, cells := u.cells, groups := u.groups } ∧
      s.objectsKept u []

/-- The judgements of temperatures and of power-good flags touch their own records alone (R250, R261, R263, R267). The frame
of `Instr.judgesHeat` (R250, R261, R263, R267). -/
def Obligations.HeatJudgementsTouchTheirInputs : Prop :=
  ∀ (s u : State) (c : Instr), c.judgesHeat = true → exec c s = .next u →
    u = { s with now := u.now, obj := u.obj, seqs := u.seqs, temps := u.temps, drivers := u.drivers, dies := u.dies,
                 faults := u.faults, inputs := u.inputs, twin := { s.twin with ownFaults := u.twin.ownFaults } } ∧
      s.objectsKept u [0x2411, 0x4030, 0x8006]

/-- A reset of a block of a doubles group resets both blocks (R48), whether the chip arbiter accepts it at once or after it has
waited. -/
def Obligations.DoublesResetTogether : Prop :=
  ∀ (s a : State) (t : Tick) (src : NodeId) (b c : BlockId) (key : Nat), s.awake → a = s.advance t →
    b.val % 2 = 0 → c.val = b.val + 1 → (a.noted src).doubles b = true →
    (a.reaches src → exec (.blockReset t src b key) s = exec (.blockReset t src c key) s) ∧
    a.acceptCommand (.write (.blockReset t src b key)) = a.acceptCommand (.write (.blockReset t src c key)) ∧
    (a.accepts src 1 false → (a.noted src).inFault (.region (b / 4)) = false → (a.noted src).inFault .chip = false →
      (a.noted src).cfg 0x4030 1 b ≠ 1 → (a.noted src).cfg 0x4030 1 c ≠ 1 →
      exec (.blockReset t src b resetKey) s = .next (a.keep ((((a.noted src).resetBlock b).resetBlock c).result 0)))

/-- The retry count grows at a retry, and ends after a good run and at a reset (R205). -/
def Obligations.RetriesAreCounted : Prop :=
  ∀ (s a : State) (t : Tick) (f : FeedId), s.awake → a = s.advance t →
    ((a.feed f).state = .cooldown → (a.feed f).entered + a.nat 0x6800 0x15 f * msTicks ≤ a.now →
      (a.feed f).tj ≤ a.cfg 0x6810 0xC f * 100000 →
      ∃ u, exec (.cooldownEnd t f) s = .next u ∧ (u.feed f).retries = (a.feed f).retries + 1 ∧ (u.feed f).state = .inrush) ∧
    ((a.feed f).powerGood = true → a.since (a.feed f).goodSince (a.nat 0x6800 0x16 f * secTicks) = true →
      ∃ u, exec (.retryCountReset t f) s = .next u ∧ (u.feed f).retries = 0) ∧
    (∀ src : NodeId, a.accepts src 1 false → a.selector.transfer = none →
      ∃ u, exec (.channelReset t src f resetKey) s = .next u ∧ (u.feed f).retries = 0) ∧
    (a.retriesLeft f = true ↔ (a.feed f).retries < a.nat 0x6800 0x14 f) ∧
    (a.nat 0x6800 0x14 f = 0 → a.feedLive f = true → a.cfg 0x6810 0xB f * 100000 ≤ (a.feed f).tj →
      ((a.thermalTrip f).feed f).state = .latched) ∧
    (a.nat 0x6800 0x14 f = 0 → (a.feed f).state ≠ .cooldown → ∀ (code v i g : Nat) (u : State),
      (exec (.shortCircuitTrip t f code) s = .next u ∨ exec (.thermalModelUpdate t f v i g) s = .next u) →
      (u.feed f).state ≠ .cooldown) ∧
    a.readFeed f 8 = (a.feed f).retries

/-- An event sets its fault states and reaches its arbiter, or is a repeat (R40, R41, R317). -/
def Obligations.EventsReachTheirArbiter : Prop :=
  ∀ s : State,
    (∀ e : Event, s.repeats e = true → s.raise e = s.bump 0x8006 1 0) ∧
    (∀ e : Event, s.repeats e = false → pipOf e.code < 3 → (s.raise e).faults = s.faults) ∧
    (∀ (e : Event) (o : Elem), s.repeats e = false → o ∈ e.faultOwners →
      (s.raise e).inFault o = true ∧ ((s.raise e).fault o).raised.contains (e.code, e.raisedAs) = true) ∧
    (∀ (e : Event) (o : Elem), o ∉ e.faultOwners → (s.raise e).fault o = s.fault o) ∧
    (∀ (i : ArbInput) (p : Payload), 32 ≤ (s.input i).items.length → (∀ c : Cmd, p ≠ .command c) → p.pip ≤ 2 →
      ((s.offer i p).input i).items = (s.input i).items ∧
      ((s.offer i p).input i).discarded = min 65535 ((s.input i).discarded + 1)) ∧
    (∀ (i : ArbInput) (p : Payload), (s.input i).items.length < 32 ∨ (∃ c : Cmd, p = .command c) ∨ 3 ≤ p.pip →
      (s.offer i p).input i = { s.input i with items := (s.input i).items ++ [⟨s.now, p⟩] }) ∧
    (∀ (i j : ArbInput) (p : Payload), j ≠ i → (s.offer i p).input j = s.input j)

/-- The arbiters count, and pass one item in a SYS cycle (R35, R36, R37, R38, R40). -/
def Obligations.ArbitersCountAndPassOne : Prop :=
  (∀ n, n < 0xFFFFFFFF → nextSeq n = n + 1) ∧ nextSeq 0xFFFFFFFF = 1 ∧ (∀ n, nextSeq n ≠ 0 ∧ nextSeq n < 0x100000000) ∧
  (∀ (s : State) (e : Event), (s.acceptEvent e).chipSeq = nextSeq s.chipSeq ∧ (s.acceptEvent e).always.lastSeq = nextSeq s.chipSeq) ∧
  (∀ (s a : State) (t at0 : Tick), s.awake → a = s.advance t → a.now / cycleTicks ≤ at0 / cycleTicks →
    (bget none (s.acceptAt.map fun p => (p.1, some p.2)) (3, 0) = some at0 → exec (.chipArbiterAccept t) s = .next a) ∧
    (∀ r : RegionId, bget none (s.acceptAt.map fun p => (p.1, some p.2)) (2, r.val) = some at0 →
      exec (.regionArbiterAccept t r) s = .next a) ∧
    (∀ b : BlockId, bget none (s.acceptAt.map fun p => (p.1, some p.2)) (1, b.val) = some at0 →
      exec (.blockArbiterAccept t b) s = .next a)) ∧
  (∀ (s u : State) (t : Tick) (b : BlockId) (r : RegionId) (i : ArbInput) (c : Instr),
    (c = .blockArbiterAccept t b ∨ c = .regionArbiterAccept t r ∨ c = .eventsMerged t i) → exec c s = .next u →
    u = { s with now := u.now, inputs := u.inputs, acceptAt := u.acceptAt, regionSeq := u.regionSeq })

/-- No output of a cell rises while the other is high, nor before its dead time (R57, R58, R74, R475). With the frame of
`Instr.cellEdge`. -/
def Obligations.OutputsNeverOverlap : Prop :=
  (∀ (s u : State) (i : Instr) (c : CellId), i.cellEdge = some c → exec i s = .next u →
    ((s.cell c).noOverlap = true → (u.cell c).noOverlap = true) ∧
    ((s.cell c).levelA = false → (u.cell c).levelA = true → ∀ f ∈ (u.cell c).fallB, f + s.nat 0x5010 4 c ≤ u.now) ∧
    ((s.cell c).levelB = false → (u.cell c).levelB = true → ∀ f ∈ (u.cell c).fallA, f + s.nat 0x5010 5 c ≤ u.now) ∧
    (∀ k : Nat, k ≠ c.val → u.cell k = s.cell k) ∧
    u = { s with now := u.now, cells := u.cells, obj := u.obj } ∧ s.objectsKept u [0x5003]) ∧
  (∀ (s : State) (c : CellId) (x y : Cell) (forced : Bool), y = (s.periodEdges c x forced).2 →
    (x.noOverlap = true → y.noOverlap = true) ∧
    (x.levelA = false → y.levelA = true → ∀ f ∈ y.fallB, f + s.nat 0x5010 4 c ≤ s.now) ∧
    (x.levelB = false → y.levelB = true → ∀ f ∈ y.fallA, f + s.nat 0x5010 5 c ≤ s.now)) ∧
  (∀ (x y : Cell) (bHigh : Bool) (dtb : Nat) (t : Tick), y = x.forceSafe bHigh dtb t →
    y.noOverlap = true ∧ y.levelA = false ∧ (bHigh = false → y.levelB = false) ∧
    (bHigh = true → y.levelB = true ∨ y.waitB = .programmed) ∧
    (x.levelB = false → y.levelB = true → ∀ f ∈ y.fallA, f + dtb ≤ t))

/-- An evaluation stays in its limits and formats (R99, R101, R102). -/
def Obligations.EvaluationStaysInItsLimits : Prop :=
  ∀ (x u : Ctx) (y r : Int) (n : Nat), -8388608 ≤ x.active.uMin → x.active.uMin ≤ x.active.uMax → x.active.uMax ≤ 8388607 →
    x.evaluate y r = (u, n) →
    x.active.uMin ≤ u.computed ∧ u.computed ≤ x.active.uMax ∧ -8388608 ≤ u.err ∧ u.err ≤ 8388607 ∧
    -8388608 ≤ u.h1 ∧ u.h1 ≤ 8388607 ∧ u.e1 = u.err ∧ u.err = (sat23 (r - y)).1 ∧
    (x.active.integrator = true → -549755813888 ≤ u.integ ∧ u.integ ≤ 549755813887) ∧
    (x.preset = false → u.e2 = x.e1 ∧ u.e3 = x.e2 ∧ u.h2 = x.h1 ∧ u.h3 = x.h2) ∧
    (x.active.integrator = true → x.active.kb = 268435456 →
      x.active.uMin * 256 ≤ u.integ ∧ u.integ ≤ x.active.uMax * 256 ∧ rnd23 u.integ = u.computed) ∧
    (x.active.integrator = true → x.active.kb = 0 → u.clamp = false → x.active.uMin * 256 ≤ u.integ ∧ u.integ ≤ x.active.uMax * 256) ∧
    u.active = x.active ∧ u.staging = x.staging

/-- A transaction takes effect whole or not at all (R384). -/
def Obligations.FailedTransactionChangesNothing : Prop :=
  ∀ (s s' : State) (src : NodeId) (es : List Entry) (codes : List Nat) (good : Bool), s.tryAll src es = (s', codes, good) →
    (good = true → (s.commitEntries src true es).1 = s' ∧ codes.length = es.length ∧ (∀ r ∈ codes, r < 0x10) ∧
      ((s.commitEntries src true es).2.map fun p => p.1) = codes) ∧
    (good = false → ∃ (u : State) (n : Nat) (code : Nat),
      s.commitEntries src true es = (u, (List.range es.length).map fun i => (if i = n then code else 0x40, [])) ∧
      n < es.length ∧ codes.length = n + 1 ∧ codes.getLast? = some code ∧ 0x10 ≤ code ∧ (∀ r ∈ codes.take n, r < 0x10) ∧
      u = { s with obj := u.obj, lastResult := u.lastResult, faults := u.faults, inputs := u.inputs, limited := u.limited, auth := u.auth,
                   twin := { s.twin with ownFaults := u.twin.ownFaults } } ∧
      s.objectsKept u [0x8006] ∧ ∀ k : Nat, u.authorityOf k = s.authorityOf k)

/-- Authority rises by a right key or a good token alone (R380, R381, R382). -/
def Obligations.AuthorityRisesByKeyOrToken : Prop :=
  (∀ (s u : State) (t : Tick) (src : NodeId) (k : List Nat), exec (.integratorLogin t src k) s = .next u →
    (s.authorityOf src < u.authorityOf src → s.access.key = some k ∧ k.length = 8 ∧ (s.authRec src).lockedUntil ≤ u.now) ∧
    ∀ n : Nat, n ≠ src.val → u.authorityOf n = s.authorityOf n) ∧
  (∀ (s u : State) (t : Tick) (src : NodeId) (expiry : Nat) (node : NodeId) (valid : Bool),
    exec (.vendorToken t src expiry node valid) s = .next u →
    (s.authorityOf src < u.authorityOf src → valid = true ∧ node = src ∧ u.freeTime / 60000000 < expiry) ∧
    ∀ n : Nat, n ≠ src.val → u.authorityOf n = s.authorityOf n) ∧
  (∀ (s a : State) (t : Tick) (src : NodeId) (k key : List Nat) (x y : Tick), s.awake → a = s.advance t → a.reaches src → s.standby = false →
    k.length = 8 → s.access.key = some key → k ≠ key → (s.authRec src).lockedUntil ≤ a.now → (s.authRec src).wrongKeys = [x, y] →
    a.now < x + 60 * secTicks → a.now < y + 60 * secTicks →
    ∃ u, exec (.integratorLogin t src k) s = .next u ∧ u.lastResult = 0x30 ∧ (u.authRec src).lockedUntil = a.now + 60 * secTicks)

/-- The reset state is at rest (R318, R380, R453). -/
def Obligations.ResetLeavesEverythingAtRest : Prop :=
  (∀ c : Nat, (State.reset.cell c).state = .idle ∧ (State.reset.cell c).levelA = false ∧ (State.reset.cell c).levelB = false) ∧
  (∀ k : Nat, (State.reset.ctx k).state = .disabled) ∧ (∀ g : Nat, (State.reset.group g).state = .stopped) ∧
  (∀ f : Nat, (State.reset.feed f).state = .off) ∧ (∀ e : Elem, State.reset.inFault e = false) ∧ State.reset.anyFault = false ∧
  State.reset.twinState = .negotiating ∧ State.reset.authorityOf 0 = 2 ∧
  (∀ n : NodeId, n.val ≠ 0 → State.reset.authorityOf n = 1) ∧ State.reset.queueOrdered ∧ State.reset.awake ∧
  State.reset.faultPinLow = true

/-- A period outside its range, or of a cell that runs, is refused (R52). -/
def Obligations.PeriodWritesAreJudged : Prop :=
  ∀ (s a : State) (t : Tick) (src : NodeId) (c : CellId) (v : Int), s.awake → a = s.advance t → a.standby = false →
    a.reaches src → 2 ≤ a.authorityOf src → 0 ≤ v → v < 4294967296 →
    ((v < 12800 ∨ 1280000 < v ∨ ((a.cell c).state ≠ .idle ∧ (a.cell c).state ≠ .fault)) →
      ∃ u, exec (.registerWrite t src 0x5010 2 c v 4) s = .next u ∧ u.lastResult = 0x23 ∧ u.obj = a.obj) ∧
    (12800 ≤ v → v ≤ 1280000 → ((a.cell c).state = .idle ∨ (a.cell c).state = .fault) → a.cfg 0x5010 3 c < v →
      (a.noted src).budgetBroken c v = false →
      ∃ u, exec (.registerWrite t src 0x5010 2 c v 4) s = .next u ∧ u.lastResult = 0 ∧ u.cfg 0x5010 2 c = v)

/-- A service reset ends the fault of its service, which keeps running (R325). -/
def Obligations.ServiceResetEndsItsFault : Prop :=
  ∀ (s a : State) (t : Tick) (src : NodeId) (svc : SvcId), s.awake → a = s.advance t → a.accepts src 1 false →
    a.inFault .chip = false →
    ∃ u, exec (.serviceReset t src svc resetKey) s = .next u ∧ u.lastResult = 0 ∧
      ((u.fault (.service svc)).firstCode = 0 ∧ (u.fault (.service svc)).firstSeq = 0) ∧
      (a.justFaulted (.service svc) = true →
        u.inFault (.service svc) = true ∧ (∀ k ∈ (a.fault (.service svc)).fresh, k ∈ (u.fault (.service svc)).raised)) ∧
      (a.justFaulted (.service svc) = false →
        (u.fault (.service svc)).endedAt = a.now ∧
        (a.serviceCauses svc = [] → u.inFault (.service svc) = false ∧ (u.fault (.service svc)).raised = []) ∧
        (∀ k ∈ (u.fault (.service svc)).raised, ∃ e ∈ a.serviceCauses svc, k = (e.code, e.raisedAs))) ∧
      (∀ e ∈ a.serviceCauses svc,
        u.inFault (.service svc) = true ∧ (u.fault (.service svc)).raised.contains (e.code, e.raisedAs) = true) ∧
      ((svc.val = 2 ∧ (a.fault (.service 2)).raised.contains (0x8101, 0) = true ∧ a.cfg 0x1200 3 0 ≠ 2) →
        u.inFault (.service 2) = true ∧ (u.fault (.service 2)).raised.contains (0x8101, 0) = true) ∧
      (∀ e : Elem, e ≠ .service svc → u.fault e = a.fault e) ∧
      u.ring = a.ring ∧ u.storage = a.storage ∧ u.journal = a.journal ∧ u.access = a.access ∧ u.twinState = a.twinState ∧
      u.twin = { a.twin with ownFaults := u.twin.ownFaults }
end

