-- ==== Sys2Proof/Laws/State.lean ====
section
/-! SUPPORT. What each update of the state leaves in each field: one lemma per field per update, so that no proof unfolds a
record update. -/

namespace Sys2Proof.Machine

variable (s : State)

/-! ### advance -/

@[simp] theorem State.advance_now (t : Tick) : (s.advance t).now = max s.now t := rfl
@[simp] theorem State.advance_freeBase (t : Tick) : (s.advance t).freeBase = s.freeBase := rfl
@[simp] theorem State.advance_turnDone (t : Tick) : (s.advance t).turnDone = s.turnDone := rfl
@[simp] theorem State.advance_pending (t : Tick) : (s.advance t).pending = s.pending := rfl
@[simp] theorem State.advance_obj (t : Tick) : (s.advance t).obj = s.obj := rfl
@[simp] theorem State.advance_lastResult (t : Tick) : (s.advance t).lastResult = s.lastResult := rfl
@[simp] theorem State.advance_lastRead (t : Tick) : (s.advance t).lastRead = s.lastRead := rfl
@[simp] theorem State.advance_freeCount (t : Tick) : (s.advance t).freeCount = s.freeCount := rfl
@[simp] theorem State.advance_faults (t : Tick) : (s.advance t).faults = s.faults := rfl
@[simp] theorem State.advance_inputs (t : Tick) : (s.advance t).inputs = s.inputs := rfl
@[simp] theorem State.advance_acceptAt (t : Tick) : (s.advance t).acceptAt = s.acceptAt := rfl
@[simp] theorem State.advance_limited (t : Tick) : (s.advance t).limited = s.limited := rfl
@[simp] theorem State.advance_cells (t : Tick) : (s.advance t).cells = s.cells := rfl
@[simp] theorem State.advance_ctxs (t : Tick) : (s.advance t).ctxs = s.ctxs := rfl
@[simp] theorem State.advance_engineBusy (t : Tick) : (s.advance t).engineBusy = s.engineBusy := rfl
@[simp] theorem State.advance_groups (t : Tick) : (s.advance t).groups = s.groups := rfl
@[simp] theorem State.advance_pools (t : Tick) : (s.advance t).pools = s.pools := rfl
@[simp] theorem State.advance_volts (t : Tick) : (s.advance t).volts = s.volts := rfl
@[simp] theorem State.advance_acs (t : Tick) : (s.advance t).acs = s.acs := rfl
@[simp] theorem State.advance_bridge (t : Tick) : (s.advance t).bridge = s.bridge := rfl
@[simp] theorem State.advance_feeds (t : Tick) : (s.advance t).feeds = s.feeds := rfl
@[simp] theorem State.advance_selector (t : Tick) : (s.advance t).selector = s.selector := rfl
@[simp] theorem State.advance_seqs (t : Tick) : (s.advance t).seqs = s.seqs := rfl
@[simp] theorem State.advance_mains (t : Tick) : (s.advance t).mains = s.mains := rfl
@[simp] theorem State.advance_frame (t : Tick) : (s.advance t).frame = s.frame := rfl
@[simp] theorem State.advance_loadMap (t : Tick) : (s.advance t).loadMap = s.loadMap := rfl
@[simp] theorem State.advance_moves (t : Tick) : (s.advance t).moves = s.moves := rfl
@[simp] theorem State.advance_strings (t : Tick) : (s.advance t).strings = s.strings := rfl
@[simp] theorem State.advance_runSavedAt (t : Tick) : (s.advance t).runSavedAt = s.runSavedAt := rfl
@[simp] theorem State.advance_tables (t : Tick) : (s.advance t).tables = s.tables := rfl
@[simp] theorem State.advance_tableClass (t : Tick) : (s.advance t).tableClass = s.tableClass := rfl
@[simp] theorem State.advance_auth (t : Tick) : (s.advance t).auth = s.auth := rfl
@[simp] theorem State.advance_temps (t : Tick) : (s.advance t).temps = s.temps := rfl
@[simp] theorem State.advance_sinks (t : Tick) : (s.advance t).sinks = s.sinks := rfl
@[simp] theorem State.advance_drivers (t : Tick) : (s.advance t).drivers = s.drivers := rfl
@[simp] theorem State.advance_dies (t : Tick) : (s.advance t).dies = s.dies := rfl
@[simp] theorem State.advance_progSlots (t : Tick) : (s.advance t).progSlots = s.progSlots := rfl
@[simp] theorem State.advance_deferred (t : Tick) : (s.advance t).deferred = s.deferred := rfl
@[simp] theorem State.advance_mainsPart (t : Tick) : (s.advance t).mainsPart = s.mainsPart := rfl
@[simp] theorem State.advance_feedPart (t : Tick) : (s.advance t).feedPart = s.feedPart := rfl
@[simp] theorem State.advance_noPart (t : Tick) : (s.advance t).noPart = s.noPart := rfl
@[simp] theorem State.advance_watch (t : Tick) : (s.advance t).watch = s.watch := rfl
@[simp] theorem State.advance_tele (t : Tick) : (s.advance t).tele = s.tele := rfl
@[simp] theorem State.advance_teleEnd (t : Tick) : (s.advance t).teleEnd = s.teleEnd := rfl
@[simp] theorem State.advance_shorted (t : Tick) : (s.advance t).shorted = s.shorted := rfl
@[simp] theorem State.advance_captures (t : Tick) : (s.advance t).captures = s.captures := rfl
@[simp] theorem State.advance_journal (t : Tick) : (s.advance t).journal = s.journal := rfl
@[simp] theorem State.advance_storage (t : Tick) : (s.advance t).storage = s.storage := rfl
@[simp] theorem State.advance_always (t : Tick) : (s.advance t).always = s.always := rfl
@[simp] theorem State.advance_run (t : Tick) : (s.advance t).run = s.run := rfl
@[simp] theorem State.advance_twin (t : Tick) : (s.advance t).twin = s.twin := rfl
@[simp] theorem State.advance_ring (t : Tick) : (s.advance t).ring = s.ring := rfl
@[simp] theorem State.advance_access (t : Tick) : (s.advance t).access = s.access := rfl
@[simp] theorem State.advance_twinState (t : Tick) : (s.advance t).twinState = s.twinState := rfl
@[simp] theorem State.advance_inReset (t : Tick) : (s.advance t).inReset = s.inReset := rfl
@[simp] theorem State.advance_seqFloor (t : Tick) : (s.advance t).seqFloor = s.seqFloor := rfl
@[simp] theorem State.advance_chipSeq (t : Tick) : (s.advance t).chipSeq = s.chipSeq := rfl
@[simp] theorem State.advance_regionSeq (t : Tick) : (s.advance t).regionSeq = s.regionSeq := rfl
@[simp] theorem State.advance_accepting (t : Tick) : (s.advance t).accepting = s.accepting := rfl
@[simp] theorem State.advance_engineSlot (t : Tick) : (s.advance t).engineSlot = s.engineSlot := rfl
@[simp] theorem State.advance_feedMarks (t : Tick) : (s.advance t).feedMarks = s.feedMarks := rfl
@[simp] theorem State.advance_stepAt (t : Tick) : (s.advance t).stepAt = s.stepAt := rfl

/-! ### put -/

@[simp] theorem State.put_now (i u n : Nat) (v : Int) : (s.put i u n v).now = s.now := rfl
@[simp] theorem State.put_freeBase (i u n : Nat) (v : Int) : (s.put i u n v).freeBase = s.freeBase := rfl
@[simp] theorem State.put_turnDone (i u n : Nat) (v : Int) : (s.put i u n v).turnDone = s.turnDone := rfl
@[simp] theorem State.put_pending (i u n : Nat) (v : Int) : (s.put i u n v).pending = s.pending := rfl
@[simp] theorem State.put_obj (i u n : Nat) (v : Int) : (s.put i u n v).obj = bset s.obj ⟨i, u, n⟩ v := rfl
@[simp] theorem State.put_lastResult (i u n : Nat) (v : Int) : (s.put i u n v).lastResult = s.lastResult := rfl
@[simp] theorem State.put_lastRead (i u n : Nat) (v : Int) : (s.put i u n v).lastRead = s.lastRead := rfl
@[simp] theorem State.put_freeCount (i u n : Nat) (v : Int) : (s.put i u n v).freeCount = s.freeCount := rfl
@[simp] theorem State.put_faults (i u n : Nat) (v : Int) : (s.put i u n v).faults = s.faults := rfl
@[simp] theorem State.put_inputs (i u n : Nat) (v : Int) : (s.put i u n v).inputs = s.inputs := rfl
@[simp] theorem State.put_acceptAt (i u n : Nat) (v : Int) : (s.put i u n v).acceptAt = s.acceptAt := rfl
@[simp] theorem State.put_limited (i u n : Nat) (v : Int) : (s.put i u n v).limited = s.limited := rfl
@[simp] theorem State.put_cells (i u n : Nat) (v : Int) : (s.put i u n v).cells = s.cells := rfl
@[simp] theorem State.put_ctxs (i u n : Nat) (v : Int) : (s.put i u n v).ctxs = s.ctxs := rfl
@[simp] theorem State.put_engineBusy (i u n : Nat) (v : Int) : (s.put i u n v).engineBusy = s.engineBusy := rfl
@[simp] theorem State.put_groups (i u n : Nat) (v : Int) : (s.put i u n v).groups = s.groups := rfl
@[simp] theorem State.put_pools (i u n : Nat) (v : Int) : (s.put i u n v).pools = s.pools := rfl
@[simp] theorem State.put_volts (i u n : Nat) (v : Int) : (s.put i u n v).volts = s.volts := rfl
@[simp] theorem State.put_acs (i u n : Nat) (v : Int) : (s.put i u n v).acs = s.acs := rfl
@[simp] theorem State.put_bridge (i u n : Nat) (v : Int) : (s.put i u n v).bridge = s.bridge := rfl
@[simp] theorem State.put_feeds (i u n : Nat) (v : Int) : (s.put i u n v).feeds = s.feeds := rfl
@[simp] theorem State.put_selector (i u n : Nat) (v : Int) : (s.put i u n v).selector = s.selector := rfl
@[simp] theorem State.put_seqs (i u n : Nat) (v : Int) : (s.put i u n v).seqs = s.seqs := rfl
@[simp] theorem State.put_mains (i u n : Nat) (v : Int) : (s.put i u n v).mains = s.mains := rfl
@[simp] theorem State.put_frame (i u n : Nat) (v : Int) : (s.put i u n v).frame = s.frame := rfl
@[simp] theorem State.put_loadMap (i u n : Nat) (v : Int) : (s.put i u n v).loadMap = s.loadMap := rfl
@[simp] theorem State.put_moves (i u n : Nat) (v : Int) : (s.put i u n v).moves = s.moves := rfl
@[simp] theorem State.put_strings (i u n : Nat) (v : Int) : (s.put i u n v).strings = s.strings := rfl
@[simp] theorem State.put_runSavedAt (i u n : Nat) (v : Int) : (s.put i u n v).runSavedAt = s.runSavedAt := rfl
@[simp] theorem State.put_tables (i u n : Nat) (v : Int) : (s.put i u n v).tables = s.tables := rfl
@[simp] theorem State.put_tableClass (i u n : Nat) (v : Int) : (s.put i u n v).tableClass = s.tableClass := rfl
@[simp] theorem State.put_auth (i u n : Nat) (v : Int) : (s.put i u n v).auth = s.auth := rfl
@[simp] theorem State.put_temps (i u n : Nat) (v : Int) : (s.put i u n v).temps = s.temps := rfl
@[simp] theorem State.put_sinks (i u n : Nat) (v : Int) : (s.put i u n v).sinks = s.sinks := rfl
@[simp] theorem State.put_drivers (i u n : Nat) (v : Int) : (s.put i u n v).drivers = s.drivers := rfl
@[simp] theorem State.put_dies (i u n : Nat) (v : Int) : (s.put i u n v).dies = s.dies := rfl
@[simp] theorem State.put_progSlots (i u n : Nat) (v : Int) : (s.put i u n v).progSlots = s.progSlots := rfl
@[simp] theorem State.put_deferred (i u n : Nat) (v : Int) : (s.put i u n v).deferred = s.deferred := rfl
@[simp] theorem State.put_mainsPart (i u n : Nat) (v : Int) : (s.put i u n v).mainsPart = s.mainsPart := rfl
@[simp] theorem State.put_feedPart (i u n : Nat) (v : Int) : (s.put i u n v).feedPart = s.feedPart := rfl
@[simp] theorem State.put_noPart (i u n : Nat) (v : Int) : (s.put i u n v).noPart = s.noPart := rfl
@[simp] theorem State.put_watch (i u n : Nat) (v : Int) : (s.put i u n v).watch = s.watch := rfl
@[simp] theorem State.put_tele (i u n : Nat) (v : Int) : (s.put i u n v).tele = s.tele := rfl
@[simp] theorem State.put_teleEnd (i u n : Nat) (v : Int) : (s.put i u n v).teleEnd = s.teleEnd := rfl
@[simp] theorem State.put_shorted (i u n : Nat) (v : Int) : (s.put i u n v).shorted = s.shorted := rfl
@[simp] theorem State.put_captures (i u n : Nat) (v : Int) : (s.put i u n v).captures = s.captures := rfl
@[simp] theorem State.put_journal (i u n : Nat) (v : Int) : (s.put i u n v).journal = s.journal := rfl
@[simp] theorem State.put_storage (i u n : Nat) (v : Int) : (s.put i u n v).storage = s.storage := rfl
@[simp] theorem State.put_always (i u n : Nat) (v : Int) : (s.put i u n v).always = s.always := rfl
@[simp] theorem State.put_run (i u n : Nat) (v : Int) : (s.put i u n v).run = s.run := rfl
@[simp] theorem State.put_twin (i u n : Nat) (v : Int) : (s.put i u n v).twin = s.twin := rfl
@[simp] theorem State.put_ring (i u n : Nat) (v : Int) : (s.put i u n v).ring = s.ring := rfl
@[simp] theorem State.put_access (i u n : Nat) (v : Int) : (s.put i u n v).access = s.access := rfl
@[simp] theorem State.put_twinState (i u n : Nat) (v : Int) : (s.put i u n v).twinState = s.twinState := rfl
@[simp] theorem State.put_inReset (i u n : Nat) (v : Int) : (s.put i u n v).inReset = s.inReset := rfl
@[simp] theorem State.put_seqFloor (i u n : Nat) (v : Int) : (s.put i u n v).seqFloor = s.seqFloor := rfl
@[simp] theorem State.put_chipSeq (i u n : Nat) (v : Int) : (s.put i u n v).chipSeq = s.chipSeq := rfl
@[simp] theorem State.put_regionSeq (i u n : Nat) (v : Int) : (s.put i u n v).regionSeq = s.regionSeq := rfl
@[simp] theorem State.put_accepting (i u n : Nat) (v : Int) : (s.put i u n v).accepting = s.accepting := rfl
@[simp] theorem State.put_engineSlot (i u n : Nat) (v : Int) : (s.put i u n v).engineSlot = s.engineSlot := rfl
@[simp] theorem State.put_feedMarks (i u n : Nat) (v : Int) : (s.put i u n v).feedMarks = s.feedMarks := rfl
@[simp] theorem State.put_stepAt (i u n : Nat) (v : Int) : (s.put i u n v).stepAt = s.stepAt := rfl

/-! ### result -/

@[simp] theorem State.result_now (r : Nat) : (s.result r).now = s.now := rfl
@[simp] theorem State.result_freeBase (r : Nat) : (s.result r).freeBase = s.freeBase := rfl
@[simp] theorem State.result_turnDone (r : Nat) : (s.result r).turnDone = s.turnDone := rfl
@[simp] theorem State.result_pending (r : Nat) : (s.result r).pending = s.pending := rfl
@[simp] theorem State.result_obj (r : Nat) : (s.result r).obj = s.obj := rfl
@[simp] theorem State.result_lastResult (r : Nat) : (s.result r).lastResult = r := rfl
@[simp] theorem State.result_lastRead (r : Nat) : (s.result r).lastRead = s.lastRead := rfl
@[simp] theorem State.result_freeCount (r : Nat) : (s.result r).freeCount = s.freeCount := rfl
@[simp] theorem State.result_faults (r : Nat) : (s.result r).faults = s.faults := rfl
@[simp] theorem State.result_inputs (r : Nat) : (s.result r).inputs = s.inputs := rfl
@[simp] theorem State.result_acceptAt (r : Nat) : (s.result r).acceptAt = s.acceptAt := rfl
@[simp] theorem State.result_limited (r : Nat) : (s.result r).limited = s.limited := rfl
@[simp] theorem State.result_cells (r : Nat) : (s.result r).cells = s.cells := rfl
@[simp] theorem State.result_ctxs (r : Nat) : (s.result r).ctxs = s.ctxs := rfl
@[simp] theorem State.result_engineBusy (r : Nat) : (s.result r).engineBusy = s.engineBusy := rfl
@[simp] theorem State.result_groups (r : Nat) : (s.result r).groups = s.groups := rfl
@[simp] theorem State.result_pools (r : Nat) : (s.result r).pools = s.pools := rfl
@[simp] theorem State.result_volts (r : Nat) : (s.result r).volts = s.volts := rfl
@[simp] theorem State.result_acs (r : Nat) : (s.result r).acs = s.acs := rfl
@[simp] theorem State.result_bridge (r : Nat) : (s.result r).bridge = s.bridge := rfl
@[simp] theorem State.result_feeds (r : Nat) : (s.result r).feeds = s.feeds := rfl
@[simp] theorem State.result_selector (r : Nat) : (s.result r).selector = s.selector := rfl
@[simp] theorem State.result_seqs (r : Nat) : (s.result r).seqs = s.seqs := rfl
@[simp] theorem State.result_mains (r : Nat) : (s.result r).mains = s.mains := rfl
@[simp] theorem State.result_frame (r : Nat) : (s.result r).frame = s.frame := rfl
@[simp] theorem State.result_loadMap (r : Nat) : (s.result r).loadMap = s.loadMap := rfl
@[simp] theorem State.result_moves (r : Nat) : (s.result r).moves = s.moves := rfl
@[simp] theorem State.result_strings (r : Nat) : (s.result r).strings = s.strings := rfl
@[simp] theorem State.result_runSavedAt (r : Nat) : (s.result r).runSavedAt = s.runSavedAt := rfl
@[simp] theorem State.result_tables (r : Nat) : (s.result r).tables = s.tables := rfl
@[simp] theorem State.result_tableClass (r : Nat) : (s.result r).tableClass = s.tableClass := rfl
@[simp] theorem State.result_auth (r : Nat) : (s.result r).auth = s.auth := rfl
@[simp] theorem State.result_temps (r : Nat) : (s.result r).temps = s.temps := rfl
@[simp] theorem State.result_sinks (r : Nat) : (s.result r).sinks = s.sinks := rfl
@[simp] theorem State.result_drivers (r : Nat) : (s.result r).drivers = s.drivers := rfl
@[simp] theorem State.result_dies (r : Nat) : (s.result r).dies = s.dies := rfl
@[simp] theorem State.result_progSlots (r : Nat) : (s.result r).progSlots = s.progSlots := rfl
@[simp] theorem State.result_deferred (r : Nat) : (s.result r).deferred = s.deferred := rfl
@[simp] theorem State.result_mainsPart (r : Nat) : (s.result r).mainsPart = s.mainsPart := rfl
@[simp] theorem State.result_feedPart (r : Nat) : (s.result r).feedPart = s.feedPart := rfl
@[simp] theorem State.result_noPart (r : Nat) : (s.result r).noPart = s.noPart := rfl
@[simp] theorem State.result_watch (r : Nat) : (s.result r).watch = s.watch := rfl
@[simp] theorem State.result_tele (r : Nat) : (s.result r).tele = s.tele := rfl
@[simp] theorem State.result_teleEnd (r : Nat) : (s.result r).teleEnd = s.teleEnd := rfl
@[simp] theorem State.result_shorted (r : Nat) : (s.result r).shorted = s.shorted := rfl
@[simp] theorem State.result_captures (r : Nat) : (s.result r).captures = s.captures := rfl
@[simp] theorem State.result_journal (r : Nat) : (s.result r).journal = s.journal := rfl
@[simp] theorem State.result_storage (r : Nat) : (s.result r).storage = s.storage := rfl
@[simp] theorem State.result_always (r : Nat) : (s.result r).always = s.always := rfl
@[simp] theorem State.result_run (r : Nat) : (s.result r).run = s.run := rfl
@[simp] theorem State.result_twin (r : Nat) : (s.result r).twin = s.twin := rfl
@[simp] theorem State.result_ring (r : Nat) : (s.result r).ring = s.ring := rfl
@[simp] theorem State.result_access (r : Nat) : (s.result r).access = s.access := rfl
@[simp] theorem State.result_twinState (r : Nat) : (s.result r).twinState = s.twinState := rfl
@[simp] theorem State.result_inReset (r : Nat) : (s.result r).inReset = s.inReset := rfl
@[simp] theorem State.result_seqFloor (r : Nat) : (s.result r).seqFloor = s.seqFloor := rfl
@[simp] theorem State.result_chipSeq (r : Nat) : (s.result r).chipSeq = s.chipSeq := rfl
@[simp] theorem State.result_regionSeq (r : Nat) : (s.result r).regionSeq = s.regionSeq := rfl
@[simp] theorem State.result_accepting (r : Nat) : (s.result r).accepting = s.accepting := rfl
@[simp] theorem State.result_engineSlot (r : Nat) : (s.result r).engineSlot = s.engineSlot := rfl
@[simp] theorem State.result_feedMarks (r : Nat) : (s.result r).feedMarks = s.feedMarks := rfl
@[simp] theorem State.result_stepAt (r : Nat) : (s.result r).stepAt = s.stepAt := rfl

/-! ### setCell -/

@[simp] theorem State.setCell_now (n : Nat) (x : Cell) : (s.setCell n x).now = s.now := rfl
@[simp] theorem State.setCell_freeBase (n : Nat) (x : Cell) : (s.setCell n x).freeBase = s.freeBase := rfl
@[simp] theorem State.setCell_turnDone (n : Nat) (x : Cell) : (s.setCell n x).turnDone = s.turnDone := rfl
@[simp] theorem State.setCell_pending (n : Nat) (x : Cell) : (s.setCell n x).pending = s.pending := rfl
@[simp] theorem State.setCell_obj (n : Nat) (x : Cell) : (s.setCell n x).obj = s.obj := rfl
@[simp] theorem State.setCell_lastResult (n : Nat) (x : Cell) : (s.setCell n x).lastResult = s.lastResult := rfl
@[simp] theorem State.setCell_lastRead (n : Nat) (x : Cell) : (s.setCell n x).lastRead = s.lastRead := rfl
@[simp] theorem State.setCell_freeCount (n : Nat) (x : Cell) : (s.setCell n x).freeCount = s.freeCount := rfl
@[simp] theorem State.setCell_faults (n : Nat) (x : Cell) : (s.setCell n x).faults = s.faults := rfl
@[simp] theorem State.setCell_inputs (n : Nat) (x : Cell) : (s.setCell n x).inputs = s.inputs := rfl
@[simp] theorem State.setCell_acceptAt (n : Nat) (x : Cell) : (s.setCell n x).acceptAt = s.acceptAt := rfl
@[simp] theorem State.setCell_limited (n : Nat) (x : Cell) : (s.setCell n x).limited = s.limited := rfl
@[simp] theorem State.setCell_cells (n : Nat) (x : Cell) : (s.setCell n x).cells = bset s.cells n x := rfl
@[simp] theorem State.setCell_ctxs (n : Nat) (x : Cell) : (s.setCell n x).ctxs = s.ctxs := rfl
@[simp] theorem State.setCell_engineBusy (n : Nat) (x : Cell) : (s.setCell n x).engineBusy = s.engineBusy := rfl
@[simp] theorem State.setCell_groups (n : Nat) (x : Cell) : (s.setCell n x).groups = s.groups := rfl
@[simp] theorem State.setCell_pools (n : Nat) (x : Cell) : (s.setCell n x).pools = s.pools := rfl
@[simp] theorem State.setCell_volts (n : Nat) (x : Cell) : (s.setCell n x).volts = s.volts := rfl
@[simp] theorem State.setCell_acs (n : Nat) (x : Cell) : (s.setCell n x).acs = s.acs := rfl
@[simp] theorem State.setCell_bridge (n : Nat) (x : Cell) : (s.setCell n x).bridge = s.bridge := rfl
@[simp] theorem State.setCell_feeds (n : Nat) (x : Cell) : (s.setCell n x).feeds = s.feeds := rfl
@[simp] theorem State.setCell_selector (n : Nat) (x : Cell) : (s.setCell n x).selector = s.selector := rfl
@[simp] theorem State.setCell_seqs (n : Nat) (x : Cell) : (s.setCell n x).seqs = s.seqs := rfl
@[simp] theorem State.setCell_mains (n : Nat) (x : Cell) : (s.setCell n x).mains = s.mains := rfl
@[simp] theorem State.setCell_frame (n : Nat) (x : Cell) : (s.setCell n x).frame = s.frame := rfl
@[simp] theorem State.setCell_loadMap (n : Nat) (x : Cell) : (s.setCell n x).loadMap = s.loadMap := rfl
@[simp] theorem State.setCell_moves (n : Nat) (x : Cell) : (s.setCell n x).moves = s.moves := rfl
@[simp] theorem State.setCell_strings (n : Nat) (x : Cell) : (s.setCell n x).strings = s.strings := rfl
@[simp] theorem State.setCell_runSavedAt (n : Nat) (x : Cell) : (s.setCell n x).runSavedAt = s.runSavedAt := rfl
@[simp] theorem State.setCell_tables (n : Nat) (x : Cell) : (s.setCell n x).tables = s.tables := rfl
@[simp] theorem State.setCell_tableClass (n : Nat) (x : Cell) : (s.setCell n x).tableClass = s.tableClass := rfl
@[simp] theorem State.setCell_auth (n : Nat) (x : Cell) : (s.setCell n x).auth = s.auth := rfl
@[simp] theorem State.setCell_temps (n : Nat) (x : Cell) : (s.setCell n x).temps = s.temps := rfl
@[simp] theorem State.setCell_sinks (n : Nat) (x : Cell) : (s.setCell n x).sinks = s.sinks := rfl
@[simp] theorem State.setCell_drivers (n : Nat) (x : Cell) : (s.setCell n x).drivers = s.drivers := rfl
@[simp] theorem State.setCell_dies (n : Nat) (x : Cell) : (s.setCell n x).dies = s.dies := rfl
@[simp] theorem State.setCell_progSlots (n : Nat) (x : Cell) : (s.setCell n x).progSlots = s.progSlots := rfl
@[simp] theorem State.setCell_deferred (n : Nat) (x : Cell) : (s.setCell n x).deferred = s.deferred := rfl
@[simp] theorem State.setCell_mainsPart (n : Nat) (x : Cell) : (s.setCell n x).mainsPart = s.mainsPart := rfl
@[simp] theorem State.setCell_feedPart (n : Nat) (x : Cell) : (s.setCell n x).feedPart = s.feedPart := rfl
@[simp] theorem State.setCell_noPart (n : Nat) (x : Cell) : (s.setCell n x).noPart = s.noPart := rfl
@[simp] theorem State.setCell_watch (n : Nat) (x : Cell) : (s.setCell n x).watch = s.watch := rfl
@[simp] theorem State.setCell_tele (n : Nat) (x : Cell) : (s.setCell n x).tele = s.tele := rfl
@[simp] theorem State.setCell_teleEnd (n : Nat) (x : Cell) : (s.setCell n x).teleEnd = s.teleEnd := rfl
@[simp] theorem State.setCell_shorted (n : Nat) (x : Cell) : (s.setCell n x).shorted = s.shorted := rfl
@[simp] theorem State.setCell_captures (n : Nat) (x : Cell) : (s.setCell n x).captures = s.captures := rfl
@[simp] theorem State.setCell_journal (n : Nat) (x : Cell) : (s.setCell n x).journal = s.journal := rfl
@[simp] theorem State.setCell_storage (n : Nat) (x : Cell) : (s.setCell n x).storage = s.storage := rfl
@[simp] theorem State.setCell_always (n : Nat) (x : Cell) : (s.setCell n x).always = s.always := rfl
@[simp] theorem State.setCell_run (n : Nat) (x : Cell) : (s.setCell n x).run = s.run := rfl
@[simp] theorem State.setCell_twin (n : Nat) (x : Cell) : (s.setCell n x).twin = s.twin := rfl
@[simp] theorem State.setCell_ring (n : Nat) (x : Cell) : (s.setCell n x).ring = s.ring := rfl
@[simp] theorem State.setCell_access (n : Nat) (x : Cell) : (s.setCell n x).access = s.access := rfl
@[simp] theorem State.setCell_twinState (n : Nat) (x : Cell) : (s.setCell n x).twinState = s.twinState := rfl
@[simp] theorem State.setCell_inReset (n : Nat) (x : Cell) : (s.setCell n x).inReset = s.inReset := rfl
@[simp] theorem State.setCell_seqFloor (n : Nat) (x : Cell) : (s.setCell n x).seqFloor = s.seqFloor := rfl
@[simp] theorem State.setCell_chipSeq (n : Nat) (x : Cell) : (s.setCell n x).chipSeq = s.chipSeq := rfl
@[simp] theorem State.setCell_regionSeq (n : Nat) (x : Cell) : (s.setCell n x).regionSeq = s.regionSeq := rfl
@[simp] theorem State.setCell_accepting (n : Nat) (x : Cell) : (s.setCell n x).accepting = s.accepting := rfl
@[simp] theorem State.setCell_engineSlot (n : Nat) (x : Cell) : (s.setCell n x).engineSlot = s.engineSlot := rfl
@[simp] theorem State.setCell_feedMarks (n : Nat) (x : Cell) : (s.setCell n x).feedMarks = s.feedMarks := rfl
@[simp] theorem State.setCell_stepAt (n : Nat) (x : Cell) : (s.setCell n x).stepAt = s.stepAt := rfl

/-! ### setCtx -/

@[simp] theorem State.setCtx_now (n : Nat) (x : Ctx) : (s.setCtx n x).now = s.now := rfl
@[simp] theorem State.setCtx_freeBase (n : Nat) (x : Ctx) : (s.setCtx n x).freeBase = s.freeBase := rfl
@[simp] theorem State.setCtx_turnDone (n : Nat) (x : Ctx) : (s.setCtx n x).turnDone = s.turnDone := rfl
@[simp] theorem State.setCtx_pending (n : Nat) (x : Ctx) : (s.setCtx n x).pending = s.pending := rfl
@[simp] theorem State.setCtx_obj (n : Nat) (x : Ctx) : (s.setCtx n x).obj = s.obj := rfl
@[simp] theorem State.setCtx_lastResult (n : Nat) (x : Ctx) : (s.setCtx n x).lastResult = s.lastResult := rfl
@[simp] theorem State.setCtx_lastRead (n : Nat) (x : Ctx) : (s.setCtx n x).lastRead = s.lastRead := rfl
@[simp] theorem State.setCtx_freeCount (n : Nat) (x : Ctx) : (s.setCtx n x).freeCount = s.freeCount := rfl
@[simp] theorem State.setCtx_faults (n : Nat) (x : Ctx) : (s.setCtx n x).faults = s.faults := rfl
@[simp] theorem State.setCtx_inputs (n : Nat) (x : Ctx) : (s.setCtx n x).inputs = s.inputs := rfl
@[simp] theorem State.setCtx_acceptAt (n : Nat) (x : Ctx) : (s.setCtx n x).acceptAt = s.acceptAt := rfl
@[simp] theorem State.setCtx_limited (n : Nat) (x : Ctx) : (s.setCtx n x).limited = s.limited := rfl
@[simp] theorem State.setCtx_cells (n : Nat) (x : Ctx) : (s.setCtx n x).cells = s.cells := rfl
@[simp] theorem State.setCtx_ctxs (n : Nat) (x : Ctx) : (s.setCtx n x).ctxs = bset s.ctxs n x := rfl
@[simp] theorem State.setCtx_engineBusy (n : Nat) (x : Ctx) : (s.setCtx n x).engineBusy = s.engineBusy := rfl
@[simp] theorem State.setCtx_groups (n : Nat) (x : Ctx) : (s.setCtx n x).groups = s.groups := rfl
@[simp] theorem State.setCtx_pools (n : Nat) (x : Ctx) : (s.setCtx n x).pools = s.pools := rfl
@[simp] theorem State.setCtx_volts (n : Nat) (x : Ctx) : (s.setCtx n x).volts = s.volts := rfl
@[simp] theorem State.setCtx_acs (n : Nat) (x : Ctx) : (s.setCtx n x).acs = s.acs := rfl
@[simp] theorem State.setCtx_bridge (n : Nat) (x : Ctx) : (s.setCtx n x).bridge = s.bridge := rfl
@[simp] theorem State.setCtx_feeds (n : Nat) (x : Ctx) : (s.setCtx n x).feeds = s.feeds := rfl
@[simp] theorem State.setCtx_selector (n : Nat) (x : Ctx) : (s.setCtx n x).selector = s.selector := rfl
@[simp] theorem State.setCtx_seqs (n : Nat) (x : Ctx) : (s.setCtx n x).seqs = s.seqs := rfl
@[simp] theorem State.setCtx_mains (n : Nat) (x : Ctx) : (s.setCtx n x).mains = s.mains := rfl
@[simp] theorem State.setCtx_frame (n : Nat) (x : Ctx) : (s.setCtx n x).frame = s.frame := rfl
@[simp] theorem State.setCtx_loadMap (n : Nat) (x : Ctx) : (s.setCtx n x).loadMap = s.loadMap := rfl
@[simp] theorem State.setCtx_moves (n : Nat) (x : Ctx) : (s.setCtx n x).moves = s.moves := rfl
@[simp] theorem State.setCtx_strings (n : Nat) (x : Ctx) : (s.setCtx n x).strings = s.strings := rfl
@[simp] theorem State.setCtx_runSavedAt (n : Nat) (x : Ctx) : (s.setCtx n x).runSavedAt = s.runSavedAt := rfl
@[simp] theorem State.setCtx_tables (n : Nat) (x : Ctx) : (s.setCtx n x).tables = s.tables := rfl
@[simp] theorem State.setCtx_tableClass (n : Nat) (x : Ctx) : (s.setCtx n x).tableClass = s.tableClass := rfl
@[simp] theorem State.setCtx_auth (n : Nat) (x : Ctx) : (s.setCtx n x).auth = s.auth := rfl
@[simp] theorem State.setCtx_temps (n : Nat) (x : Ctx) : (s.setCtx n x).temps = s.temps := rfl
@[simp] theorem State.setCtx_sinks (n : Nat) (x : Ctx) : (s.setCtx n x).sinks = s.sinks := rfl
@[simp] theorem State.setCtx_drivers (n : Nat) (x : Ctx) : (s.setCtx n x).drivers = s.drivers := rfl
@[simp] theorem State.setCtx_dies (n : Nat) (x : Ctx) : (s.setCtx n x).dies = s.dies := rfl
@[simp] theorem State.setCtx_progSlots (n : Nat) (x : Ctx) : (s.setCtx n x).progSlots = s.progSlots := rfl
@[simp] theorem State.setCtx_deferred (n : Nat) (x : Ctx) : (s.setCtx n x).deferred = s.deferred := rfl
@[simp] theorem State.setCtx_mainsPart (n : Nat) (x : Ctx) : (s.setCtx n x).mainsPart = s.mainsPart := rfl
@[simp] theorem State.setCtx_feedPart (n : Nat) (x : Ctx) : (s.setCtx n x).feedPart = s.feedPart := rfl
@[simp] theorem State.setCtx_noPart (n : Nat) (x : Ctx) : (s.setCtx n x).noPart = s.noPart := rfl
@[simp] theorem State.setCtx_watch (n : Nat) (x : Ctx) : (s.setCtx n x).watch = s.watch := rfl
@[simp] theorem State.setCtx_tele (n : Nat) (x : Ctx) : (s.setCtx n x).tele = s.tele := rfl
@[simp] theorem State.setCtx_teleEnd (n : Nat) (x : Ctx) : (s.setCtx n x).teleEnd = s.teleEnd := rfl
@[simp] theorem State.setCtx_shorted (n : Nat) (x : Ctx) : (s.setCtx n x).shorted = s.shorted := rfl
@[simp] theorem State.setCtx_captures (n : Nat) (x : Ctx) : (s.setCtx n x).captures = s.captures := rfl
@[simp] theorem State.setCtx_journal (n : Nat) (x : Ctx) : (s.setCtx n x).journal = s.journal := rfl
@[simp] theorem State.setCtx_storage (n : Nat) (x : Ctx) : (s.setCtx n x).storage = s.storage := rfl
@[simp] theorem State.setCtx_always (n : Nat) (x : Ctx) : (s.setCtx n x).always = s.always := rfl
@[simp] theorem State.setCtx_run (n : Nat) (x : Ctx) : (s.setCtx n x).run = s.run := rfl
@[simp] theorem State.setCtx_twin (n : Nat) (x : Ctx) : (s.setCtx n x).twin = s.twin := rfl
@[simp] theorem State.setCtx_ring (n : Nat) (x : Ctx) : (s.setCtx n x).ring = s.ring := rfl
@[simp] theorem State.setCtx_access (n : Nat) (x : Ctx) : (s.setCtx n x).access = s.access := rfl
@[simp] theorem State.setCtx_twinState (n : Nat) (x : Ctx) : (s.setCtx n x).twinState = s.twinState := rfl
@[simp] theorem State.setCtx_inReset (n : Nat) (x : Ctx) : (s.setCtx n x).inReset = s.inReset := rfl
@[simp] theorem State.setCtx_seqFloor (n : Nat) (x : Ctx) : (s.setCtx n x).seqFloor = s.seqFloor := rfl
@[simp] theorem State.setCtx_chipSeq (n : Nat) (x : Ctx) : (s.setCtx n x).chipSeq = s.chipSeq := rfl
@[simp] theorem State.setCtx_regionSeq (n : Nat) (x : Ctx) : (s.setCtx n x).regionSeq = s.regionSeq := rfl
@[simp] theorem State.setCtx_accepting (n : Nat) (x : Ctx) : (s.setCtx n x).accepting = s.accepting := rfl
@[simp] theorem State.setCtx_engineSlot (n : Nat) (x : Ctx) : (s.setCtx n x).engineSlot = s.engineSlot := rfl
@[simp] theorem State.setCtx_feedMarks (n : Nat) (x : Ctx) : (s.setCtx n x).feedMarks = s.feedMarks := rfl
@[simp] theorem State.setCtx_stepAt (n : Nat) (x : Ctx) : (s.setCtx n x).stepAt = s.stepAt := rfl

/-! ### setGroup -/

@[simp] theorem State.setGroup_now (n : Nat) (x : Group) : (s.setGroup n x).now = s.now := rfl
@[simp] theorem State.setGroup_freeBase (n : Nat) (x : Group) : (s.setGroup n x).freeBase = s.freeBase := rfl
@[simp] theorem State.setGroup_turnDone (n : Nat) (x : Group) : (s.setGroup n x).turnDone = s.turnDone := rfl
@[simp] theorem State.setGroup_pending (n : Nat) (x : Group) : (s.setGroup n x).pending = s.pending := rfl
@[simp] theorem State.setGroup_obj (n : Nat) (x : Group) : (s.setGroup n x).obj = s.obj := rfl
@[simp] theorem State.setGroup_lastResult (n : Nat) (x : Group) : (s.setGroup n x).lastResult = s.lastResult := rfl
@[simp] theorem State.setGroup_lastRead (n : Nat) (x : Group) : (s.setGroup n x).lastRead = s.lastRead := rfl
@[simp] theorem State.setGroup_freeCount (n : Nat) (x : Group) : (s.setGroup n x).freeCount = s.freeCount := rfl
@[simp] theorem State.setGroup_faults (n : Nat) (x : Group) : (s.setGroup n x).faults = s.faults := rfl
@[simp] theorem State.setGroup_inputs (n : Nat) (x : Group) : (s.setGroup n x).inputs = s.inputs := rfl
@[simp] theorem State.setGroup_acceptAt (n : Nat) (x : Group) : (s.setGroup n x).acceptAt = s.acceptAt := rfl
@[simp] theorem State.setGroup_limited (n : Nat) (x : Group) : (s.setGroup n x).limited = s.limited := rfl
@[simp] theorem State.setGroup_cells (n : Nat) (x : Group) : (s.setGroup n x).cells = s.cells := rfl
@[simp] theorem State.setGroup_ctxs (n : Nat) (x : Group) : (s.setGroup n x).ctxs = s.ctxs := rfl
@[simp] theorem State.setGroup_engineBusy (n : Nat) (x : Group) : (s.setGroup n x).engineBusy = s.engineBusy := rfl
@[simp] theorem State.setGroup_groups (n : Nat) (x : Group) : (s.setGroup n x).groups = bset s.groups n x := rfl
@[simp] theorem State.setGroup_pools (n : Nat) (x : Group) : (s.setGroup n x).pools = s.pools := rfl
@[simp] theorem State.setGroup_volts (n : Nat) (x : Group) : (s.setGroup n x).volts = s.volts := rfl
@[simp] theorem State.setGroup_acs (n : Nat) (x : Group) : (s.setGroup n x).acs = s.acs := rfl
@[simp] theorem State.setGroup_bridge (n : Nat) (x : Group) : (s.setGroup n x).bridge = s.bridge := rfl
@[simp] theorem State.setGroup_feeds (n : Nat) (x : Group) : (s.setGroup n x).feeds = s.feeds := rfl
@[simp] theorem State.setGroup_selector (n : Nat) (x : Group) : (s.setGroup n x).selector = s.selector := rfl
@[simp] theorem State.setGroup_seqs (n : Nat) (x : Group) : (s.setGroup n x).seqs = s.seqs := rfl
@[simp] theorem State.setGroup_mains (n : Nat) (x : Group) : (s.setGroup n x).mains = s.mains := rfl
@[simp] theorem State.setGroup_frame (n : Nat) (x : Group) : (s.setGroup n x).frame = s.frame := rfl
@[simp] theorem State.setGroup_loadMap (n : Nat) (x : Group) : (s.setGroup n x).loadMap = s.loadMap := rfl
@[simp] theorem State.setGroup_moves (n : Nat) (x : Group) : (s.setGroup n x).moves = s.moves := rfl
@[simp] theorem State.setGroup_strings (n : Nat) (x : Group) : (s.setGroup n x).strings = s.strings := rfl
@[simp] theorem State.setGroup_runSavedAt (n : Nat) (x : Group) : (s.setGroup n x).runSavedAt = s.runSavedAt := rfl
@[simp] theorem State.setGroup_tables (n : Nat) (x : Group) : (s.setGroup n x).tables = s.tables := rfl
@[simp] theorem State.setGroup_tableClass (n : Nat) (x : Group) : (s.setGroup n x).tableClass = s.tableClass := rfl
@[simp] theorem State.setGroup_auth (n : Nat) (x : Group) : (s.setGroup n x).auth = s.auth := rfl
@[simp] theorem State.setGroup_temps (n : Nat) (x : Group) : (s.setGroup n x).temps = s.temps := rfl
@[simp] theorem State.setGroup_sinks (n : Nat) (x : Group) : (s.setGroup n x).sinks = s.sinks := rfl
@[simp] theorem State.setGroup_drivers (n : Nat) (x : Group) : (s.setGroup n x).drivers = s.drivers := rfl
@[simp] theorem State.setGroup_dies (n : Nat) (x : Group) : (s.setGroup n x).dies = s.dies := rfl
@[simp] theorem State.setGroup_progSlots (n : Nat) (x : Group) : (s.setGroup n x).progSlots = s.progSlots := rfl
@[simp] theorem State.setGroup_deferred (n : Nat) (x : Group) : (s.setGroup n x).deferred = s.deferred := rfl
@[simp] theorem State.setGroup_mainsPart (n : Nat) (x : Group) : (s.setGroup n x).mainsPart = s.mainsPart := rfl
@[simp] theorem State.setGroup_feedPart (n : Nat) (x : Group) : (s.setGroup n x).feedPart = s.feedPart := rfl
@[simp] theorem State.setGroup_noPart (n : Nat) (x : Group) : (s.setGroup n x).noPart = s.noPart := rfl
@[simp] theorem State.setGroup_watch (n : Nat) (x : Group) : (s.setGroup n x).watch = s.watch := rfl
@[simp] theorem State.setGroup_tele (n : Nat) (x : Group) : (s.setGroup n x).tele = s.tele := rfl
@[simp] theorem State.setGroup_teleEnd (n : Nat) (x : Group) : (s.setGroup n x).teleEnd = s.teleEnd := rfl
@[simp] theorem State.setGroup_shorted (n : Nat) (x : Group) : (s.setGroup n x).shorted = s.shorted := rfl
@[simp] theorem State.setGroup_captures (n : Nat) (x : Group) : (s.setGroup n x).captures = s.captures := rfl
@[simp] theorem State.setGroup_journal (n : Nat) (x : Group) : (s.setGroup n x).journal = s.journal := rfl
@[simp] theorem State.setGroup_storage (n : Nat) (x : Group) : (s.setGroup n x).storage = s.storage := rfl
@[simp] theorem State.setGroup_always (n : Nat) (x : Group) : (s.setGroup n x).always = s.always := rfl
@[simp] theorem State.setGroup_run (n : Nat) (x : Group) : (s.setGroup n x).run = s.run := rfl
@[simp] theorem State.setGroup_twin (n : Nat) (x : Group) : (s.setGroup n x).twin = s.twin := rfl
@[simp] theorem State.setGroup_ring (n : Nat) (x : Group) : (s.setGroup n x).ring = s.ring := rfl
@[simp] theorem State.setGroup_access (n : Nat) (x : Group) : (s.setGroup n x).access = s.access := rfl
@[simp] theorem State.setGroup_twinState (n : Nat) (x : Group) : (s.setGroup n x).twinState = s.twinState := rfl
@[simp] theorem State.setGroup_inReset (n : Nat) (x : Group) : (s.setGroup n x).inReset = s.inReset := rfl
@[simp] theorem State.setGroup_seqFloor (n : Nat) (x : Group) : (s.setGroup n x).seqFloor = s.seqFloor := rfl
@[simp] theorem State.setGroup_chipSeq (n : Nat) (x : Group) : (s.setGroup n x).chipSeq = s.chipSeq := rfl
@[simp] theorem State.setGroup_regionSeq (n : Nat) (x : Group) : (s.setGroup n x).regionSeq = s.regionSeq := rfl
@[simp] theorem State.setGroup_accepting (n : Nat) (x : Group) : (s.setGroup n x).accepting = s.accepting := rfl
@[simp] theorem State.setGroup_engineSlot (n : Nat) (x : Group) : (s.setGroup n x).engineSlot = s.engineSlot := rfl
@[simp] theorem State.setGroup_feedMarks (n : Nat) (x : Group) : (s.setGroup n x).feedMarks = s.feedMarks := rfl
@[simp] theorem State.setGroup_stepAt (n : Nat) (x : Group) : (s.setGroup n x).stepAt = s.stepAt := rfl

/-! ### setPool -/

@[simp] theorem State.setPool_now (n : Nat) (x : Pool) : (s.setPool n x).now = s.now := rfl
@[simp] theorem State.setPool_freeBase (n : Nat) (x : Pool) : (s.setPool n x).freeBase = s.freeBase := rfl
@[simp] theorem State.setPool_turnDone (n : Nat) (x : Pool) : (s.setPool n x).turnDone = s.turnDone := rfl
@[simp] theorem State.setPool_pending (n : Nat) (x : Pool) : (s.setPool n x).pending = s.pending := rfl
@[simp] theorem State.setPool_obj (n : Nat) (x : Pool) : (s.setPool n x).obj = s.obj := rfl
@[simp] theorem State.setPool_lastResult (n : Nat) (x : Pool) : (s.setPool n x).lastResult = s.lastResult := rfl
@[simp] theorem State.setPool_lastRead (n : Nat) (x : Pool) : (s.setPool n x).lastRead = s.lastRead := rfl
@[simp] theorem State.setPool_freeCount (n : Nat) (x : Pool) : (s.setPool n x).freeCount = s.freeCount := rfl
@[simp] theorem State.setPool_faults (n : Nat) (x : Pool) : (s.setPool n x).faults = s.faults := rfl
@[simp] theorem State.setPool_inputs (n : Nat) (x : Pool) : (s.setPool n x).inputs = s.inputs := rfl
@[simp] theorem State.setPool_acceptAt (n : Nat) (x : Pool) : (s.setPool n x).acceptAt = s.acceptAt := rfl
@[simp] theorem State.setPool_limited (n : Nat) (x : Pool) : (s.setPool n x).limited = s.limited := rfl
@[simp] theorem State.setPool_cells (n : Nat) (x : Pool) : (s.setPool n x).cells = s.cells := rfl
@[simp] theorem State.setPool_ctxs (n : Nat) (x : Pool) : (s.setPool n x).ctxs = s.ctxs := rfl
@[simp] theorem State.setPool_engineBusy (n : Nat) (x : Pool) : (s.setPool n x).engineBusy = s.engineBusy := rfl
@[simp] theorem State.setPool_groups (n : Nat) (x : Pool) : (s.setPool n x).groups = s.groups := rfl
@[simp] theorem State.setPool_pools (n : Nat) (x : Pool) : (s.setPool n x).pools = bset s.pools n x := rfl
@[simp] theorem State.setPool_volts (n : Nat) (x : Pool) : (s.setPool n x).volts = s.volts := rfl
@[simp] theorem State.setPool_acs (n : Nat) (x : Pool) : (s.setPool n x).acs = s.acs := rfl
@[simp] theorem State.setPool_bridge (n : Nat) (x : Pool) : (s.setPool n x).bridge = s.bridge := rfl
@[simp] theorem State.setPool_feeds (n : Nat) (x : Pool) : (s.setPool n x).feeds = s.feeds := rfl
@[simp] theorem State.setPool_selector (n : Nat) (x : Pool) : (s.setPool n x).selector = s.selector := rfl
@[simp] theorem State.setPool_seqs (n : Nat) (x : Pool) : (s.setPool n x).seqs = s.seqs := rfl
@[simp] theorem State.setPool_mains (n : Nat) (x : Pool) : (s.setPool n x).mains = s.mains := rfl
@[simp] theorem State.setPool_frame (n : Nat) (x : Pool) : (s.setPool n x).frame = s.frame := rfl
@[simp] theorem State.setPool_loadMap (n : Nat) (x : Pool) : (s.setPool n x).loadMap = s.loadMap := rfl
@[simp] theorem State.setPool_moves (n : Nat) (x : Pool) : (s.setPool n x).moves = s.moves := rfl
@[simp] theorem State.setPool_strings (n : Nat) (x : Pool) : (s.setPool n x).strings = s.strings := rfl
@[simp] theorem State.setPool_runSavedAt (n : Nat) (x : Pool) : (s.setPool n x).runSavedAt = s.runSavedAt := rfl
@[simp] theorem State.setPool_tables (n : Nat) (x : Pool) : (s.setPool n x).tables = s.tables := rfl
@[simp] theorem State.setPool_tableClass (n : Nat) (x : Pool) : (s.setPool n x).tableClass = s.tableClass := rfl
@[simp] theorem State.setPool_auth (n : Nat) (x : Pool) : (s.setPool n x).auth = s.auth := rfl
@[simp] theorem State.setPool_temps (n : Nat) (x : Pool) : (s.setPool n x).temps = s.temps := rfl
@[simp] theorem State.setPool_sinks (n : Nat) (x : Pool) : (s.setPool n x).sinks = s.sinks := rfl
@[simp] theorem State.setPool_drivers (n : Nat) (x : Pool) : (s.setPool n x).drivers = s.drivers := rfl
@[simp] theorem State.setPool_dies (n : Nat) (x : Pool) : (s.setPool n x).dies = s.dies := rfl
@[simp] theorem State.setPool_progSlots (n : Nat) (x : Pool) : (s.setPool n x).progSlots = s.progSlots := rfl
@[simp] theorem State.setPool_deferred (n : Nat) (x : Pool) : (s.setPool n x).deferred = s.deferred := rfl
@[simp] theorem State.setPool_mainsPart (n : Nat) (x : Pool) : (s.setPool n x).mainsPart = s.mainsPart := rfl
@[simp] theorem State.setPool_feedPart (n : Nat) (x : Pool) : (s.setPool n x).feedPart = s.feedPart := rfl
@[simp] theorem State.setPool_noPart (n : Nat) (x : Pool) : (s.setPool n x).noPart = s.noPart := rfl
@[simp] theorem State.setPool_watch (n : Nat) (x : Pool) : (s.setPool n x).watch = s.watch := rfl
@[simp] theorem State.setPool_tele (n : Nat) (x : Pool) : (s.setPool n x).tele = s.tele := rfl
@[simp] theorem State.setPool_teleEnd (n : Nat) (x : Pool) : (s.setPool n x).teleEnd = s.teleEnd := rfl
@[simp] theorem State.setPool_shorted (n : Nat) (x : Pool) : (s.setPool n x).shorted = s.shorted := rfl
@[simp] theorem State.setPool_captures (n : Nat) (x : Pool) : (s.setPool n x).captures = s.captures := rfl
@[simp] theorem State.setPool_journal (n : Nat) (x : Pool) : (s.setPool n x).journal = s.journal := rfl
@[simp] theorem State.setPool_storage (n : Nat) (x : Pool) : (s.setPool n x).storage = s.storage := rfl
@[simp] theorem State.setPool_always (n : Nat) (x : Pool) : (s.setPool n x).always = s.always := rfl
@[simp] theorem State.setPool_run (n : Nat) (x : Pool) : (s.setPool n x).run = s.run := rfl
@[simp] theorem State.setPool_twin (n : Nat) (x : Pool) : (s.setPool n x).twin = s.twin := rfl
@[simp] theorem State.setPool_ring (n : Nat) (x : Pool) : (s.setPool n x).ring = s.ring := rfl
@[simp] theorem State.setPool_access (n : Nat) (x : Pool) : (s.setPool n x).access = s.access := rfl
@[simp] theorem State.setPool_twinState (n : Nat) (x : Pool) : (s.setPool n x).twinState = s.twinState := rfl
@[simp] theorem State.setPool_inReset (n : Nat) (x : Pool) : (s.setPool n x).inReset = s.inReset := rfl
@[simp] theorem State.setPool_seqFloor (n : Nat) (x : Pool) : (s.setPool n x).seqFloor = s.seqFloor := rfl
@[simp] theorem State.setPool_chipSeq (n : Nat) (x : Pool) : (s.setPool n x).chipSeq = s.chipSeq := rfl
@[simp] theorem State.setPool_regionSeq (n : Nat) (x : Pool) : (s.setPool n x).regionSeq = s.regionSeq := rfl
@[simp] theorem State.setPool_accepting (n : Nat) (x : Pool) : (s.setPool n x).accepting = s.accepting := rfl
@[simp] theorem State.setPool_engineSlot (n : Nat) (x : Pool) : (s.setPool n x).engineSlot = s.engineSlot := rfl
@[simp] theorem State.setPool_feedMarks (n : Nat) (x : Pool) : (s.setPool n x).feedMarks = s.feedMarks := rfl
@[simp] theorem State.setPool_stepAt (n : Nat) (x : Pool) : (s.setPool n x).stepAt = s.stepAt := rfl

/-! ### setFault -/

@[simp] theorem State.setFault_now (n : Elem) (x : FaultRec) : (s.setFault n x).now = s.now := rfl
@[simp] theorem State.setFault_freeBase (n : Elem) (x : FaultRec) : (s.setFault n x).freeBase = s.freeBase := rfl
@[simp] theorem State.setFault_turnDone (n : Elem) (x : FaultRec) : (s.setFault n x).turnDone = s.turnDone := rfl
@[simp] theorem State.setFault_pending (n : Elem) (x : FaultRec) : (s.setFault n x).pending = s.pending := rfl
@[simp] theorem State.setFault_obj (n : Elem) (x : FaultRec) : (s.setFault n x).obj = s.obj := rfl
@[simp] theorem State.setFault_lastResult (n : Elem) (x : FaultRec) : (s.setFault n x).lastResult = s.lastResult := rfl
@[simp] theorem State.setFault_lastRead (n : Elem) (x : FaultRec) : (s.setFault n x).lastRead = s.lastRead := rfl
@[simp] theorem State.setFault_freeCount (n : Elem) (x : FaultRec) : (s.setFault n x).freeCount = s.freeCount := rfl
@[simp] theorem State.setFault_faults (n : Elem) (x : FaultRec) : (s.setFault n x).faults = bset s.faults n x := rfl
@[simp] theorem State.setFault_inputs (n : Elem) (x : FaultRec) : (s.setFault n x).inputs = s.inputs := rfl
@[simp] theorem State.setFault_acceptAt (n : Elem) (x : FaultRec) : (s.setFault n x).acceptAt = s.acceptAt := rfl
@[simp] theorem State.setFault_limited (n : Elem) (x : FaultRec) : (s.setFault n x).limited = s.limited := rfl
@[simp] theorem State.setFault_cells (n : Elem) (x : FaultRec) : (s.setFault n x).cells = s.cells := rfl
@[simp] theorem State.setFault_ctxs (n : Elem) (x : FaultRec) : (s.setFault n x).ctxs = s.ctxs := rfl
@[simp] theorem State.setFault_engineBusy (n : Elem) (x : FaultRec) : (s.setFault n x).engineBusy = s.engineBusy := rfl
@[simp] theorem State.setFault_groups (n : Elem) (x : FaultRec) : (s.setFault n x).groups = s.groups := rfl
@[simp] theorem State.setFault_pools (n : Elem) (x : FaultRec) : (s.setFault n x).pools = s.pools := rfl
@[simp] theorem State.setFault_volts (n : Elem) (x : FaultRec) : (s.setFault n x).volts = s.volts := rfl
@[simp] theorem State.setFault_acs (n : Elem) (x : FaultRec) : (s.setFault n x).acs = s.acs := rfl
@[simp] theorem State.setFault_bridge (n : Elem) (x : FaultRec) : (s.setFault n x).bridge = s.bridge := rfl
@[simp] theorem State.setFault_feeds (n : Elem) (x : FaultRec) : (s.setFault n x).feeds = s.feeds := rfl
@[simp] theorem State.setFault_selector (n : Elem) (x : FaultRec) : (s.setFault n x).selector = s.selector := rfl
@[simp] theorem State.setFault_seqs (n : Elem) (x : FaultRec) : (s.setFault n x).seqs = s.seqs := rfl
@[simp] theorem State.setFault_mains (n : Elem) (x : FaultRec) : (s.setFault n x).mains = s.mains := rfl
@[simp] theorem State.setFault_frame (n : Elem) (x : FaultRec) : (s.setFault n x).frame = s.frame := rfl
@[simp] theorem State.setFault_loadMap (n : Elem) (x : FaultRec) : (s.setFault n x).loadMap = s.loadMap := rfl
@[simp] theorem State.setFault_moves (n : Elem) (x : FaultRec) : (s.setFault n x).moves = s.moves := rfl
@[simp] theorem State.setFault_strings (n : Elem) (x : FaultRec) : (s.setFault n x).strings = s.strings := rfl
@[simp] theorem State.setFault_runSavedAt (n : Elem) (x : FaultRec) : (s.setFault n x).runSavedAt = s.runSavedAt := rfl
@[simp] theorem State.setFault_tables (n : Elem) (x : FaultRec) : (s.setFault n x).tables = s.tables := rfl
@[simp] theorem State.setFault_tableClass (n : Elem) (x : FaultRec) : (s.setFault n x).tableClass = s.tableClass := rfl
@[simp] theorem State.setFault_auth (n : Elem) (x : FaultRec) : (s.setFault n x).auth = s.auth := rfl
@[simp] theorem State.setFault_temps (n : Elem) (x : FaultRec) : (s.setFault n x).temps = s.temps := rfl
@[simp] theorem State.setFault_sinks (n : Elem) (x : FaultRec) : (s.setFault n x).sinks = s.sinks := rfl
@[simp] theorem State.setFault_drivers (n : Elem) (x : FaultRec) : (s.setFault n x).drivers = s.drivers := rfl
@[simp] theorem State.setFault_dies (n : Elem) (x : FaultRec) : (s.setFault n x).dies = s.dies := rfl
@[simp] theorem State.setFault_progSlots (n : Elem) (x : FaultRec) : (s.setFault n x).progSlots = s.progSlots := rfl
@[simp] theorem State.setFault_deferred (n : Elem) (x : FaultRec) : (s.setFault n x).deferred = s.deferred := rfl
@[simp] theorem State.setFault_mainsPart (n : Elem) (x : FaultRec) : (s.setFault n x).mainsPart = s.mainsPart := rfl
@[simp] theorem State.setFault_feedPart (n : Elem) (x : FaultRec) : (s.setFault n x).feedPart = s.feedPart := rfl
@[simp] theorem State.setFault_noPart (n : Elem) (x : FaultRec) : (s.setFault n x).noPart = s.noPart := rfl
@[simp] theorem State.setFault_watch (n : Elem) (x : FaultRec) : (s.setFault n x).watch = s.watch := rfl
@[simp] theorem State.setFault_tele (n : Elem) (x : FaultRec) : (s.setFault n x).tele = s.tele := rfl
@[simp] theorem State.setFault_teleEnd (n : Elem) (x : FaultRec) : (s.setFault n x).teleEnd = s.teleEnd := rfl
@[simp] theorem State.setFault_shorted (n : Elem) (x : FaultRec) : (s.setFault n x).shorted = s.shorted := rfl
@[simp] theorem State.setFault_captures (n : Elem) (x : FaultRec) : (s.setFault n x).captures = s.captures := rfl
@[simp] theorem State.setFault_journal (n : Elem) (x : FaultRec) : (s.setFault n x).journal = s.journal := rfl
@[simp] theorem State.setFault_storage (n : Elem) (x : FaultRec) : (s.setFault n x).storage = s.storage := rfl
@[simp] theorem State.setFault_always (n : Elem) (x : FaultRec) : (s.setFault n x).always = s.always := rfl
@[simp] theorem State.setFault_run (n : Elem) (x : FaultRec) : (s.setFault n x).run = s.run := rfl
@[simp] theorem State.setFault_twin (n : Elem) (x : FaultRec) : (s.setFault n x).twin = s.twin := rfl
@[simp] theorem State.setFault_ring (n : Elem) (x : FaultRec) : (s.setFault n x).ring = s.ring := rfl
@[simp] theorem State.setFault_access (n : Elem) (x : FaultRec) : (s.setFault n x).access = s.access := rfl
@[simp] theorem State.setFault_twinState (n : Elem) (x : FaultRec) : (s.setFault n x).twinState = s.twinState := rfl
@[simp] theorem State.setFault_inReset (n : Elem) (x : FaultRec) : (s.setFault n x).inReset = s.inReset := rfl
@[simp] theorem State.setFault_seqFloor (n : Elem) (x : FaultRec) : (s.setFault n x).seqFloor = s.seqFloor := rfl
@[simp] theorem State.setFault_chipSeq (n : Elem) (x : FaultRec) : (s.setFault n x).chipSeq = s.chipSeq := rfl
@[simp] theorem State.setFault_regionSeq (n : Elem) (x : FaultRec) : (s.setFault n x).regionSeq = s.regionSeq := rfl
@[simp] theorem State.setFault_accepting (n : Elem) (x : FaultRec) : (s.setFault n x).accepting = s.accepting := rfl
@[simp] theorem State.setFault_engineSlot (n : Elem) (x : FaultRec) : (s.setFault n x).engineSlot = s.engineSlot := rfl
@[simp] theorem State.setFault_feedMarks (n : Elem) (x : FaultRec) : (s.setFault n x).feedMarks = s.feedMarks := rfl
@[simp] theorem State.setFault_stepAt (n : Elem) (x : FaultRec) : (s.setFault n x).stepAt = s.stepAt := rfl

/-! ### setInput -/

@[simp] theorem State.setInput_now (n : ArbInput) (x : InQueue) : (s.setInput n x).now = s.now := rfl
@[simp] theorem State.setInput_freeBase (n : ArbInput) (x : InQueue) : (s.setInput n x).freeBase = s.freeBase := rfl
@[simp] theorem State.setInput_turnDone (n : ArbInput) (x : InQueue) : (s.setInput n x).turnDone = s.turnDone := rfl
@[simp] theorem State.setInput_pending (n : ArbInput) (x : InQueue) : (s.setInput n x).pending = s.pending := rfl
@[simp] theorem State.setInput_obj (n : ArbInput) (x : InQueue) : (s.setInput n x).obj = s.obj := rfl
@[simp] theorem State.setInput_lastResult (n : ArbInput) (x : InQueue) : (s.setInput n x).lastResult = s.lastResult := rfl
@[simp] theorem State.setInput_lastRead (n : ArbInput) (x : InQueue) : (s.setInput n x).lastRead = s.lastRead := rfl
@[simp] theorem State.setInput_freeCount (n : ArbInput) (x : InQueue) : (s.setInput n x).freeCount = s.freeCount := rfl
@[simp] theorem State.setInput_faults (n : ArbInput) (x : InQueue) : (s.setInput n x).faults = s.faults := rfl
@[simp] theorem State.setInput_inputs (n : ArbInput) (x : InQueue) : (s.setInput n x).inputs = bset s.inputs n x := rfl
@[simp] theorem State.setInput_acceptAt (n : ArbInput) (x : InQueue) : (s.setInput n x).acceptAt = s.acceptAt := rfl
@[simp] theorem State.setInput_limited (n : ArbInput) (x : InQueue) : (s.setInput n x).limited = s.limited := rfl
@[simp] theorem State.setInput_cells (n : ArbInput) (x : InQueue) : (s.setInput n x).cells = s.cells := rfl
@[simp] theorem State.setInput_ctxs (n : ArbInput) (x : InQueue) : (s.setInput n x).ctxs = s.ctxs := rfl
@[simp] theorem State.setInput_engineBusy (n : ArbInput) (x : InQueue) : (s.setInput n x).engineBusy = s.engineBusy := rfl
@[simp] theorem State.setInput_groups (n : ArbInput) (x : InQueue) : (s.setInput n x).groups = s.groups := rfl
@[simp] theorem State.setInput_pools (n : ArbInput) (x : InQueue) : (s.setInput n x).pools = s.pools := rfl
@[simp] theorem State.setInput_volts (n : ArbInput) (x : InQueue) : (s.setInput n x).volts = s.volts := rfl
@[simp] theorem State.setInput_acs (n : ArbInput) (x : InQueue) : (s.setInput n x).acs = s.acs := rfl
@[simp] theorem State.setInput_bridge (n : ArbInput) (x : InQueue) : (s.setInput n x).bridge = s.bridge := rfl
@[simp] theorem State.setInput_feeds (n : ArbInput) (x : InQueue) : (s.setInput n x).feeds = s.feeds := rfl
@[simp] theorem State.setInput_selector (n : ArbInput) (x : InQueue) : (s.setInput n x).selector = s.selector := rfl
@[simp] theorem State.setInput_seqs (n : ArbInput) (x : InQueue) : (s.setInput n x).seqs = s.seqs := rfl
@[simp] theorem State.setInput_mains (n : ArbInput) (x : InQueue) : (s.setInput n x).mains = s.mains := rfl
@[simp] theorem State.setInput_frame (n : ArbInput) (x : InQueue) : (s.setInput n x).frame = s.frame := rfl
@[simp] theorem State.setInput_loadMap (n : ArbInput) (x : InQueue) : (s.setInput n x).loadMap = s.loadMap := rfl
@[simp] theorem State.setInput_moves (n : ArbInput) (x : InQueue) : (s.setInput n x).moves = s.moves := rfl
@[simp] theorem State.setInput_strings (n : ArbInput) (x : InQueue) : (s.setInput n x).strings = s.strings := rfl
@[simp] theorem State.setInput_runSavedAt (n : ArbInput) (x : InQueue) : (s.setInput n x).runSavedAt = s.runSavedAt := rfl
@[simp] theorem State.setInput_tables (n : ArbInput) (x : InQueue) : (s.setInput n x).tables = s.tables := rfl
@[simp] theorem State.setInput_tableClass (n : ArbInput) (x : InQueue) : (s.setInput n x).tableClass = s.tableClass := rfl
@[simp] theorem State.setInput_auth (n : ArbInput) (x : InQueue) : (s.setInput n x).auth = s.auth := rfl
@[simp] theorem State.setInput_temps (n : ArbInput) (x : InQueue) : (s.setInput n x).temps = s.temps := rfl
@[simp] theorem State.setInput_sinks (n : ArbInput) (x : InQueue) : (s.setInput n x).sinks = s.sinks := rfl
@[simp] theorem State.setInput_drivers (n : ArbInput) (x : InQueue) : (s.setInput n x).drivers = s.drivers := rfl
@[simp] theorem State.setInput_dies (n : ArbInput) (x : InQueue) : (s.setInput n x).dies = s.dies := rfl
@[simp] theorem State.setInput_progSlots (n : ArbInput) (x : InQueue) : (s.setInput n x).progSlots = s.progSlots := rfl
@[simp] theorem State.setInput_deferred (n : ArbInput) (x : InQueue) : (s.setInput n x).deferred = s.deferred := rfl
@[simp] theorem State.setInput_mainsPart (n : ArbInput) (x : InQueue) : (s.setInput n x).mainsPart = s.mainsPart := rfl
@[simp] theorem State.setInput_feedPart (n : ArbInput) (x : InQueue) : (s.setInput n x).feedPart = s.feedPart := rfl
@[simp] theorem State.setInput_noPart (n : ArbInput) (x : InQueue) : (s.setInput n x).noPart = s.noPart := rfl
@[simp] theorem State.setInput_watch (n : ArbInput) (x : InQueue) : (s.setInput n x).watch = s.watch := rfl
@[simp] theorem State.setInput_tele (n : ArbInput) (x : InQueue) : (s.setInput n x).tele = s.tele := rfl
@[simp] theorem State.setInput_teleEnd (n : ArbInput) (x : InQueue) : (s.setInput n x).teleEnd = s.teleEnd := rfl
@[simp] theorem State.setInput_shorted (n : ArbInput) (x : InQueue) : (s.setInput n x).shorted = s.shorted := rfl
@[simp] theorem State.setInput_captures (n : ArbInput) (x : InQueue) : (s.setInput n x).captures = s.captures := rfl
@[simp] theorem State.setInput_journal (n : ArbInput) (x : InQueue) : (s.setInput n x).journal = s.journal := rfl
@[simp] theorem State.setInput_storage (n : ArbInput) (x : InQueue) : (s.setInput n x).storage = s.storage := rfl
@[simp] theorem State.setInput_always (n : ArbInput) (x : InQueue) : (s.setInput n x).always = s.always := rfl
@[simp] theorem State.setInput_run (n : ArbInput) (x : InQueue) : (s.setInput n x).run = s.run := rfl
@[simp] theorem State.setInput_twin (n : ArbInput) (x : InQueue) : (s.setInput n x).twin = s.twin := rfl
@[simp] theorem State.setInput_ring (n : ArbInput) (x : InQueue) : (s.setInput n x).ring = s.ring := rfl
@[simp] theorem State.setInput_access (n : ArbInput) (x : InQueue) : (s.setInput n x).access = s.access := rfl
@[simp] theorem State.setInput_twinState (n : ArbInput) (x : InQueue) : (s.setInput n x).twinState = s.twinState := rfl
@[simp] theorem State.setInput_inReset (n : ArbInput) (x : InQueue) : (s.setInput n x).inReset = s.inReset := rfl
@[simp] theorem State.setInput_seqFloor (n : ArbInput) (x : InQueue) : (s.setInput n x).seqFloor = s.seqFloor := rfl
@[simp] theorem State.setInput_chipSeq (n : ArbInput) (x : InQueue) : (s.setInput n x).chipSeq = s.chipSeq := rfl
@[simp] theorem State.setInput_regionSeq (n : ArbInput) (x : InQueue) : (s.setInput n x).regionSeq = s.regionSeq := rfl
@[simp] theorem State.setInput_accepting (n : ArbInput) (x : InQueue) : (s.setInput n x).accepting = s.accepting := rfl
@[simp] theorem State.setInput_engineSlot (n : ArbInput) (x : InQueue) : (s.setInput n x).engineSlot = s.engineSlot := rfl
@[simp] theorem State.setInput_feedMarks (n : ArbInput) (x : InQueue) : (s.setInput n x).feedMarks = s.feedMarks := rfl
@[simp] theorem State.setInput_stepAt (n : ArbInput) (x : InQueue) : (s.setInput n x).stepAt = s.stepAt := rfl

/-! ### setAuth -/

@[simp] theorem State.setAuth_now (n : Nat) (x : AuthRec) : (s.setAuth n x).now = s.now := rfl
@[simp] theorem State.setAuth_freeBase (n : Nat) (x : AuthRec) : (s.setAuth n x).freeBase = s.freeBase := rfl
@[simp] theorem State.setAuth_turnDone (n : Nat) (x : AuthRec) : (s.setAuth n x).turnDone = s.turnDone := rfl
@[simp] theorem State.setAuth_pending (n : Nat) (x : AuthRec) : (s.setAuth n x).pending = s.pending := rfl
@[simp] theorem State.setAuth_obj (n : Nat) (x : AuthRec) : (s.setAuth n x).obj = s.obj := rfl
@[simp] theorem State.setAuth_lastResult (n : Nat) (x : AuthRec) : (s.setAuth n x).lastResult = s.lastResult := rfl
@[simp] theorem State.setAuth_lastRead (n : Nat) (x : AuthRec) : (s.setAuth n x).lastRead = s.lastRead := rfl
@[simp] theorem State.setAuth_freeCount (n : Nat) (x : AuthRec) : (s.setAuth n x).freeCount = s.freeCount := rfl
@[simp] theorem State.setAuth_faults (n : Nat) (x : AuthRec) : (s.setAuth n x).faults = s.faults := rfl
@[simp] theorem State.setAuth_inputs (n : Nat) (x : AuthRec) : (s.setAuth n x).inputs = s.inputs := rfl
@[simp] theorem State.setAuth_acceptAt (n : Nat) (x : AuthRec) : (s.setAuth n x).acceptAt = s.acceptAt := rfl
@[simp] theorem State.setAuth_limited (n : Nat) (x : AuthRec) : (s.setAuth n x).limited = s.limited := rfl
@[simp] theorem State.setAuth_cells (n : Nat) (x : AuthRec) : (s.setAuth n x).cells = s.cells := rfl
@[simp] theorem State.setAuth_ctxs (n : Nat) (x : AuthRec) : (s.setAuth n x).ctxs = s.ctxs := rfl
@[simp] theorem State.setAuth_engineBusy (n : Nat) (x : AuthRec) : (s.setAuth n x).engineBusy = s.engineBusy := rfl
@[simp] theorem State.setAuth_groups (n : Nat) (x : AuthRec) : (s.setAuth n x).groups = s.groups := rfl
@[simp] theorem State.setAuth_pools (n : Nat) (x : AuthRec) : (s.setAuth n x).pools = s.pools := rfl
@[simp] theorem State.setAuth_volts (n : Nat) (x : AuthRec) : (s.setAuth n x).volts = s.volts := rfl
@[simp] theorem State.setAuth_acs (n : Nat) (x : AuthRec) : (s.setAuth n x).acs = s.acs := rfl
@[simp] theorem State.setAuth_bridge (n : Nat) (x : AuthRec) : (s.setAuth n x).bridge = s.bridge := rfl
@[simp] theorem State.setAuth_feeds (n : Nat) (x : AuthRec) : (s.setAuth n x).feeds = s.feeds := rfl
@[simp] theorem State.setAuth_selector (n : Nat) (x : AuthRec) : (s.setAuth n x).selector = s.selector := rfl
@[simp] theorem State.setAuth_seqs (n : Nat) (x : AuthRec) : (s.setAuth n x).seqs = s.seqs := rfl
@[simp] theorem State.setAuth_mains (n : Nat) (x : AuthRec) : (s.setAuth n x).mains = s.mains := rfl
@[simp] theorem State.setAuth_frame (n : Nat) (x : AuthRec) : (s.setAuth n x).frame = s.frame := rfl
@[simp] theorem State.setAuth_loadMap (n : Nat) (x : AuthRec) : (s.setAuth n x).loadMap = s.loadMap := rfl
@[simp] theorem State.setAuth_moves (n : Nat) (x : AuthRec) : (s.setAuth n x).moves = s.moves := rfl
@[simp] theorem State.setAuth_strings (n : Nat) (x : AuthRec) : (s.setAuth n x).strings = s.strings := rfl
@[simp] theorem State.setAuth_runSavedAt (n : Nat) (x : AuthRec) : (s.setAuth n x).runSavedAt = s.runSavedAt := rfl
@[simp] theorem State.setAuth_tables (n : Nat) (x : AuthRec) : (s.setAuth n x).tables = s.tables := rfl
@[simp] theorem State.setAuth_tableClass (n : Nat) (x : AuthRec) : (s.setAuth n x).tableClass = s.tableClass := rfl
@[simp] theorem State.setAuth_auth (n : Nat) (x : AuthRec) : (s.setAuth n x).auth = bset s.auth n x := rfl
@[simp] theorem State.setAuth_temps (n : Nat) (x : AuthRec) : (s.setAuth n x).temps = s.temps := rfl
@[simp] theorem State.setAuth_sinks (n : Nat) (x : AuthRec) : (s.setAuth n x).sinks = s.sinks := rfl
@[simp] theorem State.setAuth_drivers (n : Nat) (x : AuthRec) : (s.setAuth n x).drivers = s.drivers := rfl
@[simp] theorem State.setAuth_dies (n : Nat) (x : AuthRec) : (s.setAuth n x).dies = s.dies := rfl
@[simp] theorem State.setAuth_progSlots (n : Nat) (x : AuthRec) : (s.setAuth n x).progSlots = s.progSlots := rfl
@[simp] theorem State.setAuth_deferred (n : Nat) (x : AuthRec) : (s.setAuth n x).deferred = s.deferred := rfl
@[simp] theorem State.setAuth_mainsPart (n : Nat) (x : AuthRec) : (s.setAuth n x).mainsPart = s.mainsPart := rfl
@[simp] theorem State.setAuth_feedPart (n : Nat) (x : AuthRec) : (s.setAuth n x).feedPart = s.feedPart := rfl
@[simp] theorem State.setAuth_noPart (n : Nat) (x : AuthRec) : (s.setAuth n x).noPart = s.noPart := rfl
@[simp] theorem State.setAuth_watch (n : Nat) (x : AuthRec) : (s.setAuth n x).watch = s.watch := rfl
@[simp] theorem State.setAuth_tele (n : Nat) (x : AuthRec) : (s.setAuth n x).tele = s.tele := rfl
@[simp] theorem State.setAuth_teleEnd (n : Nat) (x : AuthRec) : (s.setAuth n x).teleEnd = s.teleEnd := rfl
@[simp] theorem State.setAuth_shorted (n : Nat) (x : AuthRec) : (s.setAuth n x).shorted = s.shorted := rfl
@[simp] theorem State.setAuth_captures (n : Nat) (x : AuthRec) : (s.setAuth n x).captures = s.captures := rfl
@[simp] theorem State.setAuth_journal (n : Nat) (x : AuthRec) : (s.setAuth n x).journal = s.journal := rfl
@[simp] theorem State.setAuth_storage (n : Nat) (x : AuthRec) : (s.setAuth n x).storage = s.storage := rfl
@[simp] theorem State.setAuth_always (n : Nat) (x : AuthRec) : (s.setAuth n x).always = s.always := rfl
@[simp] theorem State.setAuth_run (n : Nat) (x : AuthRec) : (s.setAuth n x).run = s.run := rfl
@[simp] theorem State.setAuth_twin (n : Nat) (x : AuthRec) : (s.setAuth n x).twin = s.twin := rfl
@[simp] theorem State.setAuth_ring (n : Nat) (x : AuthRec) : (s.setAuth n x).ring = s.ring := rfl
@[simp] theorem State.setAuth_access (n : Nat) (x : AuthRec) : (s.setAuth n x).access = s.access := rfl
@[simp] theorem State.setAuth_twinState (n : Nat) (x : AuthRec) : (s.setAuth n x).twinState = s.twinState := rfl
@[simp] theorem State.setAuth_inReset (n : Nat) (x : AuthRec) : (s.setAuth n x).inReset = s.inReset := rfl
@[simp] theorem State.setAuth_seqFloor (n : Nat) (x : AuthRec) : (s.setAuth n x).seqFloor = s.seqFloor := rfl
@[simp] theorem State.setAuth_chipSeq (n : Nat) (x : AuthRec) : (s.setAuth n x).chipSeq = s.chipSeq := rfl
@[simp] theorem State.setAuth_regionSeq (n : Nat) (x : AuthRec) : (s.setAuth n x).regionSeq = s.regionSeq := rfl
@[simp] theorem State.setAuth_accepting (n : Nat) (x : AuthRec) : (s.setAuth n x).accepting = s.accepting := rfl
@[simp] theorem State.setAuth_engineSlot (n : Nat) (x : AuthRec) : (s.setAuth n x).engineSlot = s.engineSlot := rfl
@[simp] theorem State.setAuth_feedMarks (n : Nat) (x : AuthRec) : (s.setAuth n x).feedMarks = s.feedMarks := rfl
@[simp] theorem State.setAuth_stepAt (n : Nat) (x : AuthRec) : (s.setAuth n x).stepAt = s.stepAt := rfl

/-! ### setFeed -/

@[simp] theorem State.setFeed_now (n : Nat) (x : FeedCh) : (s.setFeed n x).now = s.now := rfl
@[simp] theorem State.setFeed_freeBase (n : Nat) (x : FeedCh) : (s.setFeed n x).freeBase = s.freeBase := rfl
@[simp] theorem State.setFeed_turnDone (n : Nat) (x : FeedCh) : (s.setFeed n x).turnDone = s.turnDone := rfl
@[simp] theorem State.setFeed_pending (n : Nat) (x : FeedCh) : (s.setFeed n x).pending = s.pending := rfl
@[simp] theorem State.setFeed_obj (n : Nat) (x : FeedCh) : (s.setFeed n x).obj = s.obj := rfl
@[simp] theorem State.setFeed_lastResult (n : Nat) (x : FeedCh) : (s.setFeed n x).lastResult = s.lastResult := rfl
@[simp] theorem State.setFeed_lastRead (n : Nat) (x : FeedCh) : (s.setFeed n x).lastRead = s.lastRead := rfl
@[simp] theorem State.setFeed_freeCount (n : Nat) (x : FeedCh) : (s.setFeed n x).freeCount = s.freeCount := rfl
@[simp] theorem State.setFeed_faults (n : Nat) (x : FeedCh) : (s.setFeed n x).faults = s.faults := rfl
@[simp] theorem State.setFeed_inputs (n : Nat) (x : FeedCh) : (s.setFeed n x).inputs = s.inputs := rfl
@[simp] theorem State.setFeed_acceptAt (n : Nat) (x : FeedCh) : (s.setFeed n x).acceptAt = s.acceptAt := rfl
@[simp] theorem State.setFeed_limited (n : Nat) (x : FeedCh) : (s.setFeed n x).limited = s.limited := rfl
@[simp] theorem State.setFeed_cells (n : Nat) (x : FeedCh) : (s.setFeed n x).cells = s.cells := rfl
@[simp] theorem State.setFeed_ctxs (n : Nat) (x : FeedCh) : (s.setFeed n x).ctxs = s.ctxs := rfl
@[simp] theorem State.setFeed_engineBusy (n : Nat) (x : FeedCh) : (s.setFeed n x).engineBusy = s.engineBusy := rfl
@[simp] theorem State.setFeed_groups (n : Nat) (x : FeedCh) : (s.setFeed n x).groups = s.groups := rfl
@[simp] theorem State.setFeed_pools (n : Nat) (x : FeedCh) : (s.setFeed n x).pools = s.pools := rfl
@[simp] theorem State.setFeed_volts (n : Nat) (x : FeedCh) : (s.setFeed n x).volts = s.volts := rfl
@[simp] theorem State.setFeed_acs (n : Nat) (x : FeedCh) : (s.setFeed n x).acs = s.acs := rfl
@[simp] theorem State.setFeed_bridge (n : Nat) (x : FeedCh) : (s.setFeed n x).bridge = s.bridge := rfl
@[simp] theorem State.setFeed_feeds (n : Nat) (x : FeedCh) : (s.setFeed n x).feeds = bset s.feeds n x := rfl
@[simp] theorem State.setFeed_selector (n : Nat) (x : FeedCh) : (s.setFeed n x).selector = s.selector := rfl
@[simp] theorem State.setFeed_seqs (n : Nat) (x : FeedCh) : (s.setFeed n x).seqs = s.seqs := rfl
@[simp] theorem State.setFeed_mains (n : Nat) (x : FeedCh) : (s.setFeed n x).mains = s.mains := rfl
@[simp] theorem State.setFeed_frame (n : Nat) (x : FeedCh) : (s.setFeed n x).frame = s.frame := rfl
@[simp] theorem State.setFeed_loadMap (n : Nat) (x : FeedCh) : (s.setFeed n x).loadMap = s.loadMap := rfl
@[simp] theorem State.setFeed_moves (n : Nat) (x : FeedCh) : (s.setFeed n x).moves = s.moves := rfl
@[simp] theorem State.setFeed_strings (n : Nat) (x : FeedCh) : (s.setFeed n x).strings = s.strings := rfl
@[simp] theorem State.setFeed_runSavedAt (n : Nat) (x : FeedCh) : (s.setFeed n x).runSavedAt = s.runSavedAt := rfl
@[simp] theorem State.setFeed_tables (n : Nat) (x : FeedCh) : (s.setFeed n x).tables = s.tables := rfl
@[simp] theorem State.setFeed_tableClass (n : Nat) (x : FeedCh) : (s.setFeed n x).tableClass = s.tableClass := rfl
@[simp] theorem State.setFeed_auth (n : Nat) (x : FeedCh) : (s.setFeed n x).auth = s.auth := rfl
@[simp] theorem State.setFeed_temps (n : Nat) (x : FeedCh) : (s.setFeed n x).temps = s.temps := rfl
@[simp] theorem State.setFeed_sinks (n : Nat) (x : FeedCh) : (s.setFeed n x).sinks = s.sinks := rfl
@[simp] theorem State.setFeed_drivers (n : Nat) (x : FeedCh) : (s.setFeed n x).drivers = s.drivers := rfl
@[simp] theorem State.setFeed_dies (n : Nat) (x : FeedCh) : (s.setFeed n x).dies = s.dies := rfl
@[simp] theorem State.setFeed_progSlots (n : Nat) (x : FeedCh) : (s.setFeed n x).progSlots = s.progSlots := rfl
@[simp] theorem State.setFeed_deferred (n : Nat) (x : FeedCh) : (s.setFeed n x).deferred = s.deferred := rfl
@[simp] theorem State.setFeed_mainsPart (n : Nat) (x : FeedCh) : (s.setFeed n x).mainsPart = s.mainsPart := rfl
@[simp] theorem State.setFeed_feedPart (n : Nat) (x : FeedCh) : (s.setFeed n x).feedPart = s.feedPart := rfl
@[simp] theorem State.setFeed_noPart (n : Nat) (x : FeedCh) : (s.setFeed n x).noPart = s.noPart := rfl
@[simp] theorem State.setFeed_watch (n : Nat) (x : FeedCh) : (s.setFeed n x).watch = s.watch := rfl
@[simp] theorem State.setFeed_tele (n : Nat) (x : FeedCh) : (s.setFeed n x).tele = s.tele := rfl
@[simp] theorem State.setFeed_teleEnd (n : Nat) (x : FeedCh) : (s.setFeed n x).teleEnd = s.teleEnd := rfl
@[simp] theorem State.setFeed_shorted (n : Nat) (x : FeedCh) : (s.setFeed n x).shorted = s.shorted := rfl
@[simp] theorem State.setFeed_captures (n : Nat) (x : FeedCh) : (s.setFeed n x).captures = s.captures := rfl
@[simp] theorem State.setFeed_journal (n : Nat) (x : FeedCh) : (s.setFeed n x).journal = s.journal := rfl
@[simp] theorem State.setFeed_storage (n : Nat) (x : FeedCh) : (s.setFeed n x).storage = s.storage := rfl
@[simp] theorem State.setFeed_always (n : Nat) (x : FeedCh) : (s.setFeed n x).always = s.always := rfl
@[simp] theorem State.setFeed_run (n : Nat) (x : FeedCh) : (s.setFeed n x).run = s.run := rfl
@[simp] theorem State.setFeed_twin (n : Nat) (x : FeedCh) : (s.setFeed n x).twin = s.twin := rfl
@[simp] theorem State.setFeed_ring (n : Nat) (x : FeedCh) : (s.setFeed n x).ring = s.ring := rfl
@[simp] theorem State.setFeed_access (n : Nat) (x : FeedCh) : (s.setFeed n x).access = s.access := rfl
@[simp] theorem State.setFeed_twinState (n : Nat) (x : FeedCh) : (s.setFeed n x).twinState = s.twinState := rfl
@[simp] theorem State.setFeed_inReset (n : Nat) (x : FeedCh) : (s.setFeed n x).inReset = s.inReset := rfl
@[simp] theorem State.setFeed_seqFloor (n : Nat) (x : FeedCh) : (s.setFeed n x).seqFloor = s.seqFloor := rfl
@[simp] theorem State.setFeed_chipSeq (n : Nat) (x : FeedCh) : (s.setFeed n x).chipSeq = s.chipSeq := rfl
@[simp] theorem State.setFeed_regionSeq (n : Nat) (x : FeedCh) : (s.setFeed n x).regionSeq = s.regionSeq := rfl
@[simp] theorem State.setFeed_accepting (n : Nat) (x : FeedCh) : (s.setFeed n x).accepting = s.accepting := rfl
@[simp] theorem State.setFeed_engineSlot (n : Nat) (x : FeedCh) : (s.setFeed n x).engineSlot = s.engineSlot := rfl
@[simp] theorem State.setFeed_feedMarks (n : Nat) (x : FeedCh) : (s.setFeed n x).feedMarks = s.feedMarks := rfl
@[simp] theorem State.setFeed_stepAt (n : Nat) (x : FeedCh) : (s.setFeed n x).stepAt = s.stepAt := rfl

/-! ### setSelector -/

@[simp] theorem State.setSelector_now (x : Selector) : (s.setSelector x).now = s.now := rfl
@[simp] theorem State.setSelector_freeBase (x : Selector) : (s.setSelector x).freeBase = s.freeBase := rfl
@[simp] theorem State.setSelector_turnDone (x : Selector) : (s.setSelector x).turnDone = s.turnDone := rfl
@[simp] theorem State.setSelector_pending (x : Selector) : (s.setSelector x).pending = s.pending := rfl
@[simp] theorem State.setSelector_obj (x : Selector) : (s.setSelector x).obj = s.obj := rfl
@[simp] theorem State.setSelector_lastResult (x : Selector) : (s.setSelector x).lastResult = s.lastResult := rfl
@[simp] theorem State.setSelector_lastRead (x : Selector) : (s.setSelector x).lastRead = s.lastRead := rfl
@[simp] theorem State.setSelector_freeCount (x : Selector) : (s.setSelector x).freeCount = s.freeCount := rfl
@[simp] theorem State.setSelector_faults (x : Selector) : (s.setSelector x).faults = s.faults := rfl
@[simp] theorem State.setSelector_inputs (x : Selector) : (s.setSelector x).inputs = s.inputs := rfl
@[simp] theorem State.setSelector_acceptAt (x : Selector) : (s.setSelector x).acceptAt = s.acceptAt := rfl
@[simp] theorem State.setSelector_limited (x : Selector) : (s.setSelector x).limited = s.limited := rfl
@[simp] theorem State.setSelector_cells (x : Selector) : (s.setSelector x).cells = s.cells := rfl
@[simp] theorem State.setSelector_ctxs (x : Selector) : (s.setSelector x).ctxs = s.ctxs := rfl
@[simp] theorem State.setSelector_engineBusy (x : Selector) : (s.setSelector x).engineBusy = s.engineBusy := rfl
@[simp] theorem State.setSelector_groups (x : Selector) : (s.setSelector x).groups = s.groups := rfl
@[simp] theorem State.setSelector_pools (x : Selector) : (s.setSelector x).pools = s.pools := rfl
@[simp] theorem State.setSelector_volts (x : Selector) : (s.setSelector x).volts = s.volts := rfl
@[simp] theorem State.setSelector_acs (x : Selector) : (s.setSelector x).acs = s.acs := rfl
@[simp] theorem State.setSelector_bridge (x : Selector) : (s.setSelector x).bridge = s.bridge := rfl
@[simp] theorem State.setSelector_feeds (x : Selector) : (s.setSelector x).feeds = s.feeds := rfl
@[simp] theorem State.setSelector_selector (x : Selector) : (s.setSelector x).selector = x := rfl
@[simp] theorem State.setSelector_seqs (x : Selector) : (s.setSelector x).seqs = s.seqs := rfl
@[simp] theorem State.setSelector_mains (x : Selector) : (s.setSelector x).mains = s.mains := rfl
@[simp] theorem State.setSelector_frame (x : Selector) : (s.setSelector x).frame = s.frame := rfl
@[simp] theorem State.setSelector_loadMap (x : Selector) : (s.setSelector x).loadMap = s.loadMap := rfl
@[simp] theorem State.setSelector_moves (x : Selector) : (s.setSelector x).moves = s.moves := rfl
@[simp] theorem State.setSelector_strings (x : Selector) : (s.setSelector x).strings = s.strings := rfl
@[simp] theorem State.setSelector_runSavedAt (x : Selector) : (s.setSelector x).runSavedAt = s.runSavedAt := rfl
@[simp] theorem State.setSelector_tables (x : Selector) : (s.setSelector x).tables = s.tables := rfl
@[simp] theorem State.setSelector_tableClass (x : Selector) : (s.setSelector x).tableClass = s.tableClass := rfl
@[simp] theorem State.setSelector_auth (x : Selector) : (s.setSelector x).auth = s.auth := rfl
@[simp] theorem State.setSelector_temps (x : Selector) : (s.setSelector x).temps = s.temps := rfl
@[simp] theorem State.setSelector_sinks (x : Selector) : (s.setSelector x).sinks = s.sinks := rfl
@[simp] theorem State.setSelector_drivers (x : Selector) : (s.setSelector x).drivers = s.drivers := rfl
@[simp] theorem State.setSelector_dies (x : Selector) : (s.setSelector x).dies = s.dies := rfl
@[simp] theorem State.setSelector_progSlots (x : Selector) : (s.setSelector x).progSlots = s.progSlots := rfl
@[simp] theorem State.setSelector_deferred (x : Selector) : (s.setSelector x).deferred = s.deferred := rfl
@[simp] theorem State.setSelector_mainsPart (x : Selector) : (s.setSelector x).mainsPart = s.mainsPart := rfl
@[simp] theorem State.setSelector_feedPart (x : Selector) : (s.setSelector x).feedPart = s.feedPart := rfl
@[simp] theorem State.setSelector_noPart (x : Selector) : (s.setSelector x).noPart = s.noPart := rfl
@[simp] theorem State.setSelector_watch (x : Selector) : (s.setSelector x).watch = s.watch := rfl
@[simp] theorem State.setSelector_tele (x : Selector) : (s.setSelector x).tele = s.tele := rfl
@[simp] theorem State.setSelector_teleEnd (x : Selector) : (s.setSelector x).teleEnd = s.teleEnd := rfl
@[simp] theorem State.setSelector_shorted (x : Selector) : (s.setSelector x).shorted = s.shorted := rfl
@[simp] theorem State.setSelector_captures (x : Selector) : (s.setSelector x).captures = s.captures := rfl
@[simp] theorem State.setSelector_journal (x : Selector) : (s.setSelector x).journal = s.journal := rfl
@[simp] theorem State.setSelector_storage (x : Selector) : (s.setSelector x).storage = s.storage := rfl
@[simp] theorem State.setSelector_always (x : Selector) : (s.setSelector x).always = s.always := rfl
@[simp] theorem State.setSelector_run (x : Selector) : (s.setSelector x).run = s.run := rfl
@[simp] theorem State.setSelector_twin (x : Selector) : (s.setSelector x).twin = s.twin := rfl
@[simp] theorem State.setSelector_ring (x : Selector) : (s.setSelector x).ring = s.ring := rfl
@[simp] theorem State.setSelector_access (x : Selector) : (s.setSelector x).access = s.access := rfl
@[simp] theorem State.setSelector_twinState (x : Selector) : (s.setSelector x).twinState = s.twinState := rfl
@[simp] theorem State.setSelector_inReset (x : Selector) : (s.setSelector x).inReset = s.inReset := rfl
@[simp] theorem State.setSelector_seqFloor (x : Selector) : (s.setSelector x).seqFloor = s.seqFloor := rfl
@[simp] theorem State.setSelector_chipSeq (x : Selector) : (s.setSelector x).chipSeq = s.chipSeq := rfl
@[simp] theorem State.setSelector_regionSeq (x : Selector) : (s.setSelector x).regionSeq = s.regionSeq := rfl
@[simp] theorem State.setSelector_accepting (x : Selector) : (s.setSelector x).accepting = s.accepting := rfl
@[simp] theorem State.setSelector_engineSlot (x : Selector) : (s.setSelector x).engineSlot = s.engineSlot := rfl
@[simp] theorem State.setSelector_feedMarks (x : Selector) : (s.setSelector x).feedMarks = s.feedMarks := rfl
@[simp] theorem State.setSelector_stepAt (x : Selector) : (s.setSelector x).stepAt = s.stepAt := rfl

/-! ### setSeq -/

@[simp] theorem State.setSeq_now (n : Nat) (x : SeqCh) : (s.setSeq n x).now = s.now := rfl
@[simp] theorem State.setSeq_freeBase (n : Nat) (x : SeqCh) : (s.setSeq n x).freeBase = s.freeBase := rfl
@[simp] theorem State.setSeq_turnDone (n : Nat) (x : SeqCh) : (s.setSeq n x).turnDone = s.turnDone := rfl
@[simp] theorem State.setSeq_pending (n : Nat) (x : SeqCh) : (s.setSeq n x).pending = s.pending := rfl
@[simp] theorem State.setSeq_obj (n : Nat) (x : SeqCh) : (s.setSeq n x).obj = s.obj := rfl
@[simp] theorem State.setSeq_lastResult (n : Nat) (x : SeqCh) : (s.setSeq n x).lastResult = s.lastResult := rfl
@[simp] theorem State.setSeq_lastRead (n : Nat) (x : SeqCh) : (s.setSeq n x).lastRead = s.lastRead := rfl
@[simp] theorem State.setSeq_freeCount (n : Nat) (x : SeqCh) : (s.setSeq n x).freeCount = s.freeCount := rfl
@[simp] theorem State.setSeq_faults (n : Nat) (x : SeqCh) : (s.setSeq n x).faults = s.faults := rfl
@[simp] theorem State.setSeq_inputs (n : Nat) (x : SeqCh) : (s.setSeq n x).inputs = s.inputs := rfl
@[simp] theorem State.setSeq_acceptAt (n : Nat) (x : SeqCh) : (s.setSeq n x).acceptAt = s.acceptAt := rfl
@[simp] theorem State.setSeq_limited (n : Nat) (x : SeqCh) : (s.setSeq n x).limited = s.limited := rfl
@[simp] theorem State.setSeq_cells (n : Nat) (x : SeqCh) : (s.setSeq n x).cells = s.cells := rfl
@[simp] theorem State.setSeq_ctxs (n : Nat) (x : SeqCh) : (s.setSeq n x).ctxs = s.ctxs := rfl
@[simp] theorem State.setSeq_engineBusy (n : Nat) (x : SeqCh) : (s.setSeq n x).engineBusy = s.engineBusy := rfl
@[simp] theorem State.setSeq_groups (n : Nat) (x : SeqCh) : (s.setSeq n x).groups = s.groups := rfl
@[simp] theorem State.setSeq_pools (n : Nat) (x : SeqCh) : (s.setSeq n x).pools = s.pools := rfl
@[simp] theorem State.setSeq_volts (n : Nat) (x : SeqCh) : (s.setSeq n x).volts = s.volts := rfl
@[simp] theorem State.setSeq_acs (n : Nat) (x : SeqCh) : (s.setSeq n x).acs = s.acs := rfl
@[simp] theorem State.setSeq_bridge (n : Nat) (x : SeqCh) : (s.setSeq n x).bridge = s.bridge := rfl
@[simp] theorem State.setSeq_feeds (n : Nat) (x : SeqCh) : (s.setSeq n x).feeds = s.feeds := rfl
@[simp] theorem State.setSeq_selector (n : Nat) (x : SeqCh) : (s.setSeq n x).selector = s.selector := rfl
@[simp] theorem State.setSeq_seqs (n : Nat) (x : SeqCh) : (s.setSeq n x).seqs = bset s.seqs n x := rfl
@[simp] theorem State.setSeq_mains (n : Nat) (x : SeqCh) : (s.setSeq n x).mains = s.mains := rfl
@[simp] theorem State.setSeq_frame (n : Nat) (x : SeqCh) : (s.setSeq n x).frame = s.frame := rfl
@[simp] theorem State.setSeq_loadMap (n : Nat) (x : SeqCh) : (s.setSeq n x).loadMap = s.loadMap := rfl
@[simp] theorem State.setSeq_moves (n : Nat) (x : SeqCh) : (s.setSeq n x).moves = s.moves := rfl
@[simp] theorem State.setSeq_strings (n : Nat) (x : SeqCh) : (s.setSeq n x).strings = s.strings := rfl
@[simp] theorem State.setSeq_runSavedAt (n : Nat) (x : SeqCh) : (s.setSeq n x).runSavedAt = s.runSavedAt := rfl
@[simp] theorem State.setSeq_tables (n : Nat) (x : SeqCh) : (s.setSeq n x).tables = s.tables := rfl
@[simp] theorem State.setSeq_tableClass (n : Nat) (x : SeqCh) : (s.setSeq n x).tableClass = s.tableClass := rfl
@[simp] theorem State.setSeq_auth (n : Nat) (x : SeqCh) : (s.setSeq n x).auth = s.auth := rfl
@[simp] theorem State.setSeq_temps (n : Nat) (x : SeqCh) : (s.setSeq n x).temps = s.temps := rfl
@[simp] theorem State.setSeq_sinks (n : Nat) (x : SeqCh) : (s.setSeq n x).sinks = s.sinks := rfl
@[simp] theorem State.setSeq_drivers (n : Nat) (x : SeqCh) : (s.setSeq n x).drivers = s.drivers := rfl
@[simp] theorem State.setSeq_dies (n : Nat) (x : SeqCh) : (s.setSeq n x).dies = s.dies := rfl
@[simp] theorem State.setSeq_progSlots (n : Nat) (x : SeqCh) : (s.setSeq n x).progSlots = s.progSlots := rfl
@[simp] theorem State.setSeq_deferred (n : Nat) (x : SeqCh) : (s.setSeq n x).deferred = s.deferred := rfl
@[simp] theorem State.setSeq_mainsPart (n : Nat) (x : SeqCh) : (s.setSeq n x).mainsPart = s.mainsPart := rfl
@[simp] theorem State.setSeq_feedPart (n : Nat) (x : SeqCh) : (s.setSeq n x).feedPart = s.feedPart := rfl
@[simp] theorem State.setSeq_noPart (n : Nat) (x : SeqCh) : (s.setSeq n x).noPart = s.noPart := rfl
@[simp] theorem State.setSeq_watch (n : Nat) (x : SeqCh) : (s.setSeq n x).watch = s.watch := rfl
@[simp] theorem State.setSeq_tele (n : Nat) (x : SeqCh) : (s.setSeq n x).tele = s.tele := rfl
@[simp] theorem State.setSeq_teleEnd (n : Nat) (x : SeqCh) : (s.setSeq n x).teleEnd = s.teleEnd := rfl
@[simp] theorem State.setSeq_shorted (n : Nat) (x : SeqCh) : (s.setSeq n x).shorted = s.shorted := rfl
@[simp] theorem State.setSeq_captures (n : Nat) (x : SeqCh) : (s.setSeq n x).captures = s.captures := rfl
@[simp] theorem State.setSeq_journal (n : Nat) (x : SeqCh) : (s.setSeq n x).journal = s.journal := rfl
@[simp] theorem State.setSeq_storage (n : Nat) (x : SeqCh) : (s.setSeq n x).storage = s.storage := rfl
@[simp] theorem State.setSeq_always (n : Nat) (x : SeqCh) : (s.setSeq n x).always = s.always := rfl
@[simp] theorem State.setSeq_run (n : Nat) (x : SeqCh) : (s.setSeq n x).run = s.run := rfl
@[simp] theorem State.setSeq_twin (n : Nat) (x : SeqCh) : (s.setSeq n x).twin = s.twin := rfl
@[simp] theorem State.setSeq_ring (n : Nat) (x : SeqCh) : (s.setSeq n x).ring = s.ring := rfl
@[simp] theorem State.setSeq_access (n : Nat) (x : SeqCh) : (s.setSeq n x).access = s.access := rfl
@[simp] theorem State.setSeq_twinState (n : Nat) (x : SeqCh) : (s.setSeq n x).twinState = s.twinState := rfl
@[simp] theorem State.setSeq_inReset (n : Nat) (x : SeqCh) : (s.setSeq n x).inReset = s.inReset := rfl
@[simp] theorem State.setSeq_seqFloor (n : Nat) (x : SeqCh) : (s.setSeq n x).seqFloor = s.seqFloor := rfl
@[simp] theorem State.setSeq_chipSeq (n : Nat) (x : SeqCh) : (s.setSeq n x).chipSeq = s.chipSeq := rfl
@[simp] theorem State.setSeq_regionSeq (n : Nat) (x : SeqCh) : (s.setSeq n x).regionSeq = s.regionSeq := rfl
@[simp] theorem State.setSeq_accepting (n : Nat) (x : SeqCh) : (s.setSeq n x).accepting = s.accepting := rfl
@[simp] theorem State.setSeq_engineSlot (n : Nat) (x : SeqCh) : (s.setSeq n x).engineSlot = s.engineSlot := rfl
@[simp] theorem State.setSeq_feedMarks (n : Nat) (x : SeqCh) : (s.setSeq n x).feedMarks = s.feedMarks := rfl
@[simp] theorem State.setSeq_stepAt (n : Nat) (x : SeqCh) : (s.setSeq n x).stepAt = s.stepAt := rfl

/-! ### setStr -/

@[simp] theorem State.setStr_now (n : Nat) (x : Str) : (s.setStr n x).now = s.now := rfl
@[simp] theorem State.setStr_freeBase (n : Nat) (x : Str) : (s.setStr n x).freeBase = s.freeBase := rfl
@[simp] theorem State.setStr_turnDone (n : Nat) (x : Str) : (s.setStr n x).turnDone = s.turnDone := rfl
@[simp] theorem State.setStr_pending (n : Nat) (x : Str) : (s.setStr n x).pending = s.pending := rfl
@[simp] theorem State.setStr_obj (n : Nat) (x : Str) : (s.setStr n x).obj = s.obj := rfl
@[simp] theorem State.setStr_lastResult (n : Nat) (x : Str) : (s.setStr n x).lastResult = s.lastResult := rfl
@[simp] theorem State.setStr_lastRead (n : Nat) (x : Str) : (s.setStr n x).lastRead = s.lastRead := rfl
@[simp] theorem State.setStr_freeCount (n : Nat) (x : Str) : (s.setStr n x).freeCount = s.freeCount := rfl
@[simp] theorem State.setStr_faults (n : Nat) (x : Str) : (s.setStr n x).faults = s.faults := rfl
@[simp] theorem State.setStr_inputs (n : Nat) (x : Str) : (s.setStr n x).inputs = s.inputs := rfl
@[simp] theorem State.setStr_acceptAt (n : Nat) (x : Str) : (s.setStr n x).acceptAt = s.acceptAt := rfl
@[simp] theorem State.setStr_limited (n : Nat) (x : Str) : (s.setStr n x).limited = s.limited := rfl
@[simp] theorem State.setStr_cells (n : Nat) (x : Str) : (s.setStr n x).cells = s.cells := rfl
@[simp] theorem State.setStr_ctxs (n : Nat) (x : Str) : (s.setStr n x).ctxs = s.ctxs := rfl
@[simp] theorem State.setStr_engineBusy (n : Nat) (x : Str) : (s.setStr n x).engineBusy = s.engineBusy := rfl
@[simp] theorem State.setStr_groups (n : Nat) (x : Str) : (s.setStr n x).groups = s.groups := rfl
@[simp] theorem State.setStr_pools (n : Nat) (x : Str) : (s.setStr n x).pools = s.pools := rfl
@[simp] theorem State.setStr_volts (n : Nat) (x : Str) : (s.setStr n x).volts = s.volts := rfl
@[simp] theorem State.setStr_acs (n : Nat) (x : Str) : (s.setStr n x).acs = s.acs := rfl
@[simp] theorem State.setStr_bridge (n : Nat) (x : Str) : (s.setStr n x).bridge = s.bridge := rfl
@[simp] theorem State.setStr_feeds (n : Nat) (x : Str) : (s.setStr n x).feeds = s.feeds := rfl
@[simp] theorem State.setStr_selector (n : Nat) (x : Str) : (s.setStr n x).selector = s.selector := rfl
@[simp] theorem State.setStr_seqs (n : Nat) (x : Str) : (s.setStr n x).seqs = s.seqs := rfl
@[simp] theorem State.setStr_mains (n : Nat) (x : Str) : (s.setStr n x).mains = s.mains := rfl
@[simp] theorem State.setStr_frame (n : Nat) (x : Str) : (s.setStr n x).frame = s.frame := rfl
@[simp] theorem State.setStr_loadMap (n : Nat) (x : Str) : (s.setStr n x).loadMap = s.loadMap := rfl
@[simp] theorem State.setStr_moves (n : Nat) (x : Str) : (s.setStr n x).moves = s.moves := rfl
@[simp] theorem State.setStr_strings (n : Nat) (x : Str) : (s.setStr n x).strings = bset s.strings n x := rfl
@[simp] theorem State.setStr_runSavedAt (n : Nat) (x : Str) : (s.setStr n x).runSavedAt = s.runSavedAt := rfl
@[simp] theorem State.setStr_tables (n : Nat) (x : Str) : (s.setStr n x).tables = s.tables := rfl
@[simp] theorem State.setStr_tableClass (n : Nat) (x : Str) : (s.setStr n x).tableClass = s.tableClass := rfl
@[simp] theorem State.setStr_auth (n : Nat) (x : Str) : (s.setStr n x).auth = s.auth := rfl
@[simp] theorem State.setStr_temps (n : Nat) (x : Str) : (s.setStr n x).temps = s.temps := rfl
@[simp] theorem State.setStr_sinks (n : Nat) (x : Str) : (s.setStr n x).sinks = s.sinks := rfl
@[simp] theorem State.setStr_drivers (n : Nat) (x : Str) : (s.setStr n x).drivers = s.drivers := rfl
@[simp] theorem State.setStr_dies (n : Nat) (x : Str) : (s.setStr n x).dies = s.dies := rfl
@[simp] theorem State.setStr_progSlots (n : Nat) (x : Str) : (s.setStr n x).progSlots = s.progSlots := rfl
@[simp] theorem State.setStr_deferred (n : Nat) (x : Str) : (s.setStr n x).deferred = s.deferred := rfl
@[simp] theorem State.setStr_mainsPart (n : Nat) (x : Str) : (s.setStr n x).mainsPart = s.mainsPart := rfl
@[simp] theorem State.setStr_feedPart (n : Nat) (x : Str) : (s.setStr n x).feedPart = s.feedPart := rfl
@[simp] theorem State.setStr_noPart (n : Nat) (x : Str) : (s.setStr n x).noPart = s.noPart := rfl
@[simp] theorem State.setStr_watch (n : Nat) (x : Str) : (s.setStr n x).watch = s.watch := rfl
@[simp] theorem State.setStr_tele (n : Nat) (x : Str) : (s.setStr n x).tele = s.tele := rfl
@[simp] theorem State.setStr_teleEnd (n : Nat) (x : Str) : (s.setStr n x).teleEnd = s.teleEnd := rfl
@[simp] theorem State.setStr_shorted (n : Nat) (x : Str) : (s.setStr n x).shorted = s.shorted := rfl
@[simp] theorem State.setStr_captures (n : Nat) (x : Str) : (s.setStr n x).captures = s.captures := rfl
@[simp] theorem State.setStr_journal (n : Nat) (x : Str) : (s.setStr n x).journal = s.journal := rfl
@[simp] theorem State.setStr_storage (n : Nat) (x : Str) : (s.setStr n x).storage = s.storage := rfl
@[simp] theorem State.setStr_always (n : Nat) (x : Str) : (s.setStr n x).always = s.always := rfl
@[simp] theorem State.setStr_run (n : Nat) (x : Str) : (s.setStr n x).run = s.run := rfl
@[simp] theorem State.setStr_twin (n : Nat) (x : Str) : (s.setStr n x).twin = s.twin := rfl
@[simp] theorem State.setStr_ring (n : Nat) (x : Str) : (s.setStr n x).ring = s.ring := rfl
@[simp] theorem State.setStr_access (n : Nat) (x : Str) : (s.setStr n x).access = s.access := rfl
@[simp] theorem State.setStr_twinState (n : Nat) (x : Str) : (s.setStr n x).twinState = s.twinState := rfl
@[simp] theorem State.setStr_inReset (n : Nat) (x : Str) : (s.setStr n x).inReset = s.inReset := rfl
@[simp] theorem State.setStr_seqFloor (n : Nat) (x : Str) : (s.setStr n x).seqFloor = s.seqFloor := rfl
@[simp] theorem State.setStr_chipSeq (n : Nat) (x : Str) : (s.setStr n x).chipSeq = s.chipSeq := rfl
@[simp] theorem State.setStr_regionSeq (n : Nat) (x : Str) : (s.setStr n x).regionSeq = s.regionSeq := rfl
@[simp] theorem State.setStr_accepting (n : Nat) (x : Str) : (s.setStr n x).accepting = s.accepting := rfl
@[simp] theorem State.setStr_engineSlot (n : Nat) (x : Str) : (s.setStr n x).engineSlot = s.engineSlot := rfl
@[simp] theorem State.setStr_feedMarks (n : Nat) (x : Str) : (s.setStr n x).feedMarks = s.feedMarks := rfl
@[simp] theorem State.setStr_stepAt (n : Nat) (x : Str) : (s.setStr n x).stepAt = s.stepAt := rfl

/-! ### setMains -/

@[simp] theorem State.setMains_now (n : Nat) (x : MainsT) : (s.setMains n x).now = s.now := rfl
@[simp] theorem State.setMains_freeBase (n : Nat) (x : MainsT) : (s.setMains n x).freeBase = s.freeBase := rfl
@[simp] theorem State.setMains_turnDone (n : Nat) (x : MainsT) : (s.setMains n x).turnDone = s.turnDone := rfl
@[simp] theorem State.setMains_pending (n : Nat) (x : MainsT) : (s.setMains n x).pending = s.pending := rfl
@[simp] theorem State.setMains_obj (n : Nat) (x : MainsT) : (s.setMains n x).obj = s.obj := rfl
@[simp] theorem State.setMains_lastResult (n : Nat) (x : MainsT) : (s.setMains n x).lastResult = s.lastResult := rfl
@[simp] theorem State.setMains_lastRead (n : Nat) (x : MainsT) : (s.setMains n x).lastRead = s.lastRead := rfl
@[simp] theorem State.setMains_freeCount (n : Nat) (x : MainsT) : (s.setMains n x).freeCount = s.freeCount := rfl
@[simp] theorem State.setMains_faults (n : Nat) (x : MainsT) : (s.setMains n x).faults = s.faults := rfl
@[simp] theorem State.setMains_inputs (n : Nat) (x : MainsT) : (s.setMains n x).inputs = s.inputs := rfl
@[simp] theorem State.setMains_acceptAt (n : Nat) (x : MainsT) : (s.setMains n x).acceptAt = s.acceptAt := rfl
@[simp] theorem State.setMains_limited (n : Nat) (x : MainsT) : (s.setMains n x).limited = s.limited := rfl
@[simp] theorem State.setMains_cells (n : Nat) (x : MainsT) : (s.setMains n x).cells = s.cells := rfl
@[simp] theorem State.setMains_ctxs (n : Nat) (x : MainsT) : (s.setMains n x).ctxs = s.ctxs := rfl
@[simp] theorem State.setMains_engineBusy (n : Nat) (x : MainsT) : (s.setMains n x).engineBusy = s.engineBusy := rfl
@[simp] theorem State.setMains_groups (n : Nat) (x : MainsT) : (s.setMains n x).groups = s.groups := rfl
@[simp] theorem State.setMains_pools (n : Nat) (x : MainsT) : (s.setMains n x).pools = s.pools := rfl
@[simp] theorem State.setMains_volts (n : Nat) (x : MainsT) : (s.setMains n x).volts = s.volts := rfl
@[simp] theorem State.setMains_acs (n : Nat) (x : MainsT) : (s.setMains n x).acs = s.acs := rfl
@[simp] theorem State.setMains_bridge (n : Nat) (x : MainsT) : (s.setMains n x).bridge = s.bridge := rfl
@[simp] theorem State.setMains_feeds (n : Nat) (x : MainsT) : (s.setMains n x).feeds = s.feeds := rfl
@[simp] theorem State.setMains_selector (n : Nat) (x : MainsT) : (s.setMains n x).selector = s.selector := rfl
@[simp] theorem State.setMains_seqs (n : Nat) (x : MainsT) : (s.setMains n x).seqs = s.seqs := rfl
@[simp] theorem State.setMains_mains (n : Nat) (x : MainsT) : (s.setMains n x).mains = bset s.mains n x := rfl
@[simp] theorem State.setMains_frame (n : Nat) (x : MainsT) : (s.setMains n x).frame = s.frame := rfl
@[simp] theorem State.setMains_loadMap (n : Nat) (x : MainsT) : (s.setMains n x).loadMap = s.loadMap := rfl
@[simp] theorem State.setMains_moves (n : Nat) (x : MainsT) : (s.setMains n x).moves = s.moves := rfl
@[simp] theorem State.setMains_strings (n : Nat) (x : MainsT) : (s.setMains n x).strings = s.strings := rfl
@[simp] theorem State.setMains_runSavedAt (n : Nat) (x : MainsT) : (s.setMains n x).runSavedAt = s.runSavedAt := rfl
@[simp] theorem State.setMains_tables (n : Nat) (x : MainsT) : (s.setMains n x).tables = s.tables := rfl
@[simp] theorem State.setMains_tableClass (n : Nat) (x : MainsT) : (s.setMains n x).tableClass = s.tableClass := rfl
@[simp] theorem State.setMains_auth (n : Nat) (x : MainsT) : (s.setMains n x).auth = s.auth := rfl
@[simp] theorem State.setMains_temps (n : Nat) (x : MainsT) : (s.setMains n x).temps = s.temps := rfl
@[simp] theorem State.setMains_sinks (n : Nat) (x : MainsT) : (s.setMains n x).sinks = s.sinks := rfl
@[simp] theorem State.setMains_drivers (n : Nat) (x : MainsT) : (s.setMains n x).drivers = s.drivers := rfl
@[simp] theorem State.setMains_dies (n : Nat) (x : MainsT) : (s.setMains n x).dies = s.dies := rfl
@[simp] theorem State.setMains_progSlots (n : Nat) (x : MainsT) : (s.setMains n x).progSlots = s.progSlots := rfl
@[simp] theorem State.setMains_deferred (n : Nat) (x : MainsT) : (s.setMains n x).deferred = s.deferred := rfl
@[simp] theorem State.setMains_mainsPart (n : Nat) (x : MainsT) : (s.setMains n x).mainsPart = s.mainsPart := rfl
@[simp] theorem State.setMains_feedPart (n : Nat) (x : MainsT) : (s.setMains n x).feedPart = s.feedPart := rfl
@[simp] theorem State.setMains_noPart (n : Nat) (x : MainsT) : (s.setMains n x).noPart = s.noPart := rfl
@[simp] theorem State.setMains_watch (n : Nat) (x : MainsT) : (s.setMains n x).watch = s.watch := rfl
@[simp] theorem State.setMains_tele (n : Nat) (x : MainsT) : (s.setMains n x).tele = s.tele := rfl
@[simp] theorem State.setMains_teleEnd (n : Nat) (x : MainsT) : (s.setMains n x).teleEnd = s.teleEnd := rfl
@[simp] theorem State.setMains_shorted (n : Nat) (x : MainsT) : (s.setMains n x).shorted = s.shorted := rfl
@[simp] theorem State.setMains_captures (n : Nat) (x : MainsT) : (s.setMains n x).captures = s.captures := rfl
@[simp] theorem State.setMains_journal (n : Nat) (x : MainsT) : (s.setMains n x).journal = s.journal := rfl
@[simp] theorem State.setMains_storage (n : Nat) (x : MainsT) : (s.setMains n x).storage = s.storage := rfl
@[simp] theorem State.setMains_always (n : Nat) (x : MainsT) : (s.setMains n x).always = s.always := rfl
@[simp] theorem State.setMains_run (n : Nat) (x : MainsT) : (s.setMains n x).run = s.run := rfl
@[simp] theorem State.setMains_twin (n : Nat) (x : MainsT) : (s.setMains n x).twin = s.twin := rfl
@[simp] theorem State.setMains_ring (n : Nat) (x : MainsT) : (s.setMains n x).ring = s.ring := rfl
@[simp] theorem State.setMains_access (n : Nat) (x : MainsT) : (s.setMains n x).access = s.access := rfl
@[simp] theorem State.setMains_twinState (n : Nat) (x : MainsT) : (s.setMains n x).twinState = s.twinState := rfl
@[simp] theorem State.setMains_inReset (n : Nat) (x : MainsT) : (s.setMains n x).inReset = s.inReset := rfl
@[simp] theorem State.setMains_seqFloor (n : Nat) (x : MainsT) : (s.setMains n x).seqFloor = s.seqFloor := rfl
@[simp] theorem State.setMains_chipSeq (n : Nat) (x : MainsT) : (s.setMains n x).chipSeq = s.chipSeq := rfl
@[simp] theorem State.setMains_regionSeq (n : Nat) (x : MainsT) : (s.setMains n x).regionSeq = s.regionSeq := rfl
@[simp] theorem State.setMains_accepting (n : Nat) (x : MainsT) : (s.setMains n x).accepting = s.accepting := rfl
@[simp] theorem State.setMains_engineSlot (n : Nat) (x : MainsT) : (s.setMains n x).engineSlot = s.engineSlot := rfl
@[simp] theorem State.setMains_feedMarks (n : Nat) (x : MainsT) : (s.setMains n x).feedMarks = s.feedMarks := rfl
@[simp] theorem State.setMains_stepAt (n : Nat) (x : MainsT) : (s.setMains n x).stepAt = s.stepAt := rfl

/-! ### setFrame -/

@[simp] theorem State.setFrame_now (x : FrameT) : (s.setFrame x).now = s.now := rfl
@[simp] theorem State.setFrame_freeBase (x : FrameT) : (s.setFrame x).freeBase = s.freeBase := rfl
@[simp] theorem State.setFrame_turnDone (x : FrameT) : (s.setFrame x).turnDone = s.turnDone := rfl
@[simp] theorem State.setFrame_pending (x : FrameT) : (s.setFrame x).pending = s.pending := rfl
@[simp] theorem State.setFrame_obj (x : FrameT) : (s.setFrame x).obj = s.obj := rfl
@[simp] theorem State.setFrame_lastResult (x : FrameT) : (s.setFrame x).lastResult = s.lastResult := rfl
@[simp] theorem State.setFrame_lastRead (x : FrameT) : (s.setFrame x).lastRead = s.lastRead := rfl
@[simp] theorem State.setFrame_freeCount (x : FrameT) : (s.setFrame x).freeCount = s.freeCount := rfl
@[simp] theorem State.setFrame_faults (x : FrameT) : (s.setFrame x).faults = s.faults := rfl
@[simp] theorem State.setFrame_inputs (x : FrameT) : (s.setFrame x).inputs = s.inputs := rfl
@[simp] theorem State.setFrame_acceptAt (x : FrameT) : (s.setFrame x).acceptAt = s.acceptAt := rfl
@[simp] theorem State.setFrame_limited (x : FrameT) : (s.setFrame x).limited = s.limited := rfl
@[simp] theorem State.setFrame_cells (x : FrameT) : (s.setFrame x).cells = s.cells := rfl
@[simp] theorem State.setFrame_ctxs (x : FrameT) : (s.setFrame x).ctxs = s.ctxs := rfl
@[simp] theorem State.setFrame_engineBusy (x : FrameT) : (s.setFrame x).engineBusy = s.engineBusy := rfl
@[simp] theorem State.setFrame_groups (x : FrameT) : (s.setFrame x).groups = s.groups := rfl
@[simp] theorem State.setFrame_pools (x : FrameT) : (s.setFrame x).pools = s.pools := rfl
@[simp] theorem State.setFrame_volts (x : FrameT) : (s.setFrame x).volts = s.volts := rfl
@[simp] theorem State.setFrame_acs (x : FrameT) : (s.setFrame x).acs = s.acs := rfl
@[simp] theorem State.setFrame_bridge (x : FrameT) : (s.setFrame x).bridge = s.bridge := rfl
@[simp] theorem State.setFrame_feeds (x : FrameT) : (s.setFrame x).feeds = s.feeds := rfl
@[simp] theorem State.setFrame_selector (x : FrameT) : (s.setFrame x).selector = s.selector := rfl
@[simp] theorem State.setFrame_seqs (x : FrameT) : (s.setFrame x).seqs = s.seqs := rfl
@[simp] theorem State.setFrame_mains (x : FrameT) : (s.setFrame x).mains = s.mains := rfl
@[simp] theorem State.setFrame_frame (x : FrameT) : (s.setFrame x).frame = x := rfl
@[simp] theorem State.setFrame_loadMap (x : FrameT) : (s.setFrame x).loadMap = s.loadMap := rfl
@[simp] theorem State.setFrame_moves (x : FrameT) : (s.setFrame x).moves = s.moves := rfl
@[simp] theorem State.setFrame_strings (x : FrameT) : (s.setFrame x).strings = s.strings := rfl
@[simp] theorem State.setFrame_runSavedAt (x : FrameT) : (s.setFrame x).runSavedAt = s.runSavedAt := rfl
@[simp] theorem State.setFrame_tables (x : FrameT) : (s.setFrame x).tables = s.tables := rfl
@[simp] theorem State.setFrame_tableClass (x : FrameT) : (s.setFrame x).tableClass = s.tableClass := rfl
@[simp] theorem State.setFrame_auth (x : FrameT) : (s.setFrame x).auth = s.auth := rfl
@[simp] theorem State.setFrame_temps (x : FrameT) : (s.setFrame x).temps = s.temps := rfl
@[simp] theorem State.setFrame_sinks (x : FrameT) : (s.setFrame x).sinks = s.sinks := rfl
@[simp] theorem State.setFrame_drivers (x : FrameT) : (s.setFrame x).drivers = s.drivers := rfl
@[simp] theorem State.setFrame_dies (x : FrameT) : (s.setFrame x).dies = s.dies := rfl
@[simp] theorem State.setFrame_progSlots (x : FrameT) : (s.setFrame x).progSlots = s.progSlots := rfl
@[simp] theorem State.setFrame_deferred (x : FrameT) : (s.setFrame x).deferred = s.deferred := rfl
@[simp] theorem State.setFrame_mainsPart (x : FrameT) : (s.setFrame x).mainsPart = s.mainsPart := rfl
@[simp] theorem State.setFrame_feedPart (x : FrameT) : (s.setFrame x).feedPart = s.feedPart := rfl
@[simp] theorem State.setFrame_noPart (x : FrameT) : (s.setFrame x).noPart = s.noPart := rfl
@[simp] theorem State.setFrame_watch (x : FrameT) : (s.setFrame x).watch = s.watch := rfl
@[simp] theorem State.setFrame_tele (x : FrameT) : (s.setFrame x).tele = s.tele := rfl
@[simp] theorem State.setFrame_teleEnd (x : FrameT) : (s.setFrame x).teleEnd = s.teleEnd := rfl
@[simp] theorem State.setFrame_shorted (x : FrameT) : (s.setFrame x).shorted = s.shorted := rfl
@[simp] theorem State.setFrame_captures (x : FrameT) : (s.setFrame x).captures = s.captures := rfl
@[simp] theorem State.setFrame_journal (x : FrameT) : (s.setFrame x).journal = s.journal := rfl
@[simp] theorem State.setFrame_storage (x : FrameT) : (s.setFrame x).storage = s.storage := rfl
@[simp] theorem State.setFrame_always (x : FrameT) : (s.setFrame x).always = s.always := rfl
@[simp] theorem State.setFrame_run (x : FrameT) : (s.setFrame x).run = s.run := rfl
@[simp] theorem State.setFrame_twin (x : FrameT) : (s.setFrame x).twin = s.twin := rfl
@[simp] theorem State.setFrame_ring (x : FrameT) : (s.setFrame x).ring = s.ring := rfl
@[simp] theorem State.setFrame_access (x : FrameT) : (s.setFrame x).access = s.access := rfl
@[simp] theorem State.setFrame_twinState (x : FrameT) : (s.setFrame x).twinState = s.twinState := rfl
@[simp] theorem State.setFrame_inReset (x : FrameT) : (s.setFrame x).inReset = s.inReset := rfl
@[simp] theorem State.setFrame_seqFloor (x : FrameT) : (s.setFrame x).seqFloor = s.seqFloor := rfl
@[simp] theorem State.setFrame_chipSeq (x : FrameT) : (s.setFrame x).chipSeq = s.chipSeq := rfl
@[simp] theorem State.setFrame_regionSeq (x : FrameT) : (s.setFrame x).regionSeq = s.regionSeq := rfl
@[simp] theorem State.setFrame_accepting (x : FrameT) : (s.setFrame x).accepting = s.accepting := rfl
@[simp] theorem State.setFrame_engineSlot (x : FrameT) : (s.setFrame x).engineSlot = s.engineSlot := rfl
@[simp] theorem State.setFrame_feedMarks (x : FrameT) : (s.setFrame x).feedMarks = s.feedMarks := rfl
@[simp] theorem State.setFrame_stepAt (x : FrameT) : (s.setFrame x).stepAt = s.stepAt := rfl

/-! ### setMove -/

@[simp] theorem State.setMove_now (n : Nat) (x : MoveT) : (s.setMove n x).now = s.now := rfl
@[simp] theorem State.setMove_freeBase (n : Nat) (x : MoveT) : (s.setMove n x).freeBase = s.freeBase := rfl
@[simp] theorem State.setMove_turnDone (n : Nat) (x : MoveT) : (s.setMove n x).turnDone = s.turnDone := rfl
@[simp] theorem State.setMove_pending (n : Nat) (x : MoveT) : (s.setMove n x).pending = s.pending := rfl
@[simp] theorem State.setMove_obj (n : Nat) (x : MoveT) : (s.setMove n x).obj = s.obj := rfl
@[simp] theorem State.setMove_lastResult (n : Nat) (x : MoveT) : (s.setMove n x).lastResult = s.lastResult := rfl
@[simp] theorem State.setMove_lastRead (n : Nat) (x : MoveT) : (s.setMove n x).lastRead = s.lastRead := rfl
@[simp] theorem State.setMove_freeCount (n : Nat) (x : MoveT) : (s.setMove n x).freeCount = s.freeCount := rfl
@[simp] theorem State.setMove_faults (n : Nat) (x : MoveT) : (s.setMove n x).faults = s.faults := rfl
@[simp] theorem State.setMove_inputs (n : Nat) (x : MoveT) : (s.setMove n x).inputs = s.inputs := rfl
@[simp] theorem State.setMove_acceptAt (n : Nat) (x : MoveT) : (s.setMove n x).acceptAt = s.acceptAt := rfl
@[simp] theorem State.setMove_limited (n : Nat) (x : MoveT) : (s.setMove n x).limited = s.limited := rfl
@[simp] theorem State.setMove_cells (n : Nat) (x : MoveT) : (s.setMove n x).cells = s.cells := rfl
@[simp] theorem State.setMove_ctxs (n : Nat) (x : MoveT) : (s.setMove n x).ctxs = s.ctxs := rfl
@[simp] theorem State.setMove_engineBusy (n : Nat) (x : MoveT) : (s.setMove n x).engineBusy = s.engineBusy := rfl
@[simp] theorem State.setMove_groups (n : Nat) (x : MoveT) : (s.setMove n x).groups = s.groups := rfl
@[simp] theorem State.setMove_pools (n : Nat) (x : MoveT) : (s.setMove n x).pools = s.pools := rfl
@[simp] theorem State.setMove_volts (n : Nat) (x : MoveT) : (s.setMove n x).volts = s.volts := rfl
@[simp] theorem State.setMove_acs (n : Nat) (x : MoveT) : (s.setMove n x).acs = s.acs := rfl
@[simp] theorem State.setMove_bridge (n : Nat) (x : MoveT) : (s.setMove n x).bridge = s.bridge := rfl
@[simp] theorem State.setMove_feeds (n : Nat) (x : MoveT) : (s.setMove n x).feeds = s.feeds := rfl
@[simp] theorem State.setMove_selector (n : Nat) (x : MoveT) : (s.setMove n x).selector = s.selector := rfl
@[simp] theorem State.setMove_seqs (n : Nat) (x : MoveT) : (s.setMove n x).seqs = s.seqs := rfl
@[simp] theorem State.setMove_mains (n : Nat) (x : MoveT) : (s.setMove n x).mains = s.mains := rfl
@[simp] theorem State.setMove_frame (n : Nat) (x : MoveT) : (s.setMove n x).frame = s.frame := rfl
@[simp] theorem State.setMove_loadMap (n : Nat) (x : MoveT) : (s.setMove n x).loadMap = s.loadMap := rfl
@[simp] theorem State.setMove_moves (n : Nat) (x : MoveT) : (s.setMove n x).moves = bset s.moves n x := rfl
@[simp] theorem State.setMove_strings (n : Nat) (x : MoveT) : (s.setMove n x).strings = s.strings := rfl
@[simp] theorem State.setMove_runSavedAt (n : Nat) (x : MoveT) : (s.setMove n x).runSavedAt = s.runSavedAt := rfl
@[simp] theorem State.setMove_tables (n : Nat) (x : MoveT) : (s.setMove n x).tables = s.tables := rfl
@[simp] theorem State.setMove_tableClass (n : Nat) (x : MoveT) : (s.setMove n x).tableClass = s.tableClass := rfl
@[simp] theorem State.setMove_auth (n : Nat) (x : MoveT) : (s.setMove n x).auth = s.auth := rfl
@[simp] theorem State.setMove_temps (n : Nat) (x : MoveT) : (s.setMove n x).temps = s.temps := rfl
@[simp] theorem State.setMove_sinks (n : Nat) (x : MoveT) : (s.setMove n x).sinks = s.sinks := rfl
@[simp] theorem State.setMove_drivers (n : Nat) (x : MoveT) : (s.setMove n x).drivers = s.drivers := rfl
@[simp] theorem State.setMove_dies (n : Nat) (x : MoveT) : (s.setMove n x).dies = s.dies := rfl
@[simp] theorem State.setMove_progSlots (n : Nat) (x : MoveT) : (s.setMove n x).progSlots = s.progSlots := rfl
@[simp] theorem State.setMove_deferred (n : Nat) (x : MoveT) : (s.setMove n x).deferred = s.deferred := rfl
@[simp] theorem State.setMove_mainsPart (n : Nat) (x : MoveT) : (s.setMove n x).mainsPart = s.mainsPart := rfl
@[simp] theorem State.setMove_feedPart (n : Nat) (x : MoveT) : (s.setMove n x).feedPart = s.feedPart := rfl
@[simp] theorem State.setMove_noPart (n : Nat) (x : MoveT) : (s.setMove n x).noPart = s.noPart := rfl
@[simp] theorem State.setMove_watch (n : Nat) (x : MoveT) : (s.setMove n x).watch = s.watch := rfl
@[simp] theorem State.setMove_tele (n : Nat) (x : MoveT) : (s.setMove n x).tele = s.tele := rfl
@[simp] theorem State.setMove_teleEnd (n : Nat) (x : MoveT) : (s.setMove n x).teleEnd = s.teleEnd := rfl
@[simp] theorem State.setMove_shorted (n : Nat) (x : MoveT) : (s.setMove n x).shorted = s.shorted := rfl
@[simp] theorem State.setMove_captures (n : Nat) (x : MoveT) : (s.setMove n x).captures = s.captures := rfl
@[simp] theorem State.setMove_journal (n : Nat) (x : MoveT) : (s.setMove n x).journal = s.journal := rfl
@[simp] theorem State.setMove_storage (n : Nat) (x : MoveT) : (s.setMove n x).storage = s.storage := rfl
@[simp] theorem State.setMove_always (n : Nat) (x : MoveT) : (s.setMove n x).always = s.always := rfl
@[simp] theorem State.setMove_run (n : Nat) (x : MoveT) : (s.setMove n x).run = s.run := rfl
@[simp] theorem State.setMove_twin (n : Nat) (x : MoveT) : (s.setMove n x).twin = s.twin := rfl
@[simp] theorem State.setMove_ring (n : Nat) (x : MoveT) : (s.setMove n x).ring = s.ring := rfl
@[simp] theorem State.setMove_access (n : Nat) (x : MoveT) : (s.setMove n x).access = s.access := rfl
@[simp] theorem State.setMove_twinState (n : Nat) (x : MoveT) : (s.setMove n x).twinState = s.twinState := rfl
@[simp] theorem State.setMove_inReset (n : Nat) (x : MoveT) : (s.setMove n x).inReset = s.inReset := rfl
@[simp] theorem State.setMove_seqFloor (n : Nat) (x : MoveT) : (s.setMove n x).seqFloor = s.seqFloor := rfl
@[simp] theorem State.setMove_chipSeq (n : Nat) (x : MoveT) : (s.setMove n x).chipSeq = s.chipSeq := rfl
@[simp] theorem State.setMove_regionSeq (n : Nat) (x : MoveT) : (s.setMove n x).regionSeq = s.regionSeq := rfl
@[simp] theorem State.setMove_accepting (n : Nat) (x : MoveT) : (s.setMove n x).accepting = s.accepting := rfl
@[simp] theorem State.setMove_engineSlot (n : Nat) (x : MoveT) : (s.setMove n x).engineSlot = s.engineSlot := rfl
@[simp] theorem State.setMove_feedMarks (n : Nat) (x : MoveT) : (s.setMove n x).feedMarks = s.feedMarks := rfl
@[simp] theorem State.setMove_stepAt (n : Nat) (x : MoveT) : (s.setMove n x).stepAt = s.stepAt := rfl

/-! ### setTempIn -/

@[simp] theorem State.setTempIn_now (n : Nat) (x : TempIn) : (s.setTempIn n x).now = s.now := rfl
@[simp] theorem State.setTempIn_freeBase (n : Nat) (x : TempIn) : (s.setTempIn n x).freeBase = s.freeBase := rfl
@[simp] theorem State.setTempIn_turnDone (n : Nat) (x : TempIn) : (s.setTempIn n x).turnDone = s.turnDone := rfl
@[simp] theorem State.setTempIn_pending (n : Nat) (x : TempIn) : (s.setTempIn n x).pending = s.pending := rfl
@[simp] theorem State.setTempIn_obj (n : Nat) (x : TempIn) : (s.setTempIn n x).obj = s.obj := rfl
@[simp] theorem State.setTempIn_lastResult (n : Nat) (x : TempIn) : (s.setTempIn n x).lastResult = s.lastResult := rfl
@[simp] theorem State.setTempIn_lastRead (n : Nat) (x : TempIn) : (s.setTempIn n x).lastRead = s.lastRead := rfl
@[simp] theorem State.setTempIn_freeCount (n : Nat) (x : TempIn) : (s.setTempIn n x).freeCount = s.freeCount := rfl
@[simp] theorem State.setTempIn_faults (n : Nat) (x : TempIn) : (s.setTempIn n x).faults = s.faults := rfl
@[simp] theorem State.setTempIn_inputs (n : Nat) (x : TempIn) : (s.setTempIn n x).inputs = s.inputs := rfl
@[simp] theorem State.setTempIn_acceptAt (n : Nat) (x : TempIn) : (s.setTempIn n x).acceptAt = s.acceptAt := rfl
@[simp] theorem State.setTempIn_limited (n : Nat) (x : TempIn) : (s.setTempIn n x).limited = s.limited := rfl
@[simp] theorem State.setTempIn_cells (n : Nat) (x : TempIn) : (s.setTempIn n x).cells = s.cells := rfl
@[simp] theorem State.setTempIn_ctxs (n : Nat) (x : TempIn) : (s.setTempIn n x).ctxs = s.ctxs := rfl
@[simp] theorem State.setTempIn_engineBusy (n : Nat) (x : TempIn) : (s.setTempIn n x).engineBusy = s.engineBusy := rfl
@[simp] theorem State.setTempIn_groups (n : Nat) (x : TempIn) : (s.setTempIn n x).groups = s.groups := rfl
@[simp] theorem State.setTempIn_pools (n : Nat) (x : TempIn) : (s.setTempIn n x).pools = s.pools := rfl
@[simp] theorem State.setTempIn_volts (n : Nat) (x : TempIn) : (s.setTempIn n x).volts = s.volts := rfl
@[simp] theorem State.setTempIn_acs (n : Nat) (x : TempIn) : (s.setTempIn n x).acs = s.acs := rfl
@[simp] theorem State.setTempIn_bridge (n : Nat) (x : TempIn) : (s.setTempIn n x).bridge = s.bridge := rfl
@[simp] theorem State.setTempIn_feeds (n : Nat) (x : TempIn) : (s.setTempIn n x).feeds = s.feeds := rfl
@[simp] theorem State.setTempIn_selector (n : Nat) (x : TempIn) : (s.setTempIn n x).selector = s.selector := rfl
@[simp] theorem State.setTempIn_seqs (n : Nat) (x : TempIn) : (s.setTempIn n x).seqs = s.seqs := rfl
@[simp] theorem State.setTempIn_mains (n : Nat) (x : TempIn) : (s.setTempIn n x).mains = s.mains := rfl
@[simp] theorem State.setTempIn_frame (n : Nat) (x : TempIn) : (s.setTempIn n x).frame = s.frame := rfl
@[simp] theorem State.setTempIn_loadMap (n : Nat) (x : TempIn) : (s.setTempIn n x).loadMap = s.loadMap := rfl
@[simp] theorem State.setTempIn_moves (n : Nat) (x : TempIn) : (s.setTempIn n x).moves = s.moves := rfl
@[simp] theorem State.setTempIn_strings (n : Nat) (x : TempIn) : (s.setTempIn n x).strings = s.strings := rfl
@[simp] theorem State.setTempIn_runSavedAt (n : Nat) (x : TempIn) : (s.setTempIn n x).runSavedAt = s.runSavedAt := rfl
@[simp] theorem State.setTempIn_tables (n : Nat) (x : TempIn) : (s.setTempIn n x).tables = s.tables := rfl
@[simp] theorem State.setTempIn_tableClass (n : Nat) (x : TempIn) : (s.setTempIn n x).tableClass = s.tableClass := rfl
@[simp] theorem State.setTempIn_auth (n : Nat) (x : TempIn) : (s.setTempIn n x).auth = s.auth := rfl
@[simp] theorem State.setTempIn_temps (n : Nat) (x : TempIn) : (s.setTempIn n x).temps = bset s.temps n x := rfl
@[simp] theorem State.setTempIn_sinks (n : Nat) (x : TempIn) : (s.setTempIn n x).sinks = s.sinks := rfl
@[simp] theorem State.setTempIn_drivers (n : Nat) (x : TempIn) : (s.setTempIn n x).drivers = s.drivers := rfl
@[simp] theorem State.setTempIn_dies (n : Nat) (x : TempIn) : (s.setTempIn n x).dies = s.dies := rfl
@[simp] theorem State.setTempIn_progSlots (n : Nat) (x : TempIn) : (s.setTempIn n x).progSlots = s.progSlots := rfl
@[simp] theorem State.setTempIn_deferred (n : Nat) (x : TempIn) : (s.setTempIn n x).deferred = s.deferred := rfl
@[simp] theorem State.setTempIn_mainsPart (n : Nat) (x : TempIn) : (s.setTempIn n x).mainsPart = s.mainsPart := rfl
@[simp] theorem State.setTempIn_feedPart (n : Nat) (x : TempIn) : (s.setTempIn n x).feedPart = s.feedPart := rfl
@[simp] theorem State.setTempIn_noPart (n : Nat) (x : TempIn) : (s.setTempIn n x).noPart = s.noPart := rfl
@[simp] theorem State.setTempIn_watch (n : Nat) (x : TempIn) : (s.setTempIn n x).watch = s.watch := rfl
@[simp] theorem State.setTempIn_tele (n : Nat) (x : TempIn) : (s.setTempIn n x).tele = s.tele := rfl
@[simp] theorem State.setTempIn_teleEnd (n : Nat) (x : TempIn) : (s.setTempIn n x).teleEnd = s.teleEnd := rfl
@[simp] theorem State.setTempIn_shorted (n : Nat) (x : TempIn) : (s.setTempIn n x).shorted = s.shorted := rfl
@[simp] theorem State.setTempIn_captures (n : Nat) (x : TempIn) : (s.setTempIn n x).captures = s.captures := rfl
@[simp] theorem State.setTempIn_journal (n : Nat) (x : TempIn) : (s.setTempIn n x).journal = s.journal := rfl
@[simp] theorem State.setTempIn_storage (n : Nat) (x : TempIn) : (s.setTempIn n x).storage = s.storage := rfl
@[simp] theorem State.setTempIn_always (n : Nat) (x : TempIn) : (s.setTempIn n x).always = s.always := rfl
@[simp] theorem State.setTempIn_run (n : Nat) (x : TempIn) : (s.setTempIn n x).run = s.run := rfl
@[simp] theorem State.setTempIn_twin (n : Nat) (x : TempIn) : (s.setTempIn n x).twin = s.twin := rfl
@[simp] theorem State.setTempIn_ring (n : Nat) (x : TempIn) : (s.setTempIn n x).ring = s.ring := rfl
@[simp] theorem State.setTempIn_access (n : Nat) (x : TempIn) : (s.setTempIn n x).access = s.access := rfl
@[simp] theorem State.setTempIn_twinState (n : Nat) (x : TempIn) : (s.setTempIn n x).twinState = s.twinState := rfl
@[simp] theorem State.setTempIn_inReset (n : Nat) (x : TempIn) : (s.setTempIn n x).inReset = s.inReset := rfl
@[simp] theorem State.setTempIn_seqFloor (n : Nat) (x : TempIn) : (s.setTempIn n x).seqFloor = s.seqFloor := rfl
@[simp] theorem State.setTempIn_chipSeq (n : Nat) (x : TempIn) : (s.setTempIn n x).chipSeq = s.chipSeq := rfl
@[simp] theorem State.setTempIn_regionSeq (n : Nat) (x : TempIn) : (s.setTempIn n x).regionSeq = s.regionSeq := rfl
@[simp] theorem State.setTempIn_accepting (n : Nat) (x : TempIn) : (s.setTempIn n x).accepting = s.accepting := rfl
@[simp] theorem State.setTempIn_engineSlot (n : Nat) (x : TempIn) : (s.setTempIn n x).engineSlot = s.engineSlot := rfl
@[simp] theorem State.setTempIn_feedMarks (n : Nat) (x : TempIn) : (s.setTempIn n x).feedMarks = s.feedMarks := rfl
@[simp] theorem State.setTempIn_stepAt (n : Nat) (x : TempIn) : (s.setTempIn n x).stepAt = s.stepAt := rfl

/-! ### setSink -/

@[simp] theorem State.setSink_now (n : Nat) (x : Sink) : (s.setSink n x).now = s.now := rfl
@[simp] theorem State.setSink_freeBase (n : Nat) (x : Sink) : (s.setSink n x).freeBase = s.freeBase := rfl
@[simp] theorem State.setSink_turnDone (n : Nat) (x : Sink) : (s.setSink n x).turnDone = s.turnDone := rfl
@[simp] theorem State.setSink_pending (n : Nat) (x : Sink) : (s.setSink n x).pending = s.pending := rfl
@[simp] theorem State.setSink_obj (n : Nat) (x : Sink) : (s.setSink n x).obj = s.obj := rfl
@[simp] theorem State.setSink_lastResult (n : Nat) (x : Sink) : (s.setSink n x).lastResult = s.lastResult := rfl
@[simp] theorem State.setSink_lastRead (n : Nat) (x : Sink) : (s.setSink n x).lastRead = s.lastRead := rfl
@[simp] theorem State.setSink_freeCount (n : Nat) (x : Sink) : (s.setSink n x).freeCount = s.freeCount := rfl
@[simp] theorem State.setSink_faults (n : Nat) (x : Sink) : (s.setSink n x).faults = s.faults := rfl
@[simp] theorem State.setSink_inputs (n : Nat) (x : Sink) : (s.setSink n x).inputs = s.inputs := rfl
@[simp] theorem State.setSink_acceptAt (n : Nat) (x : Sink) : (s.setSink n x).acceptAt = s.acceptAt := rfl
@[simp] theorem State.setSink_limited (n : Nat) (x : Sink) : (s.setSink n x).limited = s.limited := rfl
@[simp] theorem State.setSink_cells (n : Nat) (x : Sink) : (s.setSink n x).cells = s.cells := rfl
@[simp] theorem State.setSink_ctxs (n : Nat) (x : Sink) : (s.setSink n x).ctxs = s.ctxs := rfl
@[simp] theorem State.setSink_engineBusy (n : Nat) (x : Sink) : (s.setSink n x).engineBusy = s.engineBusy := rfl
@[simp] theorem State.setSink_groups (n : Nat) (x : Sink) : (s.setSink n x).groups = s.groups := rfl
@[simp] theorem State.setSink_pools (n : Nat) (x : Sink) : (s.setSink n x).pools = s.pools := rfl
@[simp] theorem State.setSink_volts (n : Nat) (x : Sink) : (s.setSink n x).volts = s.volts := rfl
@[simp] theorem State.setSink_acs (n : Nat) (x : Sink) : (s.setSink n x).acs = s.acs := rfl
@[simp] theorem State.setSink_bridge (n : Nat) (x : Sink) : (s.setSink n x).bridge = s.bridge := rfl
@[simp] theorem State.setSink_feeds (n : Nat) (x : Sink) : (s.setSink n x).feeds = s.feeds := rfl
@[simp] theorem State.setSink_selector (n : Nat) (x : Sink) : (s.setSink n x).selector = s.selector := rfl
@[simp] theorem State.setSink_seqs (n : Nat) (x : Sink) : (s.setSink n x).seqs = s.seqs := rfl
@[simp] theorem State.setSink_mains (n : Nat) (x : Sink) : (s.setSink n x).mains = s.mains := rfl
@[simp] theorem State.setSink_frame (n : Nat) (x : Sink) : (s.setSink n x).frame = s.frame := rfl
@[simp] theorem State.setSink_loadMap (n : Nat) (x : Sink) : (s.setSink n x).loadMap = s.loadMap := rfl
@[simp] theorem State.setSink_moves (n : Nat) (x : Sink) : (s.setSink n x).moves = s.moves := rfl
@[simp] theorem State.setSink_strings (n : Nat) (x : Sink) : (s.setSink n x).strings = s.strings := rfl
@[simp] theorem State.setSink_runSavedAt (n : Nat) (x : Sink) : (s.setSink n x).runSavedAt = s.runSavedAt := rfl
@[simp] theorem State.setSink_tables (n : Nat) (x : Sink) : (s.setSink n x).tables = s.tables := rfl
@[simp] theorem State.setSink_tableClass (n : Nat) (x : Sink) : (s.setSink n x).tableClass = s.tableClass := rfl
@[simp] theorem State.setSink_auth (n : Nat) (x : Sink) : (s.setSink n x).auth = s.auth := rfl
@[simp] theorem State.setSink_temps (n : Nat) (x : Sink) : (s.setSink n x).temps = s.temps := rfl
@[simp] theorem State.setSink_sinks (n : Nat) (x : Sink) : (s.setSink n x).sinks = bset s.sinks n x := rfl
@[simp] theorem State.setSink_drivers (n : Nat) (x : Sink) : (s.setSink n x).drivers = s.drivers := rfl
@[simp] theorem State.setSink_dies (n : Nat) (x : Sink) : (s.setSink n x).dies = s.dies := rfl
@[simp] theorem State.setSink_progSlots (n : Nat) (x : Sink) : (s.setSink n x).progSlots = s.progSlots := rfl
@[simp] theorem State.setSink_deferred (n : Nat) (x : Sink) : (s.setSink n x).deferred = s.deferred := rfl
@[simp] theorem State.setSink_mainsPart (n : Nat) (x : Sink) : (s.setSink n x).mainsPart = s.mainsPart := rfl
@[simp] theorem State.setSink_feedPart (n : Nat) (x : Sink) : (s.setSink n x).feedPart = s.feedPart := rfl
@[simp] theorem State.setSink_noPart (n : Nat) (x : Sink) : (s.setSink n x).noPart = s.noPart := rfl
@[simp] theorem State.setSink_watch (n : Nat) (x : Sink) : (s.setSink n x).watch = s.watch := rfl
@[simp] theorem State.setSink_tele (n : Nat) (x : Sink) : (s.setSink n x).tele = s.tele := rfl
@[simp] theorem State.setSink_teleEnd (n : Nat) (x : Sink) : (s.setSink n x).teleEnd = s.teleEnd := rfl
@[simp] theorem State.setSink_shorted (n : Nat) (x : Sink) : (s.setSink n x).shorted = s.shorted := rfl
@[simp] theorem State.setSink_captures (n : Nat) (x : Sink) : (s.setSink n x).captures = s.captures := rfl
@[simp] theorem State.setSink_journal (n : Nat) (x : Sink) : (s.setSink n x).journal = s.journal := rfl
@[simp] theorem State.setSink_storage (n : Nat) (x : Sink) : (s.setSink n x).storage = s.storage := rfl
@[simp] theorem State.setSink_always (n : Nat) (x : Sink) : (s.setSink n x).always = s.always := rfl
@[simp] theorem State.setSink_run (n : Nat) (x : Sink) : (s.setSink n x).run = s.run := rfl
@[simp] theorem State.setSink_twin (n : Nat) (x : Sink) : (s.setSink n x).twin = s.twin := rfl
@[simp] theorem State.setSink_ring (n : Nat) (x : Sink) : (s.setSink n x).ring = s.ring := rfl
@[simp] theorem State.setSink_access (n : Nat) (x : Sink) : (s.setSink n x).access = s.access := rfl
@[simp] theorem State.setSink_twinState (n : Nat) (x : Sink) : (s.setSink n x).twinState = s.twinState := rfl
@[simp] theorem State.setSink_inReset (n : Nat) (x : Sink) : (s.setSink n x).inReset = s.inReset := rfl
@[simp] theorem State.setSink_seqFloor (n : Nat) (x : Sink) : (s.setSink n x).seqFloor = s.seqFloor := rfl
@[simp] theorem State.setSink_chipSeq (n : Nat) (x : Sink) : (s.setSink n x).chipSeq = s.chipSeq := rfl
@[simp] theorem State.setSink_regionSeq (n : Nat) (x : Sink) : (s.setSink n x).regionSeq = s.regionSeq := rfl
@[simp] theorem State.setSink_accepting (n : Nat) (x : Sink) : (s.setSink n x).accepting = s.accepting := rfl
@[simp] theorem State.setSink_engineSlot (n : Nat) (x : Sink) : (s.setSink n x).engineSlot = s.engineSlot := rfl
@[simp] theorem State.setSink_feedMarks (n : Nat) (x : Sink) : (s.setSink n x).feedMarks = s.feedMarks := rfl
@[simp] theorem State.setSink_stepAt (n : Nat) (x : Sink) : (s.setSink n x).stepAt = s.stepAt := rfl

/-! ### setDriver -/

@[simp] theorem State.setDriver_now (n : Nat) (x : Driver) : (s.setDriver n x).now = s.now := rfl
@[simp] theorem State.setDriver_freeBase (n : Nat) (x : Driver) : (s.setDriver n x).freeBase = s.freeBase := rfl
@[simp] theorem State.setDriver_turnDone (n : Nat) (x : Driver) : (s.setDriver n x).turnDone = s.turnDone := rfl
@[simp] theorem State.setDriver_pending (n : Nat) (x : Driver) : (s.setDriver n x).pending = s.pending := rfl
@[simp] theorem State.setDriver_obj (n : Nat) (x : Driver) : (s.setDriver n x).obj = s.obj := rfl
@[simp] theorem State.setDriver_lastResult (n : Nat) (x : Driver) : (s.setDriver n x).lastResult = s.lastResult := rfl
@[simp] theorem State.setDriver_lastRead (n : Nat) (x : Driver) : (s.setDriver n x).lastRead = s.lastRead := rfl
@[simp] theorem State.setDriver_freeCount (n : Nat) (x : Driver) : (s.setDriver n x).freeCount = s.freeCount := rfl
@[simp] theorem State.setDriver_faults (n : Nat) (x : Driver) : (s.setDriver n x).faults = s.faults := rfl
@[simp] theorem State.setDriver_inputs (n : Nat) (x : Driver) : (s.setDriver n x).inputs = s.inputs := rfl
@[simp] theorem State.setDriver_acceptAt (n : Nat) (x : Driver) : (s.setDriver n x).acceptAt = s.acceptAt := rfl
@[simp] theorem State.setDriver_limited (n : Nat) (x : Driver) : (s.setDriver n x).limited = s.limited := rfl
@[simp] theorem State.setDriver_cells (n : Nat) (x : Driver) : (s.setDriver n x).cells = s.cells := rfl
@[simp] theorem State.setDriver_ctxs (n : Nat) (x : Driver) : (s.setDriver n x).ctxs = s.ctxs := rfl
@[simp] theorem State.setDriver_engineBusy (n : Nat) (x : Driver) : (s.setDriver n x).engineBusy = s.engineBusy := rfl
@[simp] theorem State.setDriver_groups (n : Nat) (x : Driver) : (s.setDriver n x).groups = s.groups := rfl
@[simp] theorem State.setDriver_pools (n : Nat) (x : Driver) : (s.setDriver n x).pools = s.pools := rfl
@[simp] theorem State.setDriver_volts (n : Nat) (x : Driver) : (s.setDriver n x).volts = s.volts := rfl
@[simp] theorem State.setDriver_acs (n : Nat) (x : Driver) : (s.setDriver n x).acs = s.acs := rfl
@[simp] theorem State.setDriver_bridge (n : Nat) (x : Driver) : (s.setDriver n x).bridge = s.bridge := rfl
@[simp] theorem State.setDriver_feeds (n : Nat) (x : Driver) : (s.setDriver n x).feeds = s.feeds := rfl
@[simp] theorem State.setDriver_selector (n : Nat) (x : Driver) : (s.setDriver n x).selector = s.selector := rfl
@[simp] theorem State.setDriver_seqs (n : Nat) (x : Driver) : (s.setDriver n x).seqs = s.seqs := rfl
@[simp] theorem State.setDriver_mains (n : Nat) (x : Driver) : (s.setDriver n x).mains = s.mains := rfl
@[simp] theorem State.setDriver_frame (n : Nat) (x : Driver) : (s.setDriver n x).frame = s.frame := rfl
@[simp] theorem State.setDriver_loadMap (n : Nat) (x : Driver) : (s.setDriver n x).loadMap = s.loadMap := rfl
@[simp] theorem State.setDriver_moves (n : Nat) (x : Driver) : (s.setDriver n x).moves = s.moves := rfl
@[simp] theorem State.setDriver_strings (n : Nat) (x : Driver) : (s.setDriver n x).strings = s.strings := rfl
@[simp] theorem State.setDriver_runSavedAt (n : Nat) (x : Driver) : (s.setDriver n x).runSavedAt = s.runSavedAt := rfl
@[simp] theorem State.setDriver_tables (n : Nat) (x : Driver) : (s.setDriver n x).tables = s.tables := rfl
@[simp] theorem State.setDriver_tableClass (n : Nat) (x : Driver) : (s.setDriver n x).tableClass = s.tableClass := rfl
@[simp] theorem State.setDriver_auth (n : Nat) (x : Driver) : (s.setDriver n x).auth = s.auth := rfl
@[simp] theorem State.setDriver_temps (n : Nat) (x : Driver) : (s.setDriver n x).temps = s.temps := rfl
@[simp] theorem State.setDriver_sinks (n : Nat) (x : Driver) : (s.setDriver n x).sinks = s.sinks := rfl
@[simp] theorem State.setDriver_drivers (n : Nat) (x : Driver) : (s.setDriver n x).drivers = bset s.drivers n x := rfl
@[simp] theorem State.setDriver_dies (n : Nat) (x : Driver) : (s.setDriver n x).dies = s.dies := rfl
@[simp] theorem State.setDriver_progSlots (n : Nat) (x : Driver) : (s.setDriver n x).progSlots = s.progSlots := rfl
@[simp] theorem State.setDriver_deferred (n : Nat) (x : Driver) : (s.setDriver n x).deferred = s.deferred := rfl
@[simp] theorem State.setDriver_mainsPart (n : Nat) (x : Driver) : (s.setDriver n x).mainsPart = s.mainsPart := rfl
@[simp] theorem State.setDriver_feedPart (n : Nat) (x : Driver) : (s.setDriver n x).feedPart = s.feedPart := rfl
@[simp] theorem State.setDriver_noPart (n : Nat) (x : Driver) : (s.setDriver n x).noPart = s.noPart := rfl
@[simp] theorem State.setDriver_watch (n : Nat) (x : Driver) : (s.setDriver n x).watch = s.watch := rfl
@[simp] theorem State.setDriver_tele (n : Nat) (x : Driver) : (s.setDriver n x).tele = s.tele := rfl
@[simp] theorem State.setDriver_teleEnd (n : Nat) (x : Driver) : (s.setDriver n x).teleEnd = s.teleEnd := rfl
@[simp] theorem State.setDriver_shorted (n : Nat) (x : Driver) : (s.setDriver n x).shorted = s.shorted := rfl
@[simp] theorem State.setDriver_captures (n : Nat) (x : Driver) : (s.setDriver n x).captures = s.captures := rfl
@[simp] theorem State.setDriver_journal (n : Nat) (x : Driver) : (s.setDriver n x).journal = s.journal := rfl
@[simp] theorem State.setDriver_storage (n : Nat) (x : Driver) : (s.setDriver n x).storage = s.storage := rfl
@[simp] theorem State.setDriver_always (n : Nat) (x : Driver) : (s.setDriver n x).always = s.always := rfl
@[simp] theorem State.setDriver_run (n : Nat) (x : Driver) : (s.setDriver n x).run = s.run := rfl
@[simp] theorem State.setDriver_twin (n : Nat) (x : Driver) : (s.setDriver n x).twin = s.twin := rfl
@[simp] theorem State.setDriver_ring (n : Nat) (x : Driver) : (s.setDriver n x).ring = s.ring := rfl
@[simp] theorem State.setDriver_access (n : Nat) (x : Driver) : (s.setDriver n x).access = s.access := rfl
@[simp] theorem State.setDriver_twinState (n : Nat) (x : Driver) : (s.setDriver n x).twinState = s.twinState := rfl
@[simp] theorem State.setDriver_inReset (n : Nat) (x : Driver) : (s.setDriver n x).inReset = s.inReset := rfl
@[simp] theorem State.setDriver_seqFloor (n : Nat) (x : Driver) : (s.setDriver n x).seqFloor = s.seqFloor := rfl
@[simp] theorem State.setDriver_chipSeq (n : Nat) (x : Driver) : (s.setDriver n x).chipSeq = s.chipSeq := rfl
@[simp] theorem State.setDriver_regionSeq (n : Nat) (x : Driver) : (s.setDriver n x).regionSeq = s.regionSeq := rfl
@[simp] theorem State.setDriver_accepting (n : Nat) (x : Driver) : (s.setDriver n x).accepting = s.accepting := rfl
@[simp] theorem State.setDriver_engineSlot (n : Nat) (x : Driver) : (s.setDriver n x).engineSlot = s.engineSlot := rfl
@[simp] theorem State.setDriver_feedMarks (n : Nat) (x : Driver) : (s.setDriver n x).feedMarks = s.feedMarks := rfl
@[simp] theorem State.setDriver_stepAt (n : Nat) (x : Driver) : (s.setDriver n x).stepAt = s.stepAt := rfl

/-! ### setDie -/

@[simp] theorem State.setDie_now (n : Nat) (x : DieT) : (s.setDie n x).now = s.now := rfl
@[simp] theorem State.setDie_freeBase (n : Nat) (x : DieT) : (s.setDie n x).freeBase = s.freeBase := rfl
@[simp] theorem State.setDie_turnDone (n : Nat) (x : DieT) : (s.setDie n x).turnDone = s.turnDone := rfl
@[simp] theorem State.setDie_pending (n : Nat) (x : DieT) : (s.setDie n x).pending = s.pending := rfl
@[simp] theorem State.setDie_obj (n : Nat) (x : DieT) : (s.setDie n x).obj = s.obj := rfl
@[simp] theorem State.setDie_lastResult (n : Nat) (x : DieT) : (s.setDie n x).lastResult = s.lastResult := rfl
@[simp] theorem State.setDie_lastRead (n : Nat) (x : DieT) : (s.setDie n x).lastRead = s.lastRead := rfl
@[simp] theorem State.setDie_freeCount (n : Nat) (x : DieT) : (s.setDie n x).freeCount = s.freeCount := rfl
@[simp] theorem State.setDie_faults (n : Nat) (x : DieT) : (s.setDie n x).faults = s.faults := rfl
@[simp] theorem State.setDie_inputs (n : Nat) (x : DieT) : (s.setDie n x).inputs = s.inputs := rfl
@[simp] theorem State.setDie_acceptAt (n : Nat) (x : DieT) : (s.setDie n x).acceptAt = s.acceptAt := rfl
@[simp] theorem State.setDie_limited (n : Nat) (x : DieT) : (s.setDie n x).limited = s.limited := rfl
@[simp] theorem State.setDie_cells (n : Nat) (x : DieT) : (s.setDie n x).cells = s.cells := rfl
@[simp] theorem State.setDie_ctxs (n : Nat) (x : DieT) : (s.setDie n x).ctxs = s.ctxs := rfl
@[simp] theorem State.setDie_engineBusy (n : Nat) (x : DieT) : (s.setDie n x).engineBusy = s.engineBusy := rfl
@[simp] theorem State.setDie_groups (n : Nat) (x : DieT) : (s.setDie n x).groups = s.groups := rfl
@[simp] theorem State.setDie_pools (n : Nat) (x : DieT) : (s.setDie n x).pools = s.pools := rfl
@[simp] theorem State.setDie_volts (n : Nat) (x : DieT) : (s.setDie n x).volts = s.volts := rfl
@[simp] theorem State.setDie_acs (n : Nat) (x : DieT) : (s.setDie n x).acs = s.acs := rfl
@[simp] theorem State.setDie_bridge (n : Nat) (x : DieT) : (s.setDie n x).bridge = s.bridge := rfl
@[simp] theorem State.setDie_feeds (n : Nat) (x : DieT) : (s.setDie n x).feeds = s.feeds := rfl
@[simp] theorem State.setDie_selector (n : Nat) (x : DieT) : (s.setDie n x).selector = s.selector := rfl
@[simp] theorem State.setDie_seqs (n : Nat) (x : DieT) : (s.setDie n x).seqs = s.seqs := rfl
@[simp] theorem State.setDie_mains (n : Nat) (x : DieT) : (s.setDie n x).mains = s.mains := rfl
@[simp] theorem State.setDie_frame (n : Nat) (x : DieT) : (s.setDie n x).frame = s.frame := rfl
@[simp] theorem State.setDie_loadMap (n : Nat) (x : DieT) : (s.setDie n x).loadMap = s.loadMap := rfl
@[simp] theorem State.setDie_moves (n : Nat) (x : DieT) : (s.setDie n x).moves = s.moves := rfl
@[simp] theorem State.setDie_strings (n : Nat) (x : DieT) : (s.setDie n x).strings = s.strings := rfl
@[simp] theorem State.setDie_runSavedAt (n : Nat) (x : DieT) : (s.setDie n x).runSavedAt = s.runSavedAt := rfl
@[simp] theorem State.setDie_tables (n : Nat) (x : DieT) : (s.setDie n x).tables = s.tables := rfl
@[simp] theorem State.setDie_tableClass (n : Nat) (x : DieT) : (s.setDie n x).tableClass = s.tableClass := rfl
@[simp] theorem State.setDie_auth (n : Nat) (x : DieT) : (s.setDie n x).auth = s.auth := rfl
@[simp] theorem State.setDie_temps (n : Nat) (x : DieT) : (s.setDie n x).temps = s.temps := rfl
@[simp] theorem State.setDie_sinks (n : Nat) (x : DieT) : (s.setDie n x).sinks = s.sinks := rfl
@[simp] theorem State.setDie_drivers (n : Nat) (x : DieT) : (s.setDie n x).drivers = s.drivers := rfl
@[simp] theorem State.setDie_dies (n : Nat) (x : DieT) : (s.setDie n x).dies = bset s.dies n x := rfl
@[simp] theorem State.setDie_progSlots (n : Nat) (x : DieT) : (s.setDie n x).progSlots = s.progSlots := rfl
@[simp] theorem State.setDie_deferred (n : Nat) (x : DieT) : (s.setDie n x).deferred = s.deferred := rfl
@[simp] theorem State.setDie_mainsPart (n : Nat) (x : DieT) : (s.setDie n x).mainsPart = s.mainsPart := rfl
@[simp] theorem State.setDie_feedPart (n : Nat) (x : DieT) : (s.setDie n x).feedPart = s.feedPart := rfl
@[simp] theorem State.setDie_noPart (n : Nat) (x : DieT) : (s.setDie n x).noPart = s.noPart := rfl
@[simp] theorem State.setDie_watch (n : Nat) (x : DieT) : (s.setDie n x).watch = s.watch := rfl
@[simp] theorem State.setDie_tele (n : Nat) (x : DieT) : (s.setDie n x).tele = s.tele := rfl
@[simp] theorem State.setDie_teleEnd (n : Nat) (x : DieT) : (s.setDie n x).teleEnd = s.teleEnd := rfl
@[simp] theorem State.setDie_shorted (n : Nat) (x : DieT) : (s.setDie n x).shorted = s.shorted := rfl
@[simp] theorem State.setDie_captures (n : Nat) (x : DieT) : (s.setDie n x).captures = s.captures := rfl
@[simp] theorem State.setDie_journal (n : Nat) (x : DieT) : (s.setDie n x).journal = s.journal := rfl
@[simp] theorem State.setDie_storage (n : Nat) (x : DieT) : (s.setDie n x).storage = s.storage := rfl
@[simp] theorem State.setDie_always (n : Nat) (x : DieT) : (s.setDie n x).always = s.always := rfl
@[simp] theorem State.setDie_run (n : Nat) (x : DieT) : (s.setDie n x).run = s.run := rfl
@[simp] theorem State.setDie_twin (n : Nat) (x : DieT) : (s.setDie n x).twin = s.twin := rfl
@[simp] theorem State.setDie_ring (n : Nat) (x : DieT) : (s.setDie n x).ring = s.ring := rfl
@[simp] theorem State.setDie_access (n : Nat) (x : DieT) : (s.setDie n x).access = s.access := rfl
@[simp] theorem State.setDie_twinState (n : Nat) (x : DieT) : (s.setDie n x).twinState = s.twinState := rfl
@[simp] theorem State.setDie_inReset (n : Nat) (x : DieT) : (s.setDie n x).inReset = s.inReset := rfl
@[simp] theorem State.setDie_seqFloor (n : Nat) (x : DieT) : (s.setDie n x).seqFloor = s.seqFloor := rfl
@[simp] theorem State.setDie_chipSeq (n : Nat) (x : DieT) : (s.setDie n x).chipSeq = s.chipSeq := rfl
@[simp] theorem State.setDie_regionSeq (n : Nat) (x : DieT) : (s.setDie n x).regionSeq = s.regionSeq := rfl
@[simp] theorem State.setDie_accepting (n : Nat) (x : DieT) : (s.setDie n x).accepting = s.accepting := rfl
@[simp] theorem State.setDie_engineSlot (n : Nat) (x : DieT) : (s.setDie n x).engineSlot = s.engineSlot := rfl
@[simp] theorem State.setDie_feedMarks (n : Nat) (x : DieT) : (s.setDie n x).feedMarks = s.feedMarks := rfl
@[simp] theorem State.setDie_stepAt (n : Nat) (x : DieT) : (s.setDie n x).stepAt = s.stepAt := rfl

/-! ### setProgSlot -/

@[simp] theorem State.setProgSlot_now (n : Nat) (x : SlotT) : (s.setProgSlot n x).now = s.now := rfl
@[simp] theorem State.setProgSlot_freeBase (n : Nat) (x : SlotT) : (s.setProgSlot n x).freeBase = s.freeBase := rfl
@[simp] theorem State.setProgSlot_turnDone (n : Nat) (x : SlotT) : (s.setProgSlot n x).turnDone = s.turnDone := rfl
@[simp] theorem State.setProgSlot_pending (n : Nat) (x : SlotT) : (s.setProgSlot n x).pending = s.pending := rfl
@[simp] theorem State.setProgSlot_obj (n : Nat) (x : SlotT) : (s.setProgSlot n x).obj = s.obj := rfl
@[simp] theorem State.setProgSlot_lastResult (n : Nat) (x : SlotT) : (s.setProgSlot n x).lastResult = s.lastResult := rfl
@[simp] theorem State.setProgSlot_lastRead (n : Nat) (x : SlotT) : (s.setProgSlot n x).lastRead = s.lastRead := rfl
@[simp] theorem State.setProgSlot_freeCount (n : Nat) (x : SlotT) : (s.setProgSlot n x).freeCount = s.freeCount := rfl
@[simp] theorem State.setProgSlot_faults (n : Nat) (x : SlotT) : (s.setProgSlot n x).faults = s.faults := rfl
@[simp] theorem State.setProgSlot_inputs (n : Nat) (x : SlotT) : (s.setProgSlot n x).inputs = s.inputs := rfl
@[simp] theorem State.setProgSlot_acceptAt (n : Nat) (x : SlotT) : (s.setProgSlot n x).acceptAt = s.acceptAt := rfl
@[simp] theorem State.setProgSlot_limited (n : Nat) (x : SlotT) : (s.setProgSlot n x).limited = s.limited := rfl
@[simp] theorem State.setProgSlot_cells (n : Nat) (x : SlotT) : (s.setProgSlot n x).cells = s.cells := rfl
@[simp] theorem State.setProgSlot_ctxs (n : Nat) (x : SlotT) : (s.setProgSlot n x).ctxs = s.ctxs := rfl
@[simp] theorem State.setProgSlot_engineBusy (n : Nat) (x : SlotT) : (s.setProgSlot n x).engineBusy = s.engineBusy := rfl
@[simp] theorem State.setProgSlot_groups (n : Nat) (x : SlotT) : (s.setProgSlot n x).groups = s.groups := rfl
@[simp] theorem State.setProgSlot_pools (n : Nat) (x : SlotT) : (s.setProgSlot n x).pools = s.pools := rfl
@[simp] theorem State.setProgSlot_volts (n : Nat) (x : SlotT) : (s.setProgSlot n x).volts = s.volts := rfl
@[simp] theorem State.setProgSlot_acs (n : Nat) (x : SlotT) : (s.setProgSlot n x).acs = s.acs := rfl
@[simp] theorem State.setProgSlot_bridge (n : Nat) (x : SlotT) : (s.setProgSlot n x).bridge = s.bridge := rfl
@[simp] theorem State.setProgSlot_feeds (n : Nat) (x : SlotT) : (s.setProgSlot n x).feeds = s.feeds := rfl
@[simp] theorem State.setProgSlot_selector (n : Nat) (x : SlotT) : (s.setProgSlot n x).selector = s.selector := rfl
@[simp] theorem State.setProgSlot_seqs (n : Nat) (x : SlotT) : (s.setProgSlot n x).seqs = s.seqs := rfl
@[simp] theorem State.setProgSlot_mains (n : Nat) (x : SlotT) : (s.setProgSlot n x).mains = s.mains := rfl
@[simp] theorem State.setProgSlot_frame (n : Nat) (x : SlotT) : (s.setProgSlot n x).frame = s.frame := rfl
@[simp] theorem State.setProgSlot_loadMap (n : Nat) (x : SlotT) : (s.setProgSlot n x).loadMap = s.loadMap := rfl
@[simp] theorem State.setProgSlot_moves (n : Nat) (x : SlotT) : (s.setProgSlot n x).moves = s.moves := rfl
@[simp] theorem State.setProgSlot_strings (n : Nat) (x : SlotT) : (s.setProgSlot n x).strings = s.strings := rfl
@[simp] theorem State.setProgSlot_runSavedAt (n : Nat) (x : SlotT) : (s.setProgSlot n x).runSavedAt = s.runSavedAt := rfl
@[simp] theorem State.setProgSlot_tables (n : Nat) (x : SlotT) : (s.setProgSlot n x).tables = s.tables := rfl
@[simp] theorem State.setProgSlot_tableClass (n : Nat) (x : SlotT) : (s.setProgSlot n x).tableClass = s.tableClass := rfl
@[simp] theorem State.setProgSlot_auth (n : Nat) (x : SlotT) : (s.setProgSlot n x).auth = s.auth := rfl
@[simp] theorem State.setProgSlot_temps (n : Nat) (x : SlotT) : (s.setProgSlot n x).temps = s.temps := rfl
@[simp] theorem State.setProgSlot_sinks (n : Nat) (x : SlotT) : (s.setProgSlot n x).sinks = s.sinks := rfl
@[simp] theorem State.setProgSlot_drivers (n : Nat) (x : SlotT) : (s.setProgSlot n x).drivers = s.drivers := rfl
@[simp] theorem State.setProgSlot_dies (n : Nat) (x : SlotT) : (s.setProgSlot n x).dies = s.dies := rfl
@[simp] theorem State.setProgSlot_progSlots (n : Nat) (x : SlotT) : (s.setProgSlot n x).progSlots = bset s.progSlots n x := rfl
@[simp] theorem State.setProgSlot_deferred (n : Nat) (x : SlotT) : (s.setProgSlot n x).deferred = s.deferred := rfl
@[simp] theorem State.setProgSlot_mainsPart (n : Nat) (x : SlotT) : (s.setProgSlot n x).mainsPart = s.mainsPart := rfl
@[simp] theorem State.setProgSlot_feedPart (n : Nat) (x : SlotT) : (s.setProgSlot n x).feedPart = s.feedPart := rfl
@[simp] theorem State.setProgSlot_noPart (n : Nat) (x : SlotT) : (s.setProgSlot n x).noPart = s.noPart := rfl
@[simp] theorem State.setProgSlot_watch (n : Nat) (x : SlotT) : (s.setProgSlot n x).watch = s.watch := rfl
@[simp] theorem State.setProgSlot_tele (n : Nat) (x : SlotT) : (s.setProgSlot n x).tele = s.tele := rfl
@[simp] theorem State.setProgSlot_teleEnd (n : Nat) (x : SlotT) : (s.setProgSlot n x).teleEnd = s.teleEnd := rfl
@[simp] theorem State.setProgSlot_shorted (n : Nat) (x : SlotT) : (s.setProgSlot n x).shorted = s.shorted := rfl
@[simp] theorem State.setProgSlot_captures (n : Nat) (x : SlotT) : (s.setProgSlot n x).captures = s.captures := rfl
@[simp] theorem State.setProgSlot_journal (n : Nat) (x : SlotT) : (s.setProgSlot n x).journal = s.journal := rfl
@[simp] theorem State.setProgSlot_storage (n : Nat) (x : SlotT) : (s.setProgSlot n x).storage = s.storage := rfl
@[simp] theorem State.setProgSlot_always (n : Nat) (x : SlotT) : (s.setProgSlot n x).always = s.always := rfl
@[simp] theorem State.setProgSlot_run (n : Nat) (x : SlotT) : (s.setProgSlot n x).run = s.run := rfl
@[simp] theorem State.setProgSlot_twin (n : Nat) (x : SlotT) : (s.setProgSlot n x).twin = s.twin := rfl
@[simp] theorem State.setProgSlot_ring (n : Nat) (x : SlotT) : (s.setProgSlot n x).ring = s.ring := rfl
@[simp] theorem State.setProgSlot_access (n : Nat) (x : SlotT) : (s.setProgSlot n x).access = s.access := rfl
@[simp] theorem State.setProgSlot_twinState (n : Nat) (x : SlotT) : (s.setProgSlot n x).twinState = s.twinState := rfl
@[simp] theorem State.setProgSlot_inReset (n : Nat) (x : SlotT) : (s.setProgSlot n x).inReset = s.inReset := rfl
@[simp] theorem State.setProgSlot_seqFloor (n : Nat) (x : SlotT) : (s.setProgSlot n x).seqFloor = s.seqFloor := rfl
@[simp] theorem State.setProgSlot_chipSeq (n : Nat) (x : SlotT) : (s.setProgSlot n x).chipSeq = s.chipSeq := rfl
@[simp] theorem State.setProgSlot_regionSeq (n : Nat) (x : SlotT) : (s.setProgSlot n x).regionSeq = s.regionSeq := rfl
@[simp] theorem State.setProgSlot_accepting (n : Nat) (x : SlotT) : (s.setProgSlot n x).accepting = s.accepting := rfl
@[simp] theorem State.setProgSlot_engineSlot (n : Nat) (x : SlotT) : (s.setProgSlot n x).engineSlot = s.engineSlot := rfl
@[simp] theorem State.setProgSlot_feedMarks (n : Nat) (x : SlotT) : (s.setProgSlot n x).feedMarks = s.feedMarks := rfl
@[simp] theorem State.setProgSlot_stepAt (n : Nat) (x : SlotT) : (s.setProgSlot n x).stepAt = s.stepAt := rfl

/-! ### setCapture -/

@[simp] theorem State.setCapture_now (n : Nat) (x : Capture) : (s.setCapture n x).now = s.now := rfl
@[simp] theorem State.setCapture_freeBase (n : Nat) (x : Capture) : (s.setCapture n x).freeBase = s.freeBase := rfl
@[simp] theorem State.setCapture_turnDone (n : Nat) (x : Capture) : (s.setCapture n x).turnDone = s.turnDone := rfl
@[simp] theorem State.setCapture_pending (n : Nat) (x : Capture) : (s.setCapture n x).pending = s.pending := rfl
@[simp] theorem State.setCapture_obj (n : Nat) (x : Capture) : (s.setCapture n x).obj = s.obj := rfl
@[simp] theorem State.setCapture_lastResult (n : Nat) (x : Capture) : (s.setCapture n x).lastResult = s.lastResult := rfl
@[simp] theorem State.setCapture_lastRead (n : Nat) (x : Capture) : (s.setCapture n x).lastRead = s.lastRead := rfl
@[simp] theorem State.setCapture_freeCount (n : Nat) (x : Capture) : (s.setCapture n x).freeCount = s.freeCount := rfl
@[simp] theorem State.setCapture_faults (n : Nat) (x : Capture) : (s.setCapture n x).faults = s.faults := rfl
@[simp] theorem State.setCapture_inputs (n : Nat) (x : Capture) : (s.setCapture n x).inputs = s.inputs := rfl
@[simp] theorem State.setCapture_acceptAt (n : Nat) (x : Capture) : (s.setCapture n x).acceptAt = s.acceptAt := rfl
@[simp] theorem State.setCapture_limited (n : Nat) (x : Capture) : (s.setCapture n x).limited = s.limited := rfl
@[simp] theorem State.setCapture_cells (n : Nat) (x : Capture) : (s.setCapture n x).cells = s.cells := rfl
@[simp] theorem State.setCapture_ctxs (n : Nat) (x : Capture) : (s.setCapture n x).ctxs = s.ctxs := rfl
@[simp] theorem State.setCapture_engineBusy (n : Nat) (x : Capture) : (s.setCapture n x).engineBusy = s.engineBusy := rfl
@[simp] theorem State.setCapture_groups (n : Nat) (x : Capture) : (s.setCapture n x).groups = s.groups := rfl
@[simp] theorem State.setCapture_pools (n : Nat) (x : Capture) : (s.setCapture n x).pools = s.pools := rfl
@[simp] theorem State.setCapture_volts (n : Nat) (x : Capture) : (s.setCapture n x).volts = s.volts := rfl
@[simp] theorem State.setCapture_acs (n : Nat) (x : Capture) : (s.setCapture n x).acs = s.acs := rfl
@[simp] theorem State.setCapture_bridge (n : Nat) (x : Capture) : (s.setCapture n x).bridge = s.bridge := rfl
@[simp] theorem State.setCapture_feeds (n : Nat) (x : Capture) : (s.setCapture n x).feeds = s.feeds := rfl
@[simp] theorem State.setCapture_selector (n : Nat) (x : Capture) : (s.setCapture n x).selector = s.selector := rfl
@[simp] theorem State.setCapture_seqs (n : Nat) (x : Capture) : (s.setCapture n x).seqs = s.seqs := rfl
@[simp] theorem State.setCapture_mains (n : Nat) (x : Capture) : (s.setCapture n x).mains = s.mains := rfl
@[simp] theorem State.setCapture_frame (n : Nat) (x : Capture) : (s.setCapture n x).frame = s.frame := rfl
@[simp] theorem State.setCapture_loadMap (n : Nat) (x : Capture) : (s.setCapture n x).loadMap = s.loadMap := rfl
@[simp] theorem State.setCapture_moves (n : Nat) (x : Capture) : (s.setCapture n x).moves = s.moves := rfl
@[simp] theorem State.setCapture_strings (n : Nat) (x : Capture) : (s.setCapture n x).strings = s.strings := rfl
@[simp] theorem State.setCapture_runSavedAt (n : Nat) (x : Capture) : (s.setCapture n x).runSavedAt = s.runSavedAt := rfl
@[simp] theorem State.setCapture_tables (n : Nat) (x : Capture) : (s.setCapture n x).tables = s.tables := rfl
@[simp] theorem State.setCapture_tableClass (n : Nat) (x : Capture) : (s.setCapture n x).tableClass = s.tableClass := rfl
@[simp] theorem State.setCapture_auth (n : Nat) (x : Capture) : (s.setCapture n x).auth = s.auth := rfl
@[simp] theorem State.setCapture_temps (n : Nat) (x : Capture) : (s.setCapture n x).temps = s.temps := rfl
@[simp] theorem State.setCapture_sinks (n : Nat) (x : Capture) : (s.setCapture n x).sinks = s.sinks := rfl
@[simp] theorem State.setCapture_drivers (n : Nat) (x : Capture) : (s.setCapture n x).drivers = s.drivers := rfl
@[simp] theorem State.setCapture_dies (n : Nat) (x : Capture) : (s.setCapture n x).dies = s.dies := rfl
@[simp] theorem State.setCapture_progSlots (n : Nat) (x : Capture) : (s.setCapture n x).progSlots = s.progSlots := rfl
@[simp] theorem State.setCapture_deferred (n : Nat) (x : Capture) : (s.setCapture n x).deferred = s.deferred := rfl
@[simp] theorem State.setCapture_mainsPart (n : Nat) (x : Capture) : (s.setCapture n x).mainsPart = s.mainsPart := rfl
@[simp] theorem State.setCapture_feedPart (n : Nat) (x : Capture) : (s.setCapture n x).feedPart = s.feedPart := rfl
@[simp] theorem State.setCapture_noPart (n : Nat) (x : Capture) : (s.setCapture n x).noPart = s.noPart := rfl
@[simp] theorem State.setCapture_watch (n : Nat) (x : Capture) : (s.setCapture n x).watch = s.watch := rfl
@[simp] theorem State.setCapture_tele (n : Nat) (x : Capture) : (s.setCapture n x).tele = s.tele := rfl
@[simp] theorem State.setCapture_teleEnd (n : Nat) (x : Capture) : (s.setCapture n x).teleEnd = s.teleEnd := rfl
@[simp] theorem State.setCapture_shorted (n : Nat) (x : Capture) : (s.setCapture n x).shorted = s.shorted := rfl
@[simp] theorem State.setCapture_captures (n : Nat) (x : Capture) : (s.setCapture n x).captures = bset s.captures n x := rfl
@[simp] theorem State.setCapture_journal (n : Nat) (x : Capture) : (s.setCapture n x).journal = s.journal := rfl
@[simp] theorem State.setCapture_storage (n : Nat) (x : Capture) : (s.setCapture n x).storage = s.storage := rfl
@[simp] theorem State.setCapture_always (n : Nat) (x : Capture) : (s.setCapture n x).always = s.always := rfl
@[simp] theorem State.setCapture_run (n : Nat) (x : Capture) : (s.setCapture n x).run = s.run := rfl
@[simp] theorem State.setCapture_twin (n : Nat) (x : Capture) : (s.setCapture n x).twin = s.twin := rfl
@[simp] theorem State.setCapture_ring (n : Nat) (x : Capture) : (s.setCapture n x).ring = s.ring := rfl
@[simp] theorem State.setCapture_access (n : Nat) (x : Capture) : (s.setCapture n x).access = s.access := rfl
@[simp] theorem State.setCapture_twinState (n : Nat) (x : Capture) : (s.setCapture n x).twinState = s.twinState := rfl
@[simp] theorem State.setCapture_inReset (n : Nat) (x : Capture) : (s.setCapture n x).inReset = s.inReset := rfl
@[simp] theorem State.setCapture_seqFloor (n : Nat) (x : Capture) : (s.setCapture n x).seqFloor = s.seqFloor := rfl
@[simp] theorem State.setCapture_chipSeq (n : Nat) (x : Capture) : (s.setCapture n x).chipSeq = s.chipSeq := rfl
@[simp] theorem State.setCapture_regionSeq (n : Nat) (x : Capture) : (s.setCapture n x).regionSeq = s.regionSeq := rfl
@[simp] theorem State.setCapture_accepting (n : Nat) (x : Capture) : (s.setCapture n x).accepting = s.accepting := rfl
@[simp] theorem State.setCapture_engineSlot (n : Nat) (x : Capture) : (s.setCapture n x).engineSlot = s.engineSlot := rfl
@[simp] theorem State.setCapture_feedMarks (n : Nat) (x : Capture) : (s.setCapture n x).feedMarks = s.feedMarks := rfl
@[simp] theorem State.setCapture_stepAt (n : Nat) (x : Capture) : (s.setCapture n x).stepAt = s.stepAt := rfl

/-! ### setJournal -/

@[simp] theorem State.setJournal_now (x : Journal) : (s.setJournal x).now = s.now := rfl
@[simp] theorem State.setJournal_freeBase (x : Journal) : (s.setJournal x).freeBase = s.freeBase := rfl
@[simp] theorem State.setJournal_turnDone (x : Journal) : (s.setJournal x).turnDone = s.turnDone := rfl
@[simp] theorem State.setJournal_pending (x : Journal) : (s.setJournal x).pending = s.pending := rfl
@[simp] theorem State.setJournal_obj (x : Journal) : (s.setJournal x).obj = s.obj := rfl
@[simp] theorem State.setJournal_lastResult (x : Journal) : (s.setJournal x).lastResult = s.lastResult := rfl
@[simp] theorem State.setJournal_lastRead (x : Journal) : (s.setJournal x).lastRead = s.lastRead := rfl
@[simp] theorem State.setJournal_freeCount (x : Journal) : (s.setJournal x).freeCount = s.freeCount := rfl
@[simp] theorem State.setJournal_faults (x : Journal) : (s.setJournal x).faults = s.faults := rfl
@[simp] theorem State.setJournal_inputs (x : Journal) : (s.setJournal x).inputs = s.inputs := rfl
@[simp] theorem State.setJournal_acceptAt (x : Journal) : (s.setJournal x).acceptAt = s.acceptAt := rfl
@[simp] theorem State.setJournal_limited (x : Journal) : (s.setJournal x).limited = s.limited := rfl
@[simp] theorem State.setJournal_cells (x : Journal) : (s.setJournal x).cells = s.cells := rfl
@[simp] theorem State.setJournal_ctxs (x : Journal) : (s.setJournal x).ctxs = s.ctxs := rfl
@[simp] theorem State.setJournal_engineBusy (x : Journal) : (s.setJournal x).engineBusy = s.engineBusy := rfl
@[simp] theorem State.setJournal_groups (x : Journal) : (s.setJournal x).groups = s.groups := rfl
@[simp] theorem State.setJournal_pools (x : Journal) : (s.setJournal x).pools = s.pools := rfl
@[simp] theorem State.setJournal_volts (x : Journal) : (s.setJournal x).volts = s.volts := rfl
@[simp] theorem State.setJournal_acs (x : Journal) : (s.setJournal x).acs = s.acs := rfl
@[simp] theorem State.setJournal_bridge (x : Journal) : (s.setJournal x).bridge = s.bridge := rfl
@[simp] theorem State.setJournal_feeds (x : Journal) : (s.setJournal x).feeds = s.feeds := rfl
@[simp] theorem State.setJournal_selector (x : Journal) : (s.setJournal x).selector = s.selector := rfl
@[simp] theorem State.setJournal_seqs (x : Journal) : (s.setJournal x).seqs = s.seqs := rfl
@[simp] theorem State.setJournal_mains (x : Journal) : (s.setJournal x).mains = s.mains := rfl
@[simp] theorem State.setJournal_frame (x : Journal) : (s.setJournal x).frame = s.frame := rfl
@[simp] theorem State.setJournal_loadMap (x : Journal) : (s.setJournal x).loadMap = s.loadMap := rfl
@[simp] theorem State.setJournal_moves (x : Journal) : (s.setJournal x).moves = s.moves := rfl
@[simp] theorem State.setJournal_strings (x : Journal) : (s.setJournal x).strings = s.strings := rfl
@[simp] theorem State.setJournal_runSavedAt (x : Journal) : (s.setJournal x).runSavedAt = s.runSavedAt := rfl
@[simp] theorem State.setJournal_tables (x : Journal) : (s.setJournal x).tables = s.tables := rfl
@[simp] theorem State.setJournal_tableClass (x : Journal) : (s.setJournal x).tableClass = s.tableClass := rfl
@[simp] theorem State.setJournal_auth (x : Journal) : (s.setJournal x).auth = s.auth := rfl
@[simp] theorem State.setJournal_temps (x : Journal) : (s.setJournal x).temps = s.temps := rfl
@[simp] theorem State.setJournal_sinks (x : Journal) : (s.setJournal x).sinks = s.sinks := rfl
@[simp] theorem State.setJournal_drivers (x : Journal) : (s.setJournal x).drivers = s.drivers := rfl
@[simp] theorem State.setJournal_dies (x : Journal) : (s.setJournal x).dies = s.dies := rfl
@[simp] theorem State.setJournal_progSlots (x : Journal) : (s.setJournal x).progSlots = s.progSlots := rfl
@[simp] theorem State.setJournal_deferred (x : Journal) : (s.setJournal x).deferred = s.deferred := rfl
@[simp] theorem State.setJournal_mainsPart (x : Journal) : (s.setJournal x).mainsPart = s.mainsPart := rfl
@[simp] theorem State.setJournal_feedPart (x : Journal) : (s.setJournal x).feedPart = s.feedPart := rfl
@[simp] theorem State.setJournal_noPart (x : Journal) : (s.setJournal x).noPart = s.noPart := rfl
@[simp] theorem State.setJournal_watch (x : Journal) : (s.setJournal x).watch = s.watch := rfl
@[simp] theorem State.setJournal_tele (x : Journal) : (s.setJournal x).tele = s.tele := rfl
@[simp] theorem State.setJournal_teleEnd (x : Journal) : (s.setJournal x).teleEnd = s.teleEnd := rfl
@[simp] theorem State.setJournal_shorted (x : Journal) : (s.setJournal x).shorted = s.shorted := rfl
@[simp] theorem State.setJournal_captures (x : Journal) : (s.setJournal x).captures = s.captures := rfl
@[simp] theorem State.setJournal_journal (x : Journal) : (s.setJournal x).journal = x := rfl
@[simp] theorem State.setJournal_storage (x : Journal) : (s.setJournal x).storage = s.storage := rfl
@[simp] theorem State.setJournal_always (x : Journal) : (s.setJournal x).always = s.always := rfl
@[simp] theorem State.setJournal_run (x : Journal) : (s.setJournal x).run = s.run := rfl
@[simp] theorem State.setJournal_twin (x : Journal) : (s.setJournal x).twin = s.twin := rfl
@[simp] theorem State.setJournal_ring (x : Journal) : (s.setJournal x).ring = s.ring := rfl
@[simp] theorem State.setJournal_access (x : Journal) : (s.setJournal x).access = s.access := rfl
@[simp] theorem State.setJournal_twinState (x : Journal) : (s.setJournal x).twinState = s.twinState := rfl
@[simp] theorem State.setJournal_inReset (x : Journal) : (s.setJournal x).inReset = s.inReset := rfl
@[simp] theorem State.setJournal_seqFloor (x : Journal) : (s.setJournal x).seqFloor = s.seqFloor := rfl
@[simp] theorem State.setJournal_chipSeq (x : Journal) : (s.setJournal x).chipSeq = s.chipSeq := rfl
@[simp] theorem State.setJournal_regionSeq (x : Journal) : (s.setJournal x).regionSeq = s.regionSeq := rfl
@[simp] theorem State.setJournal_accepting (x : Journal) : (s.setJournal x).accepting = s.accepting := rfl
@[simp] theorem State.setJournal_engineSlot (x : Journal) : (s.setJournal x).engineSlot = s.engineSlot := rfl
@[simp] theorem State.setJournal_feedMarks (x : Journal) : (s.setJournal x).feedMarks = s.feedMarks := rfl
@[simp] theorem State.setJournal_stepAt (x : Journal) : (s.setJournal x).stepAt = s.stepAt := rfl

/-! ### setStorage -/

@[simp] theorem State.setStorage_now (x : Storage) : (s.setStorage x).now = s.now := rfl
@[simp] theorem State.setStorage_freeBase (x : Storage) : (s.setStorage x).freeBase = s.freeBase := rfl
@[simp] theorem State.setStorage_turnDone (x : Storage) : (s.setStorage x).turnDone = s.turnDone := rfl
@[simp] theorem State.setStorage_pending (x : Storage) : (s.setStorage x).pending = s.pending := rfl
@[simp] theorem State.setStorage_obj (x : Storage) : (s.setStorage x).obj = s.obj := rfl
@[simp] theorem State.setStorage_lastResult (x : Storage) : (s.setStorage x).lastResult = s.lastResult := rfl
@[simp] theorem State.setStorage_lastRead (x : Storage) : (s.setStorage x).lastRead = s.lastRead := rfl
@[simp] theorem State.setStorage_freeCount (x : Storage) : (s.setStorage x).freeCount = s.freeCount := rfl
@[simp] theorem State.setStorage_faults (x : Storage) : (s.setStorage x).faults = s.faults := rfl
@[simp] theorem State.setStorage_inputs (x : Storage) : (s.setStorage x).inputs = s.inputs := rfl
@[simp] theorem State.setStorage_acceptAt (x : Storage) : (s.setStorage x).acceptAt = s.acceptAt := rfl
@[simp] theorem State.setStorage_limited (x : Storage) : (s.setStorage x).limited = s.limited := rfl
@[simp] theorem State.setStorage_cells (x : Storage) : (s.setStorage x).cells = s.cells := rfl
@[simp] theorem State.setStorage_ctxs (x : Storage) : (s.setStorage x).ctxs = s.ctxs := rfl
@[simp] theorem State.setStorage_engineBusy (x : Storage) : (s.setStorage x).engineBusy = s.engineBusy := rfl
@[simp] theorem State.setStorage_groups (x : Storage) : (s.setStorage x).groups = s.groups := rfl
@[simp] theorem State.setStorage_pools (x : Storage) : (s.setStorage x).pools = s.pools := rfl
@[simp] theorem State.setStorage_volts (x : Storage) : (s.setStorage x).volts = s.volts := rfl
@[simp] theorem State.setStorage_acs (x : Storage) : (s.setStorage x).acs = s.acs := rfl
@[simp] theorem State.setStorage_bridge (x : Storage) : (s.setStorage x).bridge = s.bridge := rfl
@[simp] theorem State.setStorage_feeds (x : Storage) : (s.setStorage x).feeds = s.feeds := rfl
@[simp] theorem State.setStorage_selector (x : Storage) : (s.setStorage x).selector = s.selector := rfl
@[simp] theorem State.setStorage_seqs (x : Storage) : (s.setStorage x).seqs = s.seqs := rfl
@[simp] theorem State.setStorage_mains (x : Storage) : (s.setStorage x).mains = s.mains := rfl
@[simp] theorem State.setStorage_frame (x : Storage) : (s.setStorage x).frame = s.frame := rfl
@[simp] theorem State.setStorage_loadMap (x : Storage) : (s.setStorage x).loadMap = s.loadMap := rfl
@[simp] theorem State.setStorage_moves (x : Storage) : (s.setStorage x).moves = s.moves := rfl
@[simp] theorem State.setStorage_strings (x : Storage) : (s.setStorage x).strings = s.strings := rfl
@[simp] theorem State.setStorage_runSavedAt (x : Storage) : (s.setStorage x).runSavedAt = s.runSavedAt := rfl
@[simp] theorem State.setStorage_tables (x : Storage) : (s.setStorage x).tables = s.tables := rfl
@[simp] theorem State.setStorage_tableClass (x : Storage) : (s.setStorage x).tableClass = s.tableClass := rfl
@[simp] theorem State.setStorage_auth (x : Storage) : (s.setStorage x).auth = s.auth := rfl
@[simp] theorem State.setStorage_temps (x : Storage) : (s.setStorage x).temps = s.temps := rfl
@[simp] theorem State.setStorage_sinks (x : Storage) : (s.setStorage x).sinks = s.sinks := rfl
@[simp] theorem State.setStorage_drivers (x : Storage) : (s.setStorage x).drivers = s.drivers := rfl
@[simp] theorem State.setStorage_dies (x : Storage) : (s.setStorage x).dies = s.dies := rfl
@[simp] theorem State.setStorage_progSlots (x : Storage) : (s.setStorage x).progSlots = s.progSlots := rfl
@[simp] theorem State.setStorage_deferred (x : Storage) : (s.setStorage x).deferred = s.deferred := rfl
@[simp] theorem State.setStorage_mainsPart (x : Storage) : (s.setStorage x).mainsPart = s.mainsPart := rfl
@[simp] theorem State.setStorage_feedPart (x : Storage) : (s.setStorage x).feedPart = s.feedPart := rfl
@[simp] theorem State.setStorage_noPart (x : Storage) : (s.setStorage x).noPart = s.noPart := rfl
@[simp] theorem State.setStorage_watch (x : Storage) : (s.setStorage x).watch = s.watch := rfl
@[simp] theorem State.setStorage_tele (x : Storage) : (s.setStorage x).tele = s.tele := rfl
@[simp] theorem State.setStorage_teleEnd (x : Storage) : (s.setStorage x).teleEnd = s.teleEnd := rfl
@[simp] theorem State.setStorage_shorted (x : Storage) : (s.setStorage x).shorted = s.shorted := rfl
@[simp] theorem State.setStorage_captures (x : Storage) : (s.setStorage x).captures = s.captures := rfl
@[simp] theorem State.setStorage_journal (x : Storage) : (s.setStorage x).journal = s.journal := rfl
@[simp] theorem State.setStorage_storage (x : Storage) : (s.setStorage x).storage = x := rfl
@[simp] theorem State.setStorage_always (x : Storage) : (s.setStorage x).always = s.always := rfl
@[simp] theorem State.setStorage_run (x : Storage) : (s.setStorage x).run = s.run := rfl
@[simp] theorem State.setStorage_twin (x : Storage) : (s.setStorage x).twin = s.twin := rfl
@[simp] theorem State.setStorage_ring (x : Storage) : (s.setStorage x).ring = s.ring := rfl
@[simp] theorem State.setStorage_access (x : Storage) : (s.setStorage x).access = s.access := rfl
@[simp] theorem State.setStorage_twinState (x : Storage) : (s.setStorage x).twinState = s.twinState := rfl
@[simp] theorem State.setStorage_inReset (x : Storage) : (s.setStorage x).inReset = s.inReset := rfl
@[simp] theorem State.setStorage_seqFloor (x : Storage) : (s.setStorage x).seqFloor = s.seqFloor := rfl
@[simp] theorem State.setStorage_chipSeq (x : Storage) : (s.setStorage x).chipSeq = s.chipSeq := rfl
@[simp] theorem State.setStorage_regionSeq (x : Storage) : (s.setStorage x).regionSeq = s.regionSeq := rfl
@[simp] theorem State.setStorage_accepting (x : Storage) : (s.setStorage x).accepting = s.accepting := rfl
@[simp] theorem State.setStorage_engineSlot (x : Storage) : (s.setStorage x).engineSlot = s.engineSlot := rfl
@[simp] theorem State.setStorage_feedMarks (x : Storage) : (s.setStorage x).feedMarks = s.feedMarks := rfl
@[simp] theorem State.setStorage_stepAt (x : Storage) : (s.setStorage x).stepAt = s.stepAt := rfl

/-! ### setAlways -/

@[simp] theorem State.setAlways_now (x : AlwaysOn) : (s.setAlways x).now = s.now := rfl
@[simp] theorem State.setAlways_freeBase (x : AlwaysOn) : (s.setAlways x).freeBase = s.freeBase := rfl
@[simp] theorem State.setAlways_turnDone (x : AlwaysOn) : (s.setAlways x).turnDone = s.turnDone := rfl
@[simp] theorem State.setAlways_pending (x : AlwaysOn) : (s.setAlways x).pending = s.pending := rfl
@[simp] theorem State.setAlways_obj (x : AlwaysOn) : (s.setAlways x).obj = s.obj := rfl
@[simp] theorem State.setAlways_lastResult (x : AlwaysOn) : (s.setAlways x).lastResult = s.lastResult := rfl
@[simp] theorem State.setAlways_lastRead (x : AlwaysOn) : (s.setAlways x).lastRead = s.lastRead := rfl
@[simp] theorem State.setAlways_freeCount (x : AlwaysOn) : (s.setAlways x).freeCount = s.freeCount := rfl
@[simp] theorem State.setAlways_faults (x : AlwaysOn) : (s.setAlways x).faults = s.faults := rfl
@[simp] theorem State.setAlways_inputs (x : AlwaysOn) : (s.setAlways x).inputs = s.inputs := rfl
@[simp] theorem State.setAlways_acceptAt (x : AlwaysOn) : (s.setAlways x).acceptAt = s.acceptAt := rfl
@[simp] theorem State.setAlways_limited (x : AlwaysOn) : (s.setAlways x).limited = s.limited := rfl
@[simp] theorem State.setAlways_cells (x : AlwaysOn) : (s.setAlways x).cells = s.cells := rfl
@[simp] theorem State.setAlways_ctxs (x : AlwaysOn) : (s.setAlways x).ctxs = s.ctxs := rfl
@[simp] theorem State.setAlways_engineBusy (x : AlwaysOn) : (s.setAlways x).engineBusy = s.engineBusy := rfl
@[simp] theorem State.setAlways_groups (x : AlwaysOn) : (s.setAlways x).groups = s.groups := rfl
@[simp] theorem State.setAlways_pools (x : AlwaysOn) : (s.setAlways x).pools = s.pools := rfl
@[simp] theorem State.setAlways_volts (x : AlwaysOn) : (s.setAlways x).volts = s.volts := rfl
@[simp] theorem State.setAlways_acs (x : AlwaysOn) : (s.setAlways x).acs = s.acs := rfl
@[simp] theorem State.setAlways_bridge (x : AlwaysOn) : (s.setAlways x).bridge = s.bridge := rfl
@[simp] theorem State.setAlways_feeds (x : AlwaysOn) : (s.setAlways x).feeds = s.feeds := rfl
@[simp] theorem State.setAlways_selector (x : AlwaysOn) : (s.setAlways x).selector = s.selector := rfl
@[simp] theorem State.setAlways_seqs (x : AlwaysOn) : (s.setAlways x).seqs = s.seqs := rfl
@[simp] theorem State.setAlways_mains (x : AlwaysOn) : (s.setAlways x).mains = s.mains := rfl
@[simp] theorem State.setAlways_frame (x : AlwaysOn) : (s.setAlways x).frame = s.frame := rfl
@[simp] theorem State.setAlways_loadMap (x : AlwaysOn) : (s.setAlways x).loadMap = s.loadMap := rfl
@[simp] theorem State.setAlways_moves (x : AlwaysOn) : (s.setAlways x).moves = s.moves := rfl
@[simp] theorem State.setAlways_strings (x : AlwaysOn) : (s.setAlways x).strings = s.strings := rfl
@[simp] theorem State.setAlways_runSavedAt (x : AlwaysOn) : (s.setAlways x).runSavedAt = s.runSavedAt := rfl
@[simp] theorem State.setAlways_tables (x : AlwaysOn) : (s.setAlways x).tables = s.tables := rfl
@[simp] theorem State.setAlways_tableClass (x : AlwaysOn) : (s.setAlways x).tableClass = s.tableClass := rfl
@[simp] theorem State.setAlways_auth (x : AlwaysOn) : (s.setAlways x).auth = s.auth := rfl
@[simp] theorem State.setAlways_temps (x : AlwaysOn) : (s.setAlways x).temps = s.temps := rfl
@[simp] theorem State.setAlways_sinks (x : AlwaysOn) : (s.setAlways x).sinks = s.sinks := rfl
@[simp] theorem State.setAlways_drivers (x : AlwaysOn) : (s.setAlways x).drivers = s.drivers := rfl
@[simp] theorem State.setAlways_dies (x : AlwaysOn) : (s.setAlways x).dies = s.dies := rfl
@[simp] theorem State.setAlways_progSlots (x : AlwaysOn) : (s.setAlways x).progSlots = s.progSlots := rfl
@[simp] theorem State.setAlways_deferred (x : AlwaysOn) : (s.setAlways x).deferred = s.deferred := rfl
@[simp] theorem State.setAlways_mainsPart (x : AlwaysOn) : (s.setAlways x).mainsPart = s.mainsPart := rfl
@[simp] theorem State.setAlways_feedPart (x : AlwaysOn) : (s.setAlways x).feedPart = s.feedPart := rfl
@[simp] theorem State.setAlways_noPart (x : AlwaysOn) : (s.setAlways x).noPart = s.noPart := rfl
@[simp] theorem State.setAlways_watch (x : AlwaysOn) : (s.setAlways x).watch = s.watch := rfl
@[simp] theorem State.setAlways_tele (x : AlwaysOn) : (s.setAlways x).tele = s.tele := rfl
@[simp] theorem State.setAlways_teleEnd (x : AlwaysOn) : (s.setAlways x).teleEnd = s.teleEnd := rfl
@[simp] theorem State.setAlways_shorted (x : AlwaysOn) : (s.setAlways x).shorted = s.shorted := rfl
@[simp] theorem State.setAlways_captures (x : AlwaysOn) : (s.setAlways x).captures = s.captures := rfl
@[simp] theorem State.setAlways_journal (x : AlwaysOn) : (s.setAlways x).journal = s.journal := rfl
@[simp] theorem State.setAlways_storage (x : AlwaysOn) : (s.setAlways x).storage = s.storage := rfl
@[simp] theorem State.setAlways_always (x : AlwaysOn) : (s.setAlways x).always = x := rfl
@[simp] theorem State.setAlways_run (x : AlwaysOn) : (s.setAlways x).run = s.run := rfl
@[simp] theorem State.setAlways_twin (x : AlwaysOn) : (s.setAlways x).twin = s.twin := rfl
@[simp] theorem State.setAlways_ring (x : AlwaysOn) : (s.setAlways x).ring = s.ring := rfl
@[simp] theorem State.setAlways_access (x : AlwaysOn) : (s.setAlways x).access = s.access := rfl
@[simp] theorem State.setAlways_twinState (x : AlwaysOn) : (s.setAlways x).twinState = s.twinState := rfl
@[simp] theorem State.setAlways_inReset (x : AlwaysOn) : (s.setAlways x).inReset = s.inReset := rfl
@[simp] theorem State.setAlways_seqFloor (x : AlwaysOn) : (s.setAlways x).seqFloor = s.seqFloor := rfl
@[simp] theorem State.setAlways_chipSeq (x : AlwaysOn) : (s.setAlways x).chipSeq = s.chipSeq := rfl
@[simp] theorem State.setAlways_regionSeq (x : AlwaysOn) : (s.setAlways x).regionSeq = s.regionSeq := rfl
@[simp] theorem State.setAlways_accepting (x : AlwaysOn) : (s.setAlways x).accepting = s.accepting := rfl
@[simp] theorem State.setAlways_engineSlot (x : AlwaysOn) : (s.setAlways x).engineSlot = s.engineSlot := rfl
@[simp] theorem State.setAlways_feedMarks (x : AlwaysOn) : (s.setAlways x).feedMarks = s.feedMarks := rfl
@[simp] theorem State.setAlways_stepAt (x : AlwaysOn) : (s.setAlways x).stepAt = s.stepAt := rfl

/-! ### setRun -/

@[simp] theorem State.setRun_now (x : Run) : (s.setRun x).now = s.now := rfl
@[simp] theorem State.setRun_freeBase (x : Run) : (s.setRun x).freeBase = s.freeBase := rfl
@[simp] theorem State.setRun_turnDone (x : Run) : (s.setRun x).turnDone = s.turnDone := rfl
@[simp] theorem State.setRun_pending (x : Run) : (s.setRun x).pending = s.pending := rfl
@[simp] theorem State.setRun_obj (x : Run) : (s.setRun x).obj = s.obj := rfl
@[simp] theorem State.setRun_lastResult (x : Run) : (s.setRun x).lastResult = s.lastResult := rfl
@[simp] theorem State.setRun_lastRead (x : Run) : (s.setRun x).lastRead = s.lastRead := rfl
@[simp] theorem State.setRun_freeCount (x : Run) : (s.setRun x).freeCount = s.freeCount := rfl
@[simp] theorem State.setRun_faults (x : Run) : (s.setRun x).faults = s.faults := rfl
@[simp] theorem State.setRun_inputs (x : Run) : (s.setRun x).inputs = s.inputs := rfl
@[simp] theorem State.setRun_acceptAt (x : Run) : (s.setRun x).acceptAt = s.acceptAt := rfl
@[simp] theorem State.setRun_limited (x : Run) : (s.setRun x).limited = s.limited := rfl
@[simp] theorem State.setRun_cells (x : Run) : (s.setRun x).cells = s.cells := rfl
@[simp] theorem State.setRun_ctxs (x : Run) : (s.setRun x).ctxs = s.ctxs := rfl
@[simp] theorem State.setRun_engineBusy (x : Run) : (s.setRun x).engineBusy = s.engineBusy := rfl
@[simp] theorem State.setRun_groups (x : Run) : (s.setRun x).groups = s.groups := rfl
@[simp] theorem State.setRun_pools (x : Run) : (s.setRun x).pools = s.pools := rfl
@[simp] theorem State.setRun_volts (x : Run) : (s.setRun x).volts = s.volts := rfl
@[simp] theorem State.setRun_acs (x : Run) : (s.setRun x).acs = s.acs := rfl
@[simp] theorem State.setRun_bridge (x : Run) : (s.setRun x).bridge = s.bridge := rfl
@[simp] theorem State.setRun_feeds (x : Run) : (s.setRun x).feeds = s.feeds := rfl
@[simp] theorem State.setRun_selector (x : Run) : (s.setRun x).selector = s.selector := rfl
@[simp] theorem State.setRun_seqs (x : Run) : (s.setRun x).seqs = s.seqs := rfl
@[simp] theorem State.setRun_mains (x : Run) : (s.setRun x).mains = s.mains := rfl
@[simp] theorem State.setRun_frame (x : Run) : (s.setRun x).frame = s.frame := rfl
@[simp] theorem State.setRun_loadMap (x : Run) : (s.setRun x).loadMap = s.loadMap := rfl
@[simp] theorem State.setRun_moves (x : Run) : (s.setRun x).moves = s.moves := rfl
@[simp] theorem State.setRun_strings (x : Run) : (s.setRun x).strings = s.strings := rfl
@[simp] theorem State.setRun_runSavedAt (x : Run) : (s.setRun x).runSavedAt = s.runSavedAt := rfl
@[simp] theorem State.setRun_tables (x : Run) : (s.setRun x).tables = s.tables := rfl
@[simp] theorem State.setRun_tableClass (x : Run) : (s.setRun x).tableClass = s.tableClass := rfl
@[simp] theorem State.setRun_auth (x : Run) : (s.setRun x).auth = s.auth := rfl
@[simp] theorem State.setRun_temps (x : Run) : (s.setRun x).temps = s.temps := rfl
@[simp] theorem State.setRun_sinks (x : Run) : (s.setRun x).sinks = s.sinks := rfl
@[simp] theorem State.setRun_drivers (x : Run) : (s.setRun x).drivers = s.drivers := rfl
@[simp] theorem State.setRun_dies (x : Run) : (s.setRun x).dies = s.dies := rfl
@[simp] theorem State.setRun_progSlots (x : Run) : (s.setRun x).progSlots = s.progSlots := rfl
@[simp] theorem State.setRun_deferred (x : Run) : (s.setRun x).deferred = s.deferred := rfl
@[simp] theorem State.setRun_mainsPart (x : Run) : (s.setRun x).mainsPart = s.mainsPart := rfl
@[simp] theorem State.setRun_feedPart (x : Run) : (s.setRun x).feedPart = s.feedPart := rfl
@[simp] theorem State.setRun_noPart (x : Run) : (s.setRun x).noPart = s.noPart := rfl
@[simp] theorem State.setRun_watch (x : Run) : (s.setRun x).watch = s.watch := rfl
@[simp] theorem State.setRun_tele (x : Run) : (s.setRun x).tele = s.tele := rfl
@[simp] theorem State.setRun_teleEnd (x : Run) : (s.setRun x).teleEnd = s.teleEnd := rfl
@[simp] theorem State.setRun_shorted (x : Run) : (s.setRun x).shorted = s.shorted := rfl
@[simp] theorem State.setRun_captures (x : Run) : (s.setRun x).captures = s.captures := rfl
@[simp] theorem State.setRun_journal (x : Run) : (s.setRun x).journal = s.journal := rfl
@[simp] theorem State.setRun_storage (x : Run) : (s.setRun x).storage = s.storage := rfl
@[simp] theorem State.setRun_always (x : Run) : (s.setRun x).always = s.always := rfl
@[simp] theorem State.setRun_run (x : Run) : (s.setRun x).run = x := rfl
@[simp] theorem State.setRun_twin (x : Run) : (s.setRun x).twin = s.twin := rfl
@[simp] theorem State.setRun_ring (x : Run) : (s.setRun x).ring = s.ring := rfl
@[simp] theorem State.setRun_access (x : Run) : (s.setRun x).access = s.access := rfl
@[simp] theorem State.setRun_twinState (x : Run) : (s.setRun x).twinState = s.twinState := rfl
@[simp] theorem State.setRun_inReset (x : Run) : (s.setRun x).inReset = s.inReset := rfl
@[simp] theorem State.setRun_seqFloor (x : Run) : (s.setRun x).seqFloor = s.seqFloor := rfl
@[simp] theorem State.setRun_chipSeq (x : Run) : (s.setRun x).chipSeq = s.chipSeq := rfl
@[simp] theorem State.setRun_regionSeq (x : Run) : (s.setRun x).regionSeq = s.regionSeq := rfl
@[simp] theorem State.setRun_accepting (x : Run) : (s.setRun x).accepting = s.accepting := rfl
@[simp] theorem State.setRun_engineSlot (x : Run) : (s.setRun x).engineSlot = s.engineSlot := rfl
@[simp] theorem State.setRun_feedMarks (x : Run) : (s.setRun x).feedMarks = s.feedMarks := rfl
@[simp] theorem State.setRun_stepAt (x : Run) : (s.setRun x).stepAt = s.stepAt := rfl

/-! ### setTwin -/

@[simp] theorem State.setTwin_now (x : Twin) : (s.setTwin x).now = s.now := rfl
@[simp] theorem State.setTwin_freeBase (x : Twin) : (s.setTwin x).freeBase = s.freeBase := rfl
@[simp] theorem State.setTwin_turnDone (x : Twin) : (s.setTwin x).turnDone = s.turnDone := rfl
@[simp] theorem State.setTwin_pending (x : Twin) : (s.setTwin x).pending = s.pending := rfl
@[simp] theorem State.setTwin_obj (x : Twin) : (s.setTwin x).obj = s.obj := rfl
@[simp] theorem State.setTwin_lastResult (x : Twin) : (s.setTwin x).lastResult = s.lastResult := rfl
@[simp] theorem State.setTwin_lastRead (x : Twin) : (s.setTwin x).lastRead = s.lastRead := rfl
@[simp] theorem State.setTwin_freeCount (x : Twin) : (s.setTwin x).freeCount = s.freeCount := rfl
@[simp] theorem State.setTwin_faults (x : Twin) : (s.setTwin x).faults = s.faults := rfl
@[simp] theorem State.setTwin_inputs (x : Twin) : (s.setTwin x).inputs = s.inputs := rfl
@[simp] theorem State.setTwin_acceptAt (x : Twin) : (s.setTwin x).acceptAt = s.acceptAt := rfl
@[simp] theorem State.setTwin_limited (x : Twin) : (s.setTwin x).limited = s.limited := rfl
@[simp] theorem State.setTwin_cells (x : Twin) : (s.setTwin x).cells = s.cells := rfl
@[simp] theorem State.setTwin_ctxs (x : Twin) : (s.setTwin x).ctxs = s.ctxs := rfl
@[simp] theorem State.setTwin_engineBusy (x : Twin) : (s.setTwin x).engineBusy = s.engineBusy := rfl
@[simp] theorem State.setTwin_groups (x : Twin) : (s.setTwin x).groups = s.groups := rfl
@[simp] theorem State.setTwin_pools (x : Twin) : (s.setTwin x).pools = s.pools := rfl
@[simp] theorem State.setTwin_volts (x : Twin) : (s.setTwin x).volts = s.volts := rfl
@[simp] theorem State.setTwin_acs (x : Twin) : (s.setTwin x).acs = s.acs := rfl
@[simp] theorem State.setTwin_bridge (x : Twin) : (s.setTwin x).bridge = s.bridge := rfl
@[simp] theorem State.setTwin_feeds (x : Twin) : (s.setTwin x).feeds = s.feeds := rfl
@[simp] theorem State.setTwin_selector (x : Twin) : (s.setTwin x).selector = s.selector := rfl
@[simp] theorem State.setTwin_seqs (x : Twin) : (s.setTwin x).seqs = s.seqs := rfl
@[simp] theorem State.setTwin_mains (x : Twin) : (s.setTwin x).mains = s.mains := rfl
@[simp] theorem State.setTwin_frame (x : Twin) : (s.setTwin x).frame = s.frame := rfl
@[simp] theorem State.setTwin_loadMap (x : Twin) : (s.setTwin x).loadMap = s.loadMap := rfl
@[simp] theorem State.setTwin_moves (x : Twin) : (s.setTwin x).moves = s.moves := rfl
@[simp] theorem State.setTwin_strings (x : Twin) : (s.setTwin x).strings = s.strings := rfl
@[simp] theorem State.setTwin_runSavedAt (x : Twin) : (s.setTwin x).runSavedAt = s.runSavedAt := rfl
@[simp] theorem State.setTwin_tables (x : Twin) : (s.setTwin x).tables = s.tables := rfl
@[simp] theorem State.setTwin_tableClass (x : Twin) : (s.setTwin x).tableClass = s.tableClass := rfl
@[simp] theorem State.setTwin_auth (x : Twin) : (s.setTwin x).auth = s.auth := rfl
@[simp] theorem State.setTwin_temps (x : Twin) : (s.setTwin x).temps = s.temps := rfl
@[simp] theorem State.setTwin_sinks (x : Twin) : (s.setTwin x).sinks = s.sinks := rfl
@[simp] theorem State.setTwin_drivers (x : Twin) : (s.setTwin x).drivers = s.drivers := rfl
@[simp] theorem State.setTwin_dies (x : Twin) : (s.setTwin x).dies = s.dies := rfl
@[simp] theorem State.setTwin_progSlots (x : Twin) : (s.setTwin x).progSlots = s.progSlots := rfl
@[simp] theorem State.setTwin_deferred (x : Twin) : (s.setTwin x).deferred = s.deferred := rfl
@[simp] theorem State.setTwin_mainsPart (x : Twin) : (s.setTwin x).mainsPart = s.mainsPart := rfl
@[simp] theorem State.setTwin_feedPart (x : Twin) : (s.setTwin x).feedPart = s.feedPart := rfl
@[simp] theorem State.setTwin_noPart (x : Twin) : (s.setTwin x).noPart = s.noPart := rfl
@[simp] theorem State.setTwin_watch (x : Twin) : (s.setTwin x).watch = s.watch := rfl
@[simp] theorem State.setTwin_tele (x : Twin) : (s.setTwin x).tele = s.tele := rfl
@[simp] theorem State.setTwin_teleEnd (x : Twin) : (s.setTwin x).teleEnd = s.teleEnd := rfl
@[simp] theorem State.setTwin_shorted (x : Twin) : (s.setTwin x).shorted = s.shorted := rfl
@[simp] theorem State.setTwin_captures (x : Twin) : (s.setTwin x).captures = s.captures := rfl
@[simp] theorem State.setTwin_journal (x : Twin) : (s.setTwin x).journal = s.journal := rfl
@[simp] theorem State.setTwin_storage (x : Twin) : (s.setTwin x).storage = s.storage := rfl
@[simp] theorem State.setTwin_always (x : Twin) : (s.setTwin x).always = s.always := rfl
@[simp] theorem State.setTwin_run (x : Twin) : (s.setTwin x).run = s.run := rfl
@[simp] theorem State.setTwin_twin (x : Twin) : (s.setTwin x).twin = x := rfl
@[simp] theorem State.setTwin_ring (x : Twin) : (s.setTwin x).ring = s.ring := rfl
@[simp] theorem State.setTwin_access (x : Twin) : (s.setTwin x).access = s.access := rfl
@[simp] theorem State.setTwin_twinState (x : Twin) : (s.setTwin x).twinState = s.twinState := rfl
@[simp] theorem State.setTwin_inReset (x : Twin) : (s.setTwin x).inReset = s.inReset := rfl
@[simp] theorem State.setTwin_seqFloor (x : Twin) : (s.setTwin x).seqFloor = s.seqFloor := rfl
@[simp] theorem State.setTwin_chipSeq (x : Twin) : (s.setTwin x).chipSeq = s.chipSeq := rfl
@[simp] theorem State.setTwin_regionSeq (x : Twin) : (s.setTwin x).regionSeq = s.regionSeq := rfl
@[simp] theorem State.setTwin_accepting (x : Twin) : (s.setTwin x).accepting = s.accepting := rfl
@[simp] theorem State.setTwin_engineSlot (x : Twin) : (s.setTwin x).engineSlot = s.engineSlot := rfl
@[simp] theorem State.setTwin_feedMarks (x : Twin) : (s.setTwin x).feedMarks = s.feedMarks := rfl
@[simp] theorem State.setTwin_stepAt (x : Twin) : (s.setTwin x).stepAt = s.stepAt := rfl

/-! ### setRing -/

@[simp] theorem State.setRing_now (x : Ring) : (s.setRing x).now = s.now := rfl
@[simp] theorem State.setRing_freeBase (x : Ring) : (s.setRing x).freeBase = s.freeBase := rfl
@[simp] theorem State.setRing_turnDone (x : Ring) : (s.setRing x).turnDone = s.turnDone := rfl
@[simp] theorem State.setRing_pending (x : Ring) : (s.setRing x).pending = s.pending := rfl
@[simp] theorem State.setRing_obj (x : Ring) : (s.setRing x).obj = s.obj := rfl
@[simp] theorem State.setRing_lastResult (x : Ring) : (s.setRing x).lastResult = s.lastResult := rfl
@[simp] theorem State.setRing_lastRead (x : Ring) : (s.setRing x).lastRead = s.lastRead := rfl
@[simp] theorem State.setRing_freeCount (x : Ring) : (s.setRing x).freeCount = s.freeCount := rfl
@[simp] theorem State.setRing_faults (x : Ring) : (s.setRing x).faults = s.faults := rfl
@[simp] theorem State.setRing_inputs (x : Ring) : (s.setRing x).inputs = s.inputs := rfl
@[simp] theorem State.setRing_acceptAt (x : Ring) : (s.setRing x).acceptAt = s.acceptAt := rfl
@[simp] theorem State.setRing_limited (x : Ring) : (s.setRing x).limited = s.limited := rfl
@[simp] theorem State.setRing_cells (x : Ring) : (s.setRing x).cells = s.cells := rfl
@[simp] theorem State.setRing_ctxs (x : Ring) : (s.setRing x).ctxs = s.ctxs := rfl
@[simp] theorem State.setRing_engineBusy (x : Ring) : (s.setRing x).engineBusy = s.engineBusy := rfl
@[simp] theorem State.setRing_groups (x : Ring) : (s.setRing x).groups = s.groups := rfl
@[simp] theorem State.setRing_pools (x : Ring) : (s.setRing x).pools = s.pools := rfl
@[simp] theorem State.setRing_volts (x : Ring) : (s.setRing x).volts = s.volts := rfl
@[simp] theorem State.setRing_acs (x : Ring) : (s.setRing x).acs = s.acs := rfl
@[simp] theorem State.setRing_bridge (x : Ring) : (s.setRing x).bridge = s.bridge := rfl
@[simp] theorem State.setRing_feeds (x : Ring) : (s.setRing x).feeds = s.feeds := rfl
@[simp] theorem State.setRing_selector (x : Ring) : (s.setRing x).selector = s.selector := rfl
@[simp] theorem State.setRing_seqs (x : Ring) : (s.setRing x).seqs = s.seqs := rfl
@[simp] theorem State.setRing_mains (x : Ring) : (s.setRing x).mains = s.mains := rfl
@[simp] theorem State.setRing_frame (x : Ring) : (s.setRing x).frame = s.frame := rfl
@[simp] theorem State.setRing_loadMap (x : Ring) : (s.setRing x).loadMap = s.loadMap := rfl
@[simp] theorem State.setRing_moves (x : Ring) : (s.setRing x).moves = s.moves := rfl
@[simp] theorem State.setRing_strings (x : Ring) : (s.setRing x).strings = s.strings := rfl
@[simp] theorem State.setRing_runSavedAt (x : Ring) : (s.setRing x).runSavedAt = s.runSavedAt := rfl
@[simp] theorem State.setRing_tables (x : Ring) : (s.setRing x).tables = s.tables := rfl
@[simp] theorem State.setRing_tableClass (x : Ring) : (s.setRing x).tableClass = s.tableClass := rfl
@[simp] theorem State.setRing_auth (x : Ring) : (s.setRing x).auth = s.auth := rfl
@[simp] theorem State.setRing_temps (x : Ring) : (s.setRing x).temps = s.temps := rfl
@[simp] theorem State.setRing_sinks (x : Ring) : (s.setRing x).sinks = s.sinks := rfl
@[simp] theorem State.setRing_drivers (x : Ring) : (s.setRing x).drivers = s.drivers := rfl
@[simp] theorem State.setRing_dies (x : Ring) : (s.setRing x).dies = s.dies := rfl
@[simp] theorem State.setRing_progSlots (x : Ring) : (s.setRing x).progSlots = s.progSlots := rfl
@[simp] theorem State.setRing_deferred (x : Ring) : (s.setRing x).deferred = s.deferred := rfl
@[simp] theorem State.setRing_mainsPart (x : Ring) : (s.setRing x).mainsPart = s.mainsPart := rfl
@[simp] theorem State.setRing_feedPart (x : Ring) : (s.setRing x).feedPart = s.feedPart := rfl
@[simp] theorem State.setRing_noPart (x : Ring) : (s.setRing x).noPart = s.noPart := rfl
@[simp] theorem State.setRing_watch (x : Ring) : (s.setRing x).watch = s.watch := rfl
@[simp] theorem State.setRing_tele (x : Ring) : (s.setRing x).tele = s.tele := rfl
@[simp] theorem State.setRing_teleEnd (x : Ring) : (s.setRing x).teleEnd = s.teleEnd := rfl
@[simp] theorem State.setRing_shorted (x : Ring) : (s.setRing x).shorted = s.shorted := rfl
@[simp] theorem State.setRing_captures (x : Ring) : (s.setRing x).captures = s.captures := rfl
@[simp] theorem State.setRing_journal (x : Ring) : (s.setRing x).journal = s.journal := rfl
@[simp] theorem State.setRing_storage (x : Ring) : (s.setRing x).storage = s.storage := rfl
@[simp] theorem State.setRing_always (x : Ring) : (s.setRing x).always = s.always := rfl
@[simp] theorem State.setRing_run (x : Ring) : (s.setRing x).run = s.run := rfl
@[simp] theorem State.setRing_twin (x : Ring) : (s.setRing x).twin = s.twin := rfl
@[simp] theorem State.setRing_ring (x : Ring) : (s.setRing x).ring = x := rfl
@[simp] theorem State.setRing_access (x : Ring) : (s.setRing x).access = s.access := rfl
@[simp] theorem State.setRing_twinState (x : Ring) : (s.setRing x).twinState = s.twinState := rfl
@[simp] theorem State.setRing_inReset (x : Ring) : (s.setRing x).inReset = s.inReset := rfl
@[simp] theorem State.setRing_seqFloor (x : Ring) : (s.setRing x).seqFloor = s.seqFloor := rfl
@[simp] theorem State.setRing_chipSeq (x : Ring) : (s.setRing x).chipSeq = s.chipSeq := rfl
@[simp] theorem State.setRing_regionSeq (x : Ring) : (s.setRing x).regionSeq = s.regionSeq := rfl
@[simp] theorem State.setRing_accepting (x : Ring) : (s.setRing x).accepting = s.accepting := rfl
@[simp] theorem State.setRing_engineSlot (x : Ring) : (s.setRing x).engineSlot = s.engineSlot := rfl
@[simp] theorem State.setRing_feedMarks (x : Ring) : (s.setRing x).feedMarks = s.feedMarks := rfl
@[simp] theorem State.setRing_stepAt (x : Ring) : (s.setRing x).stepAt = s.stepAt := rfl

/-! ### setAccess -/

@[simp] theorem State.setAccess_now (x : Requests) : (s.setAccess x).now = s.now := rfl
@[simp] theorem State.setAccess_freeBase (x : Requests) : (s.setAccess x).freeBase = s.freeBase := rfl
@[simp] theorem State.setAccess_turnDone (x : Requests) : (s.setAccess x).turnDone = s.turnDone := rfl
@[simp] theorem State.setAccess_pending (x : Requests) : (s.setAccess x).pending = s.pending := rfl
@[simp] theorem State.setAccess_obj (x : Requests) : (s.setAccess x).obj = s.obj := rfl
@[simp] theorem State.setAccess_lastResult (x : Requests) : (s.setAccess x).lastResult = s.lastResult := rfl
@[simp] theorem State.setAccess_lastRead (x : Requests) : (s.setAccess x).lastRead = s.lastRead := rfl
@[simp] theorem State.setAccess_freeCount (x : Requests) : (s.setAccess x).freeCount = s.freeCount := rfl
@[simp] theorem State.setAccess_faults (x : Requests) : (s.setAccess x).faults = s.faults := rfl
@[simp] theorem State.setAccess_inputs (x : Requests) : (s.setAccess x).inputs = s.inputs := rfl
@[simp] theorem State.setAccess_acceptAt (x : Requests) : (s.setAccess x).acceptAt = s.acceptAt := rfl
@[simp] theorem State.setAccess_limited (x : Requests) : (s.setAccess x).limited = s.limited := rfl
@[simp] theorem State.setAccess_cells (x : Requests) : (s.setAccess x).cells = s.cells := rfl
@[simp] theorem State.setAccess_ctxs (x : Requests) : (s.setAccess x).ctxs = s.ctxs := rfl
@[simp] theorem State.setAccess_engineBusy (x : Requests) : (s.setAccess x).engineBusy = s.engineBusy := rfl
@[simp] theorem State.setAccess_groups (x : Requests) : (s.setAccess x).groups = s.groups := rfl
@[simp] theorem State.setAccess_pools (x : Requests) : (s.setAccess x).pools = s.pools := rfl
@[simp] theorem State.setAccess_volts (x : Requests) : (s.setAccess x).volts = s.volts := rfl
@[simp] theorem State.setAccess_acs (x : Requests) : (s.setAccess x).acs = s.acs := rfl
@[simp] theorem State.setAccess_bridge (x : Requests) : (s.setAccess x).bridge = s.bridge := rfl
@[simp] theorem State.setAccess_feeds (x : Requests) : (s.setAccess x).feeds = s.feeds := rfl
@[simp] theorem State.setAccess_selector (x : Requests) : (s.setAccess x).selector = s.selector := rfl
@[simp] theorem State.setAccess_seqs (x : Requests) : (s.setAccess x).seqs = s.seqs := rfl
@[simp] theorem State.setAccess_mains (x : Requests) : (s.setAccess x).mains = s.mains := rfl
@[simp] theorem State.setAccess_frame (x : Requests) : (s.setAccess x).frame = s.frame := rfl
@[simp] theorem State.setAccess_loadMap (x : Requests) : (s.setAccess x).loadMap = s.loadMap := rfl
@[simp] theorem State.setAccess_moves (x : Requests) : (s.setAccess x).moves = s.moves := rfl
@[simp] theorem State.setAccess_strings (x : Requests) : (s.setAccess x).strings = s.strings := rfl
@[simp] theorem State.setAccess_runSavedAt (x : Requests) : (s.setAccess x).runSavedAt = s.runSavedAt := rfl
@[simp] theorem State.setAccess_tables (x : Requests) : (s.setAccess x).tables = s.tables := rfl
@[simp] theorem State.setAccess_tableClass (x : Requests) : (s.setAccess x).tableClass = s.tableClass := rfl
@[simp] theorem State.setAccess_auth (x : Requests) : (s.setAccess x).auth = s.auth := rfl
@[simp] theorem State.setAccess_temps (x : Requests) : (s.setAccess x).temps = s.temps := rfl
@[simp] theorem State.setAccess_sinks (x : Requests) : (s.setAccess x).sinks = s.sinks := rfl
@[simp] theorem State.setAccess_drivers (x : Requests) : (s.setAccess x).drivers = s.drivers := rfl
@[simp] theorem State.setAccess_dies (x : Requests) : (s.setAccess x).dies = s.dies := rfl
@[simp] theorem State.setAccess_progSlots (x : Requests) : (s.setAccess x).progSlots = s.progSlots := rfl
@[simp] theorem State.setAccess_deferred (x : Requests) : (s.setAccess x).deferred = s.deferred := rfl
@[simp] theorem State.setAccess_mainsPart (x : Requests) : (s.setAccess x).mainsPart = s.mainsPart := rfl
@[simp] theorem State.setAccess_feedPart (x : Requests) : (s.setAccess x).feedPart = s.feedPart := rfl
@[simp] theorem State.setAccess_noPart (x : Requests) : (s.setAccess x).noPart = s.noPart := rfl
@[simp] theorem State.setAccess_watch (x : Requests) : (s.setAccess x).watch = s.watch := rfl
@[simp] theorem State.setAccess_tele (x : Requests) : (s.setAccess x).tele = s.tele := rfl
@[simp] theorem State.setAccess_teleEnd (x : Requests) : (s.setAccess x).teleEnd = s.teleEnd := rfl
@[simp] theorem State.setAccess_shorted (x : Requests) : (s.setAccess x).shorted = s.shorted := rfl
@[simp] theorem State.setAccess_captures (x : Requests) : (s.setAccess x).captures = s.captures := rfl
@[simp] theorem State.setAccess_journal (x : Requests) : (s.setAccess x).journal = s.journal := rfl
@[simp] theorem State.setAccess_storage (x : Requests) : (s.setAccess x).storage = s.storage := rfl
@[simp] theorem State.setAccess_always (x : Requests) : (s.setAccess x).always = s.always := rfl
@[simp] theorem State.setAccess_run (x : Requests) : (s.setAccess x).run = s.run := rfl
@[simp] theorem State.setAccess_twin (x : Requests) : (s.setAccess x).twin = s.twin := rfl
@[simp] theorem State.setAccess_ring (x : Requests) : (s.setAccess x).ring = s.ring := rfl
@[simp] theorem State.setAccess_access (x : Requests) : (s.setAccess x).access = x := rfl
@[simp] theorem State.setAccess_twinState (x : Requests) : (s.setAccess x).twinState = s.twinState := rfl
@[simp] theorem State.setAccess_inReset (x : Requests) : (s.setAccess x).inReset = s.inReset := rfl
@[simp] theorem State.setAccess_seqFloor (x : Requests) : (s.setAccess x).seqFloor = s.seqFloor := rfl
@[simp] theorem State.setAccess_chipSeq (x : Requests) : (s.setAccess x).chipSeq = s.chipSeq := rfl
@[simp] theorem State.setAccess_regionSeq (x : Requests) : (s.setAccess x).regionSeq = s.regionSeq := rfl
@[simp] theorem State.setAccess_accepting (x : Requests) : (s.setAccess x).accepting = s.accepting := rfl
@[simp] theorem State.setAccess_engineSlot (x : Requests) : (s.setAccess x).engineSlot = s.engineSlot := rfl
@[simp] theorem State.setAccess_feedMarks (x : Requests) : (s.setAccess x).feedMarks = s.feedMarks := rfl
@[simp] theorem State.setAccess_stepAt (x : Requests) : (s.setAccess x).stepAt = s.stepAt := rfl

/-! ### keep -/

@[simp] theorem State.keep_now (u : State) : (s.keep u).now = s.now := rfl
@[simp] theorem State.keep_freeBase (u : State) : (s.keep u).freeBase = u.freeBase := rfl
@[simp] theorem State.keep_turnDone (u : State) : (s.keep u).turnDone = u.turnDone := rfl
@[simp] theorem State.keep_pending (u : State) : (s.keep u).pending = s.pending := rfl
@[simp] theorem State.keep_obj (u : State) : (s.keep u).obj = u.obj := rfl
@[simp] theorem State.keep_lastResult (u : State) : (s.keep u).lastResult = u.lastResult := rfl
@[simp] theorem State.keep_lastRead (u : State) : (s.keep u).lastRead = u.lastRead := rfl
@[simp] theorem State.keep_freeCount (u : State) : (s.keep u).freeCount = u.freeCount := rfl
@[simp] theorem State.keep_faults (u : State) : (s.keep u).faults = u.faults := rfl
@[simp] theorem State.keep_inputs (u : State) : (s.keep u).inputs = u.inputs := rfl
@[simp] theorem State.keep_acceptAt (u : State) : (s.keep u).acceptAt = u.acceptAt := rfl
@[simp] theorem State.keep_limited (u : State) : (s.keep u).limited = u.limited := rfl
@[simp] theorem State.keep_cells (u : State) : (s.keep u).cells = u.cells := rfl
@[simp] theorem State.keep_ctxs (u : State) : (s.keep u).ctxs = u.ctxs := rfl
@[simp] theorem State.keep_engineBusy (u : State) : (s.keep u).engineBusy = u.engineBusy := rfl
@[simp] theorem State.keep_groups (u : State) : (s.keep u).groups = u.groups := rfl
@[simp] theorem State.keep_pools (u : State) : (s.keep u).pools = u.pools := rfl
@[simp] theorem State.keep_volts (u : State) : (s.keep u).volts = u.volts := rfl
@[simp] theorem State.keep_acs (u : State) : (s.keep u).acs = u.acs := rfl
@[simp] theorem State.keep_bridge (u : State) : (s.keep u).bridge = u.bridge := rfl
@[simp] theorem State.keep_feeds (u : State) : (s.keep u).feeds = u.feeds := rfl
@[simp] theorem State.keep_selector (u : State) : (s.keep u).selector = u.selector := rfl
@[simp] theorem State.keep_seqs (u : State) : (s.keep u).seqs = u.seqs := rfl
@[simp] theorem State.keep_mains (u : State) : (s.keep u).mains = u.mains := rfl
@[simp] theorem State.keep_frame (u : State) : (s.keep u).frame = u.frame := rfl
@[simp] theorem State.keep_loadMap (u : State) : (s.keep u).loadMap = u.loadMap := rfl
@[simp] theorem State.keep_moves (u : State) : (s.keep u).moves = u.moves := rfl
@[simp] theorem State.keep_strings (u : State) : (s.keep u).strings = u.strings := rfl
@[simp] theorem State.keep_runSavedAt (u : State) : (s.keep u).runSavedAt = u.runSavedAt := rfl
@[simp] theorem State.keep_tables (u : State) : (s.keep u).tables = u.tables := rfl
@[simp] theorem State.keep_tableClass (u : State) : (s.keep u).tableClass = u.tableClass := rfl
@[simp] theorem State.keep_auth (u : State) : (s.keep u).auth = u.auth := rfl
@[simp] theorem State.keep_temps (u : State) : (s.keep u).temps = u.temps := rfl
@[simp] theorem State.keep_sinks (u : State) : (s.keep u).sinks = u.sinks := rfl
@[simp] theorem State.keep_drivers (u : State) : (s.keep u).drivers = u.drivers := rfl
@[simp] theorem State.keep_dies (u : State) : (s.keep u).dies = u.dies := rfl
@[simp] theorem State.keep_progSlots (u : State) : (s.keep u).progSlots = u.progSlots := rfl
@[simp] theorem State.keep_deferred (u : State) : (s.keep u).deferred = u.deferred := rfl
@[simp] theorem State.keep_mainsPart (u : State) : (s.keep u).mainsPart = u.mainsPart := rfl
@[simp] theorem State.keep_feedPart (u : State) : (s.keep u).feedPart = u.feedPart := rfl
@[simp] theorem State.keep_noPart (u : State) : (s.keep u).noPart = u.noPart := rfl
@[simp] theorem State.keep_watch (u : State) : (s.keep u).watch = u.watch := rfl
@[simp] theorem State.keep_tele (u : State) : (s.keep u).tele = u.tele := rfl
@[simp] theorem State.keep_teleEnd (u : State) : (s.keep u).teleEnd = u.teleEnd := rfl
@[simp] theorem State.keep_shorted (u : State) : (s.keep u).shorted = u.shorted := rfl
@[simp] theorem State.keep_captures (u : State) : (s.keep u).captures = u.captures := rfl
@[simp] theorem State.keep_journal (u : State) : (s.keep u).journal = u.journal := rfl
@[simp] theorem State.keep_storage (u : State) : (s.keep u).storage = u.storage := rfl
@[simp] theorem State.keep_always (u : State) : (s.keep u).always = u.always := rfl
@[simp] theorem State.keep_run (u : State) : (s.keep u).run = u.run := rfl
@[simp] theorem State.keep_twin (u : State) : (s.keep u).twin = u.twin := rfl
@[simp] theorem State.keep_ring (u : State) : (s.keep u).ring = u.ring := rfl
@[simp] theorem State.keep_access (u : State) : (s.keep u).access = u.access := rfl
@[simp] theorem State.keep_twinState (u : State) : (s.keep u).twinState = u.twinState := rfl
@[simp] theorem State.keep_inReset (u : State) : (s.keep u).inReset = u.inReset := rfl
@[simp] theorem State.keep_seqFloor (u : State) : (s.keep u).seqFloor = u.seqFloor := rfl
@[simp] theorem State.keep_chipSeq (u : State) : (s.keep u).chipSeq = u.chipSeq := rfl
@[simp] theorem State.keep_regionSeq (u : State) : (s.keep u).regionSeq = u.regionSeq := rfl
@[simp] theorem State.keep_accepting (u : State) : (s.keep u).accepting = s.accepting := rfl
@[simp] theorem State.keep_engineSlot (u : State) : (s.keep u).engineSlot = u.engineSlot := rfl
@[simp] theorem State.keep_feedMarks (u : State) : (s.keep u).feedMarks = u.feedMarks := rfl
@[simp] theorem State.keep_stepAt (u : State) : (s.keep u).stepAt = u.stepAt := rfl

/-! ### markAccept -/

@[simp] theorem State.markAccept_now (l n : Nat) : (s.markAccept l n).now = s.now := rfl
@[simp] theorem State.markAccept_freeBase (l n : Nat) : (s.markAccept l n).freeBase = s.freeBase := rfl
@[simp] theorem State.markAccept_turnDone (l n : Nat) : (s.markAccept l n).turnDone = s.turnDone := rfl
@[simp] theorem State.markAccept_pending (l n : Nat) : (s.markAccept l n).pending = s.pending := rfl
@[simp] theorem State.markAccept_accepting (l n : Nat) : (s.markAccept l n).accepting = s.accepting := rfl
@[simp] theorem State.markAccept_obj (l n : Nat) : (s.markAccept l n).obj = s.obj := rfl
@[simp] theorem State.markAccept_lastResult (l n : Nat) : (s.markAccept l n).lastResult = s.lastResult := rfl
@[simp] theorem State.markAccept_lastRead (l n : Nat) : (s.markAccept l n).lastRead = s.lastRead := rfl
@[simp] theorem State.markAccept_freeCount (l n : Nat) : (s.markAccept l n).freeCount = s.freeCount := rfl
@[simp] theorem State.markAccept_faults (l n : Nat) : (s.markAccept l n).faults = s.faults := rfl
@[simp] theorem State.markAccept_inputs (l n : Nat) : (s.markAccept l n).inputs = s.inputs := rfl
@[simp] theorem State.markAccept_acceptAt (l n : Nat) : (s.markAccept l n).acceptAt = bset s.acceptAt (l, n) s.now := rfl
@[simp] theorem State.markAccept_limited (l n : Nat) : (s.markAccept l n).limited = s.limited := rfl
@[simp] theorem State.markAccept_cells (l n : Nat) : (s.markAccept l n).cells = s.cells := rfl
@[simp] theorem State.markAccept_ctxs (l n : Nat) : (s.markAccept l n).ctxs = s.ctxs := rfl
@[simp] theorem State.markAccept_engineBusy (l n : Nat) : (s.markAccept l n).engineBusy = s.engineBusy := rfl
@[simp] theorem State.markAccept_engineSlot (l n : Nat) : (s.markAccept l n).engineSlot = s.engineSlot := rfl
@[simp] theorem State.markAccept_groups (l n : Nat) : (s.markAccept l n).groups = s.groups := rfl
@[simp] theorem State.markAccept_pools (l n : Nat) : (s.markAccept l n).pools = s.pools := rfl
@[simp] theorem State.markAccept_volts (l n : Nat) : (s.markAccept l n).volts = s.volts := rfl
@[simp] theorem State.markAccept_acs (l n : Nat) : (s.markAccept l n).acs = s.acs := rfl
@[simp] theorem State.markAccept_bridge (l n : Nat) : (s.markAccept l n).bridge = s.bridge := rfl
@[simp] theorem State.markAccept_feeds (l n : Nat) : (s.markAccept l n).feeds = s.feeds := rfl
@[simp] theorem State.markAccept_feedMarks (l n : Nat) : (s.markAccept l n).feedMarks = s.feedMarks := rfl
@[simp] theorem State.markAccept_selector (l n : Nat) : (s.markAccept l n).selector = s.selector := rfl
@[simp] theorem State.markAccept_seqs (l n : Nat) : (s.markAccept l n).seqs = s.seqs := rfl
@[simp] theorem State.markAccept_mains (l n : Nat) : (s.markAccept l n).mains = s.mains := rfl
@[simp] theorem State.markAccept_frame (l n : Nat) : (s.markAccept l n).frame = s.frame := rfl
@[simp] theorem State.markAccept_loadMap (l n : Nat) : (s.markAccept l n).loadMap = s.loadMap := rfl
@[simp] theorem State.markAccept_moves (l n : Nat) : (s.markAccept l n).moves = s.moves := rfl
@[simp] theorem State.markAccept_strings (l n : Nat) : (s.markAccept l n).strings = s.strings := rfl
@[simp] theorem State.markAccept_runSavedAt (l n : Nat) : (s.markAccept l n).runSavedAt = s.runSavedAt := rfl
@[simp] theorem State.markAccept_tables (l n : Nat) : (s.markAccept l n).tables = s.tables := rfl
@[simp] theorem State.markAccept_tableClass (l n : Nat) : (s.markAccept l n).tableClass = s.tableClass := rfl
@[simp] theorem State.markAccept_auth (l n : Nat) : (s.markAccept l n).auth = s.auth := rfl
@[simp] theorem State.markAccept_temps (l n : Nat) : (s.markAccept l n).temps = s.temps := rfl
@[simp] theorem State.markAccept_sinks (l n : Nat) : (s.markAccept l n).sinks = s.sinks := rfl
@[simp] theorem State.markAccept_drivers (l n : Nat) : (s.markAccept l n).drivers = s.drivers := rfl
@[simp] theorem State.markAccept_dies (l n : Nat) : (s.markAccept l n).dies = s.dies := rfl
@[simp] theorem State.markAccept_progSlots (l n : Nat) : (s.markAccept l n).progSlots = s.progSlots := rfl
@[simp] theorem State.markAccept_stepAt (l n : Nat) : (s.markAccept l n).stepAt = s.stepAt := rfl
@[simp] theorem State.markAccept_deferred (l n : Nat) : (s.markAccept l n).deferred = s.deferred := rfl
@[simp] theorem State.markAccept_mainsPart (l n : Nat) : (s.markAccept l n).mainsPart = s.mainsPart := rfl
@[simp] theorem State.markAccept_feedPart (l n : Nat) : (s.markAccept l n).feedPart = s.feedPart := rfl
@[simp] theorem State.markAccept_noPart (l n : Nat) : (s.markAccept l n).noPart = s.noPart := rfl
@[simp] theorem State.markAccept_watch (l n : Nat) : (s.markAccept l n).watch = s.watch := rfl
@[simp] theorem State.markAccept_tele (l n : Nat) : (s.markAccept l n).tele = s.tele := rfl
@[simp] theorem State.markAccept_teleEnd (l n : Nat) : (s.markAccept l n).teleEnd = s.teleEnd := rfl
@[simp] theorem State.markAccept_shorted (l n : Nat) : (s.markAccept l n).shorted = s.shorted := rfl
@[simp] theorem State.markAccept_captures (l n : Nat) : (s.markAccept l n).captures = s.captures := rfl
@[simp] theorem State.markAccept_journal (l n : Nat) : (s.markAccept l n).journal = s.journal := rfl
@[simp] theorem State.markAccept_storage (l n : Nat) : (s.markAccept l n).storage = s.storage := rfl
@[simp] theorem State.markAccept_always (l n : Nat) : (s.markAccept l n).always = s.always := rfl
@[simp] theorem State.markAccept_run (l n : Nat) : (s.markAccept l n).run = s.run := rfl
@[simp] theorem State.markAccept_twin (l n : Nat) : (s.markAccept l n).twin = s.twin := rfl
@[simp] theorem State.markAccept_ring (l n : Nat) : (s.markAccept l n).ring = s.ring := rfl
@[simp] theorem State.markAccept_access (l n : Nat) : (s.markAccept l n).access = s.access := rfl
@[simp] theorem State.markAccept_twinState (l n : Nat) : (s.markAccept l n).twinState = s.twinState := rfl
@[simp] theorem State.markAccept_inReset (l n : Nat) : (s.markAccept l n).inReset = s.inReset := rfl
@[simp] theorem State.markAccept_seqFloor (l n : Nat) : (s.markAccept l n).seqFloor = s.seqFloor := rfl
@[simp] theorem State.markAccept_chipSeq (l n : Nat) : (s.markAccept l n).chipSeq = s.chipSeq := rfl
@[simp] theorem State.markAccept_regionSeq (l n : Nat) : (s.markAccept l n).regionSeq = s.regionSeq := rfl

end Sys2Proof.Machine
end

