-- ==== Sys2Proof/Laws/Bank.lean ====
section
/-! SUPPORT. Reading a bank after it was changed, and the element accessors that rest on it. -/

namespace Sys2Proof.Machine

@[simp] theorem bget_bset_same {κ α : Type} [DecidableEq κ] (d : α) (b : Bank κ α) (n : κ) (x : α) :
    bget d (bset b n x) n = x := by
  induction b with
  | nil => simp [bset, bget]
  | cons p r ih =>
    obtain ⟨k, y⟩ := p
    by_cases h : k = n
    · simp [bset, bget, h]
    · simp [bset, bget, h, ih]

theorem bget_bset_ne {κ α : Type} [DecidableEq κ] (d : α) (b : Bank κ α) {n m : κ} (x : α) (h : m ≠ n) :
    bget d (bset b n x) m = bget d b m := by
  induction b with
  | nil => simp [bset, bget, Ne.symm h]
  | cons p r ih =>
    obtain ⟨k, y⟩ := p
    by_cases hk : k = n
    · subst hk; simp [bset, bget, Ne.symm h]
    · simp [bset, bget, hk, ih]

/-- A bank read through a map over its values. -/
theorem bget_map {κ α β : Type} [DecidableEq κ] (d : α) (f : α → β) (b : Bank κ α) (n : κ) :
    bget (f d) (b.map fun p => (p.1, f p.2)) n = f (bget d b n) := by
  induction b with
  | nil => rfl
  | cons p r ih =>
    obtain ⟨k, y⟩ := p
    by_cases h : k = n
    · simp [bget, h]
    · simpa [bget, h] using ih

/-- The keys of a bank after a change. -/
theorem bset_keys_nodup {κ α : Type} [DecidableEq κ] (b : Bank κ α) (n : κ) (x : α)
    (h : (b.map fun p => p.1).Nodup) : ((bset b n x).map fun p => p.1).Nodup := by
  have keys : ∀ c : Bank κ α, ∀ k, k ∈ (bset c n x).map (fun p => p.1) → k = n ∨ k ∈ c.map (fun p => p.1) := by
    intro c
    induction c with
    | nil => intro k hk; simp [bset] at hk; exact .inl hk
    | cons p r ih =>
      obtain ⟨k', y⟩ := p
      intro k hk
      by_cases hn : k' = n
      · simp [bset, hn] at hk
        rcases hk with rfl | hk
        · exact .inl rfl
        · exact .inr (by simp [hk])
      · simp [bset, hn] at hk
        rcases hk with rfl | hk
        · exact .inr (by simp)
        · rcases ih k (by simpa using hk) with rfl | h'
          · exact .inl rfl
          · exact .inr (List.mem_cons_of_mem _ h')
  induction b with
  | nil => simp [bset]
  | cons p r ih =>
    obtain ⟨k, y⟩ := p
    have h' : k ∉ r.map (fun p => p.1) ∧ (r.map fun p => p.1).Nodup := by simpa using h
    by_cases hn : k = n
    · simpa [bset, hn] using h
    · have : k ∉ (bset r n x).map (fun p => p.1) := by
        intro hk
        rcases keys r k hk with rfl | hk
        · exact hn rfl
        · exact h'.1 hk
      have h2 := ih h'.2
      simp only [bset, hn, if_false, List.map_cons, List.nodup_cons]
      exact ⟨this, h2⟩

variable (s : State)

@[simp] theorem State.cell_setCell (c : Nat) (x : Cell) : (s.setCell c x).cell c = x := bget_bset_same _ _ _ _
theorem State.cell_setCell_ne {c d : Nat} (x : Cell) (h : d ≠ c) : (s.setCell c x).cell d = s.cell d := bget_bset_ne _ _ _ h
@[simp] theorem State.ctx_setCtx (k : Nat) (x : Ctx) : (s.setCtx k x).ctx k = x := bget_bset_same _ _ _ _
theorem State.ctx_setCtx_ne {k m : Nat} (x : Ctx) (h : m ≠ k) : (s.setCtx k x).ctx m = s.ctx m := bget_bset_ne _ _ _ h
@[simp] theorem State.group_setGroup (g : Nat) (x : Group) : (s.setGroup g x).group g = x := bget_bset_same _ _ _ _
theorem State.group_setGroup_ne {g h : Nat} (x : Group) (hn : h ≠ g) : (s.setGroup g x).group h = s.group h :=
  bget_bset_ne _ _ _ hn
@[simp] theorem State.feed_setFeed (f : Nat) (x : FeedCh) : (s.setFeed f x).feed f = x := bget_bset_same _ _ _ _
theorem State.feed_setFeed_ne {f e : Nat} (x : FeedCh) (h : e ≠ f) : (s.setFeed f x).feed e = s.feed e := bget_bset_ne _ _ _ h
@[simp] theorem State.seq_setSeq (n : Nat) (x : SeqCh) : (s.setSeq n x).seq n = x := bget_bset_same _ _ _ _
@[simp] theorem State.str_setStr (n : Nat) (x : Str) : (s.setStr n x).str n = x := bget_bset_same _ _ _ _
@[simp] theorem State.fault_setFault (e : Elem) (r : FaultRec) : (s.setFault e r).fault e = r := bget_bset_same _ _ _ _
theorem State.fault_setFault_ne {e d : Elem} (r : FaultRec) (h : d ≠ e) : (s.setFault e r).fault d = s.fault d :=
  bget_bset_ne _ _ _ h
@[simp] theorem State.input_setInput (i : ArbInput) (q : InQueue) : (s.setInput i q).input i = q := bget_bset_same _ _ _ _
theorem State.input_setInput_ne {i j : ArbInput} (q : InQueue) (h : j ≠ i) : (s.setInput i q).input j = s.input j :=
  bget_bset_ne _ _ _ h
@[simp] theorem State.authRec_setAuth (n : Nat) (r : AuthRec) : (s.setAuth n r).authRec n = r := bget_bset_same _ _ _ _
@[simp] theorem State.progSlot_setProgSlot (e : Nat) (x : SlotT) : (s.setProgSlot e x).progSlot e = x := bget_bset_same _ _ _ _
@[simp] theorem State.capture_setCapture (x : Nat) (c : Capture) : (s.setCapture x c).capture x = c := bget_bset_same _ _ _ _

/-- An object reads as it was written. -/
@[simp] theorem State.stored_put (i u n : Nat) (v : Int) : (s.put i u n v).stored ⟨i, u, n⟩ = some v := by
  have h := bget_map (none : Option Int) (fun o => o) ((s.put i u n v).obj.map fun p => (p.1, some p.2)) ⟨i, u, n⟩
  have key : ∀ b : Bank Addr Int,
      bget none ((bset b ⟨i, u, n⟩ v).map fun p => (p.1, some p.2)) (⟨i, u, n⟩ : Addr) = some v := by
    intro b
    induction b with
    | nil => simp [bset, bget]
    | cons p r ih =>
      obtain ⟨k, y⟩ := p
      by_cases hk : k = ⟨i, u, n⟩
      · simp [bset, bget, hk]
      · simp [bset, bget, hk, ih]
  exact key s.obj

/-- Writing one object leaves what is stored at every other address. -/
theorem State.stored_put_ne {a : Addr} (i u n : Nat) (v : Int) (h : a ≠ ⟨i, u, n⟩) : (s.put i u n v).stored a = s.stored a := by
  have key : ∀ b : Bank Addr Int,
      bget none ((bset b ⟨i, u, n⟩ v).map fun p => (p.1, some p.2)) a = bget none (b.map fun p => (p.1, some p.2)) a := by
    intro b
    induction b with
    | nil => simp [bset, bget, Ne.symm h]
    | cons p r ih =>
      obtain ⟨k, y⟩ := p
      by_cases hk : k = ⟨i, u, n⟩
      · subst hk; simp [bset, bget, Ne.symm h]
      · simp [bset, bget, hk, ih]
  exact key s.obj

@[simp] theorem State.cfg_put (i u n : Nat) (v : Int) : (s.put i u n v).cfg i u n = v := by
  simp [State.cfg]

@[simp] theorem State.nat_put (i u n : Nat) (v : Int) : (s.put i u n v).nat i u n = v.toNat := by
  simp [State.nat]

end Sys2Proof.Machine
end

