-- ==== Sys2Proof/Laws/Events.lean ====
section
/-! SUPPORT. What raising an event can do: it changes fault states, one arbiter input, the count of suppressed repeats and the
turns of local faults, and nothing else. -/

namespace Sys2Proof.Machine

variable (s : State)

/-- Fault states set for a list of owners. -/
theorem State.markFaults_changes (code inst : Nat) (l : List Elem) :
    ∃ f, l.foldl (fun s o => s.markFault code inst o) s = { s with faults := f } := by
  induction l generalizing s with
  | nil => exact ⟨s.faults, rfl⟩
  | cons o r ih =>
    obtain ⟨f, h⟩ := ih (s.markFault code inst o)
    exact ⟨f, by rw [List.foldl_cons, h]; rfl⟩

/-- An item that is offered changes the inputs alone. -/
theorem State.offer_changes (i : ArbInput) (p : Payload) : ∃ q, s.offer i p = { s with inputs := q } := by
  unfold State.offer
  simp only
  split <;> exact ⟨_, rfl⟩

/-- The turn of a local fault is kept in the twin side alone. -/
theorem State.noteLocal_changes (e : Event) : ∃ l, s.noteLocal e = { s with twin := { s.twin with ownFaults := l } } := by
  unfold State.noteLocal
  split
  · exact ⟨_, rfl⟩
  · exact ⟨s.twin.ownFaults, rfl⟩

/-- Everything that raising an event can change. -/
theorem State.raise_changes (e : Event) :
    ∃ f i o l, s.raise e = { s with faults := f, inputs := i, obj := o, twin := { s.twin with ownFaults := l } } := by
  unfold State.raise
  split
  · exact ⟨s.faults, s.inputs, _, s.twin.ownFaults, rfl⟩
  · obtain ⟨l, h⟩ := s.noteLocal_changes e
    obtain ⟨f, hf⟩ := (s.noteLocal e).markFaults_changes e.code e.raisedAs e.faultOwners
    simp only
    rw [hf, h]
    obtain ⟨q, hq⟩ := State.offer_changes { { s with twin := { s.twin with ownFaults := l } } with faults := f }
      (inputOf e.code e.inst) (.event { e with time := s.now, owners := e.faultOwners, stateCode := s.stateWord e })
    exact ⟨_, _, _, _, hq⟩

/-- A suppressed repeat is counted and does nothing else (R317). -/
theorem State.raise_repeat (e : Event) (h : s.repeats e = true) : s.raise e = s.bump 0x8006 1 0 := by
  simp [State.raise, h]

/-- Everything that raising a limited event can change. -/
theorem State.raiseLimited_changes (key : Nat) (e : Event) :
    ∃ f i o l m, s.raiseLimited key e =
      { s with faults := f, inputs := i, obj := o, limited := m, twin := { s.twin with ownFaults := l } } := by
  unfold State.raiseLimited
  split
  · split
    · exact ⟨s.faults, s.inputs, s.obj, s.twin.ownFaults, s.limited, rfl⟩
    · obtain ⟨f, i, o, l, h⟩ := State.raise_changes { s with limited := bset s.limited (e.code, key) s.now } e
      exact ⟨f, i, o, l, _, h⟩
  · obtain ⟨f, i, o, l, h⟩ := State.raise_changes { s with limited := bset s.limited (e.code, key) s.now } e
    exact ⟨f, i, o, l, _, h⟩

@[simp] theorem State.raise_now (e : Event) : (s.raise e).now = s.now := by
  obtain ⟨_, _, _, _, h⟩ := s.raise_changes e; rw [h]
@[simp] theorem State.raise_freeBase (e : Event) : (s.raise e).freeBase = s.freeBase := by
  obtain ⟨_, _, _, _, h⟩ := s.raise_changes e; rw [h]
@[simp] theorem State.raise_turnDone (e : Event) : (s.raise e).turnDone = s.turnDone := by
  obtain ⟨_, _, _, _, h⟩ := s.raise_changes e; rw [h]
@[simp] theorem State.raise_pending (e : Event) : (s.raise e).pending = s.pending := by
  obtain ⟨_, _, _, _, h⟩ := s.raise_changes e; rw [h]
@[simp] theorem State.raise_accepting (e : Event) : (s.raise e).accepting = s.accepting := by
  obtain ⟨_, _, _, _, h⟩ := s.raise_changes e; rw [h]
@[simp] theorem State.raise_engineSlot (e : Event) : (s.raise e).engineSlot = s.engineSlot := by
  obtain ⟨_, _, _, _, h⟩ := s.raise_changes e; rw [h]
@[simp] theorem State.raise_feedMarks (e : Event) : (s.raise e).feedMarks = s.feedMarks := by
  obtain ⟨_, _, _, _, h⟩ := s.raise_changes e; rw [h]
@[simp] theorem State.raise_stepAt (e : Event) : (s.raise e).stepAt = s.stepAt := by
  obtain ⟨_, _, _, _, h⟩ := s.raise_changes e; rw [h]
@[simp] theorem State.raise_lastResult (e : Event) : (s.raise e).lastResult = s.lastResult := by
  obtain ⟨_, _, _, _, h⟩ := s.raise_changes e; rw [h]
@[simp] theorem State.raise_lastRead (e : Event) : (s.raise e).lastRead = s.lastRead := by
  obtain ⟨_, _, _, _, h⟩ := s.raise_changes e; rw [h]
@[simp] theorem State.raise_freeCount (e : Event) : (s.raise e).freeCount = s.freeCount := by
  obtain ⟨_, _, _, _, h⟩ := s.raise_changes e; rw [h]
@[simp] theorem State.raise_acceptAt (e : Event) : (s.raise e).acceptAt = s.acceptAt := by
  obtain ⟨_, _, _, _, h⟩ := s.raise_changes e; rw [h]
@[simp] theorem State.raise_limited (e : Event) : (s.raise e).limited = s.limited := by
  obtain ⟨_, _, _, _, h⟩ := s.raise_changes e; rw [h]
@[simp] theorem State.raise_cells (e : Event) : (s.raise e).cells = s.cells := by
  obtain ⟨_, _, _, _, h⟩ := s.raise_changes e; rw [h]
@[simp] theorem State.raise_ctxs (e : Event) : (s.raise e).ctxs = s.ctxs := by
  obtain ⟨_, _, _, _, h⟩ := s.raise_changes e; rw [h]
@[simp] theorem State.raise_engineBusy (e : Event) : (s.raise e).engineBusy = s.engineBusy := by
  obtain ⟨_, _, _, _, h⟩ := s.raise_changes e; rw [h]
@[simp] theorem State.raise_groups (e : Event) : (s.raise e).groups = s.groups := by
  obtain ⟨_, _, _, _, h⟩ := s.raise_changes e; rw [h]
@[simp] theorem State.raise_pools (e : Event) : (s.raise e).pools = s.pools := by
  obtain ⟨_, _, _, _, h⟩ := s.raise_changes e; rw [h]
@[simp] theorem State.raise_volts (e : Event) : (s.raise e).volts = s.volts := by
  obtain ⟨_, _, _, _, h⟩ := s.raise_changes e; rw [h]
@[simp] theorem State.raise_acs (e : Event) : (s.raise e).acs = s.acs := by
  obtain ⟨_, _, _, _, h⟩ := s.raise_changes e; rw [h]
@[simp] theorem State.raise_bridge (e : Event) : (s.raise e).bridge = s.bridge := by
  obtain ⟨_, _, _, _, h⟩ := s.raise_changes e; rw [h]
@[simp] theorem State.raise_feeds (e : Event) : (s.raise e).feeds = s.feeds := by
  obtain ⟨_, _, _, _, h⟩ := s.raise_changes e; rw [h]
@[simp] theorem State.raise_selector (e : Event) : (s.raise e).selector = s.selector := by
  obtain ⟨_, _, _, _, h⟩ := s.raise_changes e; rw [h]
@[simp] theorem State.raise_seqs (e : Event) : (s.raise e).seqs = s.seqs := by
  obtain ⟨_, _, _, _, h⟩ := s.raise_changes e; rw [h]
@[simp] theorem State.raise_mains (e : Event) : (s.raise e).mains = s.mains := by
  obtain ⟨_, _, _, _, h⟩ := s.raise_changes e; rw [h]
@[simp] theorem State.raise_frame (e : Event) : (s.raise e).frame = s.frame := by
  obtain ⟨_, _, _, _, h⟩ := s.raise_changes e; rw [h]
@[simp] theorem State.raise_loadMap (e : Event) : (s.raise e).loadMap = s.loadMap := by
  obtain ⟨_, _, _, _, h⟩ := s.raise_changes e; rw [h]
@[simp] theorem State.raise_moves (e : Event) : (s.raise e).moves = s.moves := by
  obtain ⟨_, _, _, _, h⟩ := s.raise_changes e; rw [h]
@[simp] theorem State.raise_strings (e : Event) : (s.raise e).strings = s.strings := by
  obtain ⟨_, _, _, _, h⟩ := s.raise_changes e; rw [h]
@[simp] theorem State.raise_runSavedAt (e : Event) : (s.raise e).runSavedAt = s.runSavedAt := by
  obtain ⟨_, _, _, _, h⟩ := s.raise_changes e; rw [h]
@[simp] theorem State.raise_tables (e : Event) : (s.raise e).tables = s.tables := by
  obtain ⟨_, _, _, _, h⟩ := s.raise_changes e; rw [h]
@[simp] theorem State.raise_tableClass (e : Event) : (s.raise e).tableClass = s.tableClass := by
  obtain ⟨_, _, _, _, h⟩ := s.raise_changes e; rw [h]
@[simp] theorem State.raise_auth (e : Event) : (s.raise e).auth = s.auth := by
  obtain ⟨_, _, _, _, h⟩ := s.raise_changes e; rw [h]
@[simp] theorem State.raise_temps (e : Event) : (s.raise e).temps = s.temps := by
  obtain ⟨_, _, _, _, h⟩ := s.raise_changes e; rw [h]
@[simp] theorem State.raise_sinks (e : Event) : (s.raise e).sinks = s.sinks := by
  obtain ⟨_, _, _, _, h⟩ := s.raise_changes e; rw [h]
@[simp] theorem State.raise_drivers (e : Event) : (s.raise e).drivers = s.drivers := by
  obtain ⟨_, _, _, _, h⟩ := s.raise_changes e; rw [h]
@[simp] theorem State.raise_dies (e : Event) : (s.raise e).dies = s.dies := by
  obtain ⟨_, _, _, _, h⟩ := s.raise_changes e; rw [h]
@[simp] theorem State.raise_progSlots (e : Event) : (s.raise e).progSlots = s.progSlots := by
  obtain ⟨_, _, _, _, h⟩ := s.raise_changes e; rw [h]
@[simp] theorem State.raise_deferred (e : Event) : (s.raise e).deferred = s.deferred := by
  obtain ⟨_, _, _, _, h⟩ := s.raise_changes e; rw [h]
@[simp] theorem State.raise_mainsPart (e : Event) : (s.raise e).mainsPart = s.mainsPart := by
  obtain ⟨_, _, _, _, h⟩ := s.raise_changes e; rw [h]
@[simp] theorem State.raise_feedPart (e : Event) : (s.raise e).feedPart = s.feedPart := by
  obtain ⟨_, _, _, _, h⟩ := s.raise_changes e; rw [h]
@[simp] theorem State.raise_noPart (e : Event) : (s.raise e).noPart = s.noPart := by
  obtain ⟨_, _, _, _, h⟩ := s.raise_changes e; rw [h]
@[simp] theorem State.raise_watch (e : Event) : (s.raise e).watch = s.watch := by
  obtain ⟨_, _, _, _, h⟩ := s.raise_changes e; rw [h]
@[simp] theorem State.raise_tele (e : Event) : (s.raise e).tele = s.tele := by
  obtain ⟨_, _, _, _, h⟩ := s.raise_changes e; rw [h]
@[simp] theorem State.raise_teleEnd (e : Event) : (s.raise e).teleEnd = s.teleEnd := by
  obtain ⟨_, _, _, _, h⟩ := s.raise_changes e; rw [h]
@[simp] theorem State.raise_shorted (e : Event) : (s.raise e).shorted = s.shorted := by
  obtain ⟨_, _, _, _, h⟩ := s.raise_changes e; rw [h]
@[simp] theorem State.raise_captures (e : Event) : (s.raise e).captures = s.captures := by
  obtain ⟨_, _, _, _, h⟩ := s.raise_changes e; rw [h]
@[simp] theorem State.raise_journal (e : Event) : (s.raise e).journal = s.journal := by
  obtain ⟨_, _, _, _, h⟩ := s.raise_changes e; rw [h]
@[simp] theorem State.raise_storage (e : Event) : (s.raise e).storage = s.storage := by
  obtain ⟨_, _, _, _, h⟩ := s.raise_changes e; rw [h]
@[simp] theorem State.raise_always (e : Event) : (s.raise e).always = s.always := by
  obtain ⟨_, _, _, _, h⟩ := s.raise_changes e; rw [h]
@[simp] theorem State.raise_run (e : Event) : (s.raise e).run = s.run := by
  obtain ⟨_, _, _, _, h⟩ := s.raise_changes e; rw [h]
@[simp] theorem State.raise_ring (e : Event) : (s.raise e).ring = s.ring := by
  obtain ⟨_, _, _, _, h⟩ := s.raise_changes e; rw [h]
@[simp] theorem State.raise_access (e : Event) : (s.raise e).access = s.access := by
  obtain ⟨_, _, _, _, h⟩ := s.raise_changes e; rw [h]
@[simp] theorem State.raise_twinState (e : Event) : (s.raise e).twinState = s.twinState := by
  obtain ⟨_, _, _, _, h⟩ := s.raise_changes e; rw [h]
@[simp] theorem State.raise_inReset (e : Event) : (s.raise e).inReset = s.inReset := by
  obtain ⟨_, _, _, _, h⟩ := s.raise_changes e; rw [h]
@[simp] theorem State.raise_seqFloor (e : Event) : (s.raise e).seqFloor = s.seqFloor := by
  obtain ⟨_, _, _, _, h⟩ := s.raise_changes e; rw [h]
@[simp] theorem State.raise_chipSeq (e : Event) : (s.raise e).chipSeq = s.chipSeq := by
  obtain ⟨_, _, _, _, h⟩ := s.raise_changes e; rw [h]
@[simp] theorem State.raise_regionSeq (e : Event) : (s.raise e).regionSeq = s.regionSeq := by
  obtain ⟨_, _, _, _, h⟩ := s.raise_changes e; rw [h]

@[simp] theorem State.raiseLimited_now (n : Nat) (e : Event) : (s.raiseLimited n e).now = s.now := by
  obtain ⟨_, _, _, _, _, h⟩ := s.raiseLimited_changes n e; rw [h]
@[simp] theorem State.raiseLimited_freeBase (n : Nat) (e : Event) : (s.raiseLimited n e).freeBase = s.freeBase := by
  obtain ⟨_, _, _, _, _, h⟩ := s.raiseLimited_changes n e; rw [h]
@[simp] theorem State.raiseLimited_turnDone (n : Nat) (e : Event) : (s.raiseLimited n e).turnDone = s.turnDone := by
  obtain ⟨_, _, _, _, _, h⟩ := s.raiseLimited_changes n e; rw [h]
@[simp] theorem State.raiseLimited_pending (n : Nat) (e : Event) : (s.raiseLimited n e).pending = s.pending := by
  obtain ⟨_, _, _, _, _, h⟩ := s.raiseLimited_changes n e; rw [h]
@[simp] theorem State.raiseLimited_accepting (n : Nat) (e : Event) : (s.raiseLimited n e).accepting = s.accepting := by
  obtain ⟨_, _, _, _, _, h⟩ := s.raiseLimited_changes n e; rw [h]
@[simp] theorem State.raiseLimited_engineSlot (n : Nat) (e : Event) : (s.raiseLimited n e).engineSlot = s.engineSlot := by
  obtain ⟨_, _, _, _, _, h⟩ := s.raiseLimited_changes n e; rw [h]
@[simp] theorem State.raiseLimited_feedMarks (n : Nat) (e : Event) : (s.raiseLimited n e).feedMarks = s.feedMarks := by
  obtain ⟨_, _, _, _, _, h⟩ := s.raiseLimited_changes n e; rw [h]
@[simp] theorem State.raiseLimited_stepAt (n : Nat) (e : Event) : (s.raiseLimited n e).stepAt = s.stepAt := by
  obtain ⟨_, _, _, _, _, h⟩ := s.raiseLimited_changes n e; rw [h]
@[simp] theorem State.raiseLimited_lastResult (n : Nat) (e : Event) : (s.raiseLimited n e).lastResult = s.lastResult := by
  obtain ⟨_, _, _, _, _, h⟩ := s.raiseLimited_changes n e; rw [h]
@[simp] theorem State.raiseLimited_lastRead (n : Nat) (e : Event) : (s.raiseLimited n e).lastRead = s.lastRead := by
  obtain ⟨_, _, _, _, _, h⟩ := s.raiseLimited_changes n e; rw [h]
@[simp] theorem State.raiseLimited_freeCount (n : Nat) (e : Event) : (s.raiseLimited n e).freeCount = s.freeCount := by
  obtain ⟨_, _, _, _, _, h⟩ := s.raiseLimited_changes n e; rw [h]
@[simp] theorem State.raiseLimited_acceptAt (n : Nat) (e : Event) : (s.raiseLimited n e).acceptAt = s.acceptAt := by
  obtain ⟨_, _, _, _, _, h⟩ := s.raiseLimited_changes n e; rw [h]
@[simp] theorem State.raiseLimited_cells (n : Nat) (e : Event) : (s.raiseLimited n e).cells = s.cells := by
  obtain ⟨_, _, _, _, _, h⟩ := s.raiseLimited_changes n e; rw [h]
@[simp] theorem State.raiseLimited_ctxs (n : Nat) (e : Event) : (s.raiseLimited n e).ctxs = s.ctxs := by
  obtain ⟨_, _, _, _, _, h⟩ := s.raiseLimited_changes n e; rw [h]
@[simp] theorem State.raiseLimited_engineBusy (n : Nat) (e : Event) : (s.raiseLimited n e).engineBusy = s.engineBusy := by
  obtain ⟨_, _, _, _, _, h⟩ := s.raiseLimited_changes n e; rw [h]
@[simp] theorem State.raiseLimited_groups (n : Nat) (e : Event) : (s.raiseLimited n e).groups = s.groups := by
  obtain ⟨_, _, _, _, _, h⟩ := s.raiseLimited_changes n e; rw [h]
@[simp] theorem State.raiseLimited_pools (n : Nat) (e : Event) : (s.raiseLimited n e).pools = s.pools := by
  obtain ⟨_, _, _, _, _, h⟩ := s.raiseLimited_changes n e; rw [h]
@[simp] theorem State.raiseLimited_volts (n : Nat) (e : Event) : (s.raiseLimited n e).volts = s.volts := by
  obtain ⟨_, _, _, _, _, h⟩ := s.raiseLimited_changes n e; rw [h]
@[simp] theorem State.raiseLimited_acs (n : Nat) (e : Event) : (s.raiseLimited n e).acs = s.acs := by
  obtain ⟨_, _, _, _, _, h⟩ := s.raiseLimited_changes n e; rw [h]
@[simp] theorem State.raiseLimited_bridge (n : Nat) (e : Event) : (s.raiseLimited n e).bridge = s.bridge := by
  obtain ⟨_, _, _, _, _, h⟩ := s.raiseLimited_changes n e; rw [h]
@[simp] theorem State.raiseLimited_feeds (n : Nat) (e : Event) : (s.raiseLimited n e).feeds = s.feeds := by
  obtain ⟨_, _, _, _, _, h⟩ := s.raiseLimited_changes n e; rw [h]
@[simp] theorem State.raiseLimited_selector (n : Nat) (e : Event) : (s.raiseLimited n e).selector = s.selector := by
  obtain ⟨_, _, _, _, _, h⟩ := s.raiseLimited_changes n e; rw [h]
@[simp] theorem State.raiseLimited_seqs (n : Nat) (e : Event) : (s.raiseLimited n e).seqs = s.seqs := by
  obtain ⟨_, _, _, _, _, h⟩ := s.raiseLimited_changes n e; rw [h]
@[simp] theorem State.raiseLimited_mains (n : Nat) (e : Event) : (s.raiseLimited n e).mains = s.mains := by
  obtain ⟨_, _, _, _, _, h⟩ := s.raiseLimited_changes n e; rw [h]
@[simp] theorem State.raiseLimited_frame (n : Nat) (e : Event) : (s.raiseLimited n e).frame = s.frame := by
  obtain ⟨_, _, _, _, _, h⟩ := s.raiseLimited_changes n e; rw [h]
@[simp] theorem State.raiseLimited_loadMap (n : Nat) (e : Event) : (s.raiseLimited n e).loadMap = s.loadMap := by
  obtain ⟨_, _, _, _, _, h⟩ := s.raiseLimited_changes n e; rw [h]
@[simp] theorem State.raiseLimited_moves (n : Nat) (e : Event) : (s.raiseLimited n e).moves = s.moves := by
  obtain ⟨_, _, _, _, _, h⟩ := s.raiseLimited_changes n e; rw [h]
@[simp] theorem State.raiseLimited_strings (n : Nat) (e : Event) : (s.raiseLimited n e).strings = s.strings := by
  obtain ⟨_, _, _, _, _, h⟩ := s.raiseLimited_changes n e; rw [h]
@[simp] theorem State.raiseLimited_runSavedAt (n : Nat) (e : Event) : (s.raiseLimited n e).runSavedAt = s.runSavedAt := by
  obtain ⟨_, _, _, _, _, h⟩ := s.raiseLimited_changes n e; rw [h]
@[simp] theorem State.raiseLimited_tables (n : Nat) (e : Event) : (s.raiseLimited n e).tables = s.tables := by
  obtain ⟨_, _, _, _, _, h⟩ := s.raiseLimited_changes n e; rw [h]
@[simp] theorem State.raiseLimited_tableClass (n : Nat) (e : Event) : (s.raiseLimited n e).tableClass = s.tableClass := by
  obtain ⟨_, _, _, _, _, h⟩ := s.raiseLimited_changes n e; rw [h]
@[simp] theorem State.raiseLimited_auth (n : Nat) (e : Event) : (s.raiseLimited n e).auth = s.auth := by
  obtain ⟨_, _, _, _, _, h⟩ := s.raiseLimited_changes n e; rw [h]
@[simp] theorem State.raiseLimited_temps (n : Nat) (e : Event) : (s.raiseLimited n e).temps = s.temps := by
  obtain ⟨_, _, _, _, _, h⟩ := s.raiseLimited_changes n e; rw [h]
@[simp] theorem State.raiseLimited_sinks (n : Nat) (e : Event) : (s.raiseLimited n e).sinks = s.sinks := by
  obtain ⟨_, _, _, _, _, h⟩ := s.raiseLimited_changes n e; rw [h]
@[simp] theorem State.raiseLimited_drivers (n : Nat) (e : Event) : (s.raiseLimited n e).drivers = s.drivers := by
  obtain ⟨_, _, _, _, _, h⟩ := s.raiseLimited_changes n e; rw [h]
@[simp] theorem State.raiseLimited_dies (n : Nat) (e : Event) : (s.raiseLimited n e).dies = s.dies := by
  obtain ⟨_, _, _, _, _, h⟩ := s.raiseLimited_changes n e; rw [h]
@[simp] theorem State.raiseLimited_progSlots (n : Nat) (e : Event) : (s.raiseLimited n e).progSlots = s.progSlots := by
  obtain ⟨_, _, _, _, _, h⟩ := s.raiseLimited_changes n e; rw [h]
@[simp] theorem State.raiseLimited_deferred (n : Nat) (e : Event) : (s.raiseLimited n e).deferred = s.deferred := by
  obtain ⟨_, _, _, _, _, h⟩ := s.raiseLimited_changes n e; rw [h]
@[simp] theorem State.raiseLimited_mainsPart (n : Nat) (e : Event) : (s.raiseLimited n e).mainsPart = s.mainsPart := by
  obtain ⟨_, _, _, _, _, h⟩ := s.raiseLimited_changes n e; rw [h]
@[simp] theorem State.raiseLimited_feedPart (n : Nat) (e : Event) : (s.raiseLimited n e).feedPart = s.feedPart := by
  obtain ⟨_, _, _, _, _, h⟩ := s.raiseLimited_changes n e; rw [h]
@[simp] theorem State.raiseLimited_noPart (n : Nat) (e : Event) : (s.raiseLimited n e).noPart = s.noPart := by
  obtain ⟨_, _, _, _, _, h⟩ := s.raiseLimited_changes n e; rw [h]
@[simp] theorem State.raiseLimited_watch (n : Nat) (e : Event) : (s.raiseLimited n e).watch = s.watch := by
  obtain ⟨_, _, _, _, _, h⟩ := s.raiseLimited_changes n e; rw [h]
@[simp] theorem State.raiseLimited_tele (n : Nat) (e : Event) : (s.raiseLimited n e).tele = s.tele := by
  obtain ⟨_, _, _, _, _, h⟩ := s.raiseLimited_changes n e; rw [h]
@[simp] theorem State.raiseLimited_teleEnd (n : Nat) (e : Event) : (s.raiseLimited n e).teleEnd = s.teleEnd := by
  obtain ⟨_, _, _, _, _, h⟩ := s.raiseLimited_changes n e; rw [h]
@[simp] theorem State.raiseLimited_shorted (n : Nat) (e : Event) : (s.raiseLimited n e).shorted = s.shorted := by
  obtain ⟨_, _, _, _, _, h⟩ := s.raiseLimited_changes n e; rw [h]
@[simp] theorem State.raiseLimited_captures (n : Nat) (e : Event) : (s.raiseLimited n e).captures = s.captures := by
  obtain ⟨_, _, _, _, _, h⟩ := s.raiseLimited_changes n e; rw [h]
@[simp] theorem State.raiseLimited_journal (n : Nat) (e : Event) : (s.raiseLimited n e).journal = s.journal := by
  obtain ⟨_, _, _, _, _, h⟩ := s.raiseLimited_changes n e; rw [h]
@[simp] theorem State.raiseLimited_storage (n : Nat) (e : Event) : (s.raiseLimited n e).storage = s.storage := by
  obtain ⟨_, _, _, _, _, h⟩ := s.raiseLimited_changes n e; rw [h]
@[simp] theorem State.raiseLimited_always (n : Nat) (e : Event) : (s.raiseLimited n e).always = s.always := by
  obtain ⟨_, _, _, _, _, h⟩ := s.raiseLimited_changes n e; rw [h]
@[simp] theorem State.raiseLimited_run (n : Nat) (e : Event) : (s.raiseLimited n e).run = s.run := by
  obtain ⟨_, _, _, _, _, h⟩ := s.raiseLimited_changes n e; rw [h]
@[simp] theorem State.raiseLimited_ring (n : Nat) (e : Event) : (s.raiseLimited n e).ring = s.ring := by
  obtain ⟨_, _, _, _, _, h⟩ := s.raiseLimited_changes n e; rw [h]
@[simp] theorem State.raiseLimited_access (n : Nat) (e : Event) : (s.raiseLimited n e).access = s.access := by
  obtain ⟨_, _, _, _, _, h⟩ := s.raiseLimited_changes n e; rw [h]
@[simp] theorem State.raiseLimited_twinState (n : Nat) (e : Event) : (s.raiseLimited n e).twinState = s.twinState := by
  obtain ⟨_, _, _, _, _, h⟩ := s.raiseLimited_changes n e; rw [h]
@[simp] theorem State.raiseLimited_inReset (n : Nat) (e : Event) : (s.raiseLimited n e).inReset = s.inReset := by
  obtain ⟨_, _, _, _, _, h⟩ := s.raiseLimited_changes n e; rw [h]
@[simp] theorem State.raiseLimited_seqFloor (n : Nat) (e : Event) : (s.raiseLimited n e).seqFloor = s.seqFloor := by
  obtain ⟨_, _, _, _, _, h⟩ := s.raiseLimited_changes n e; rw [h]
@[simp] theorem State.raiseLimited_chipSeq (n : Nat) (e : Event) : (s.raiseLimited n e).chipSeq = s.chipSeq := by
  obtain ⟨_, _, _, _, _, h⟩ := s.raiseLimited_changes n e; rw [h]
@[simp] theorem State.raiseLimited_regionSeq (n : Nat) (e : Event) : (s.raiseLimited n e).regionSeq = s.regionSeq := by
  obtain ⟨_, _, _, _, _, h⟩ := s.raiseLimited_changes n e; rw [h]

/-! ### Elements -/

@[simp] theorem State.cell_raise (e : Event) (n : Nat) : (s.raise e).cell n = s.cell n := by simp [State.cell]
@[simp] theorem State.cell_raiseLimited (k : Nat) (e : Event) (n : Nat) : (s.raiseLimited k e).cell n = s.cell n := by simp [State.cell]
@[simp] theorem State.ctx_raise (e : Event) (n : Nat) : (s.raise e).ctx n = s.ctx n := by simp [State.ctx]
@[simp] theorem State.ctx_raiseLimited (k : Nat) (e : Event) (n : Nat) : (s.raiseLimited k e).ctx n = s.ctx n := by simp [State.ctx]
@[simp] theorem State.group_raise (e : Event) (n : Nat) : (s.raise e).group n = s.group n := by simp [State.group]
@[simp] theorem State.group_raiseLimited (k : Nat) (e : Event) (n : Nat) : (s.raiseLimited k e).group n = s.group n := by simp [State.group]
@[simp] theorem State.feed_raise (e : Event) (n : Nat) : (s.raise e).feed n = s.feed n := by simp [State.feed]
@[simp] theorem State.feed_raiseLimited (k : Nat) (e : Event) (n : Nat) : (s.raiseLimited k e).feed n = s.feed n := by simp [State.feed]
@[simp] theorem State.seq_raise (e : Event) (n : Nat) : (s.raise e).seq n = s.seq n := by simp [State.seq]
@[simp] theorem State.seq_raiseLimited (k : Nat) (e : Event) (n : Nat) : (s.raiseLimited k e).seq n = s.seq n := by simp [State.seq]
@[simp] theorem State.str_raise (e : Event) (n : Nat) : (s.raise e).str n = s.str n := by simp [State.str]
@[simp] theorem State.str_raiseLimited (k : Nat) (e : Event) (n : Nat) : (s.raiseLimited k e).str n = s.str n := by simp [State.str]
@[simp] theorem State.capture_raise (e : Event) (n : Nat) : (s.raise e).capture n = s.capture n := by simp [State.capture]
@[simp] theorem State.capture_raiseLimited (k : Nat) (e : Event) (n : Nat) : (s.raiseLimited k e).capture n = s.capture n := by simp [State.capture]
@[simp] theorem State.progSlot_raise (e : Event) (n : Nat) : (s.raise e).progSlot n = s.progSlot n := by simp [State.progSlot]
@[simp] theorem State.progSlot_raiseLimited (k : Nat) (e : Event) (n : Nat) : (s.raiseLimited k e).progSlot n = s.progSlot n := by simp [State.progSlot]
@[simp] theorem State.authRec_raise (e : Event) (n : Nat) : (s.raise e).authRec n = s.authRec n := by simp [State.authRec]
@[simp] theorem State.authRec_raiseLimited (k : Nat) (e : Event) (n : Nat) : (s.raiseLimited k e).authRec n = s.authRec n := by simp [State.authRec]

/-! ### A new event -/

/-- An event that is no suppressed repeat enters the arbiter input of its source, when that has room. -/
theorem State.raise_waits (e : Event) (h : s.repeats e = false) (hroom : (s.input (inputOf e.code e.inst)).items.length < 32) :
    ((s.raise e).input (inputOf e.code e.inst)).items =
      (s.input (inputOf e.code e.inst)).items ++ [⟨s.now, .event { e with time := s.now, owners := e.faultOwners, stateCode := s.stateWord e }⟩] := by
  have hi : ∀ l : List Elem, ∀ u : State, (l.foldl (fun s o => s.markFault e.code e.raisedAs o) u).inputs = u.inputs := by
    intro l u
    obtain ⟨f, hf⟩ := u.markFaults_changes e.code e.raisedAs l
    rw [hf]
  obtain ⟨m, hm⟩ := s.noteLocal_changes e
  have hn : ((s.noteLocal e).inputs) = s.inputs := by rw [hm]
  have ht : ((s.noteLocal e).now) = s.now := by rw [hm]
  have hnow : ∀ l : List Elem, ∀ u : State, (l.foldl (fun s o => s.markFault e.code e.raisedAs o) u).now = u.now := by
    intro l u
    obtain ⟨f, hf⟩ := u.markFaults_changes e.code e.raisedAs l
    rw [hf]
  have room : ¬ 32 ≤ (s.input (inputOf e.code e.inst)).items.length := by omega
  simp only [State.raise, h, State.offer, State.input, hi, hn, hnow, ht] at *
  simp [room, State.setInput]

end Sys2Proof.Machine
end

