-- ==== Sys2Proof/Laws/Run.lean ====
section
/-! SUPPORT. What the shared ways into a command can do: time, reset, recovery mode, and the judgement of a dictionary
command's source. -/

namespace Sys2Proof.Machine

variable (s : State)

/-- A command on a chip that is not in reset and not in recovery mode has its effect. -/
theorem State.live_awake (t : Tick) (f : State → State) (h : s.awake) :
    s.live t f = .next ((s.advance t).keep (f (s.advance t))) := by
  obtain ⟨h1, h2⟩ := h
  simp [State.live, State.wired, h1, h2]

theorem State.boot_awake (t : Tick) (src : Nat) (f : State → State) (h : s.awake) :
    s.boot t src f = .next ((s.advance t).keep (f (s.advance t))) := by
  obtain ⟨h1, h2⟩ := h
  simp [State.boot, State.wired, h1, h2]

/-- A command on a chip in reset lets the time pass and does nothing else (R449). -/
theorem State.live_inReset (t : Tick) (f : State → State) (h : s.inReset = true) : s.live t f = .next (s.advance t) := by
  simp [State.live, h]

theorem State.boot_inReset (t : Tick) (src : Nat) (f : State → State) (h : s.inReset = true) :
    s.boot t src f = .next (s.advance t) := by
  simp [State.boot, h]

/-- In recovery mode too, unless the command comes from the maintenance port (R432). -/
theorem State.live_recovery (t : Tick) (f : State → State) (h : s.run.recovery = true) : s.live t f = .next (s.advance t) := by
  simp [State.live, h]

/-- Every way into a command answers a next state, with the queue as it was and the time never behind. -/
theorem State.wired_next (t : Tick) (f : State → State) :
    ∃ u, s.wired t f = .next u ∧ u.pending = s.pending ∧ u.now = max s.now t :=
  ⟨_, rfl, rfl, rfl⟩

theorem State.live_next (t : Tick) (f : State → State) :
    ∃ u, s.live t f = .next u ∧ u.pending = s.pending ∧ u.now = max s.now t := by
  unfold State.live
  split
  · exact ⟨_, rfl, rfl, rfl⟩
  · exact s.wired_next t f

theorem State.boot_next (t : Tick) (src : Nat) (f : State → State) :
    ∃ u, s.boot t src f = .next u ∧ u.pending = s.pending ∧ u.now = max s.now t := by
  unfold State.boot
  split
  · exact ⟨_, rfl, rfl, rfl⟩
  · exact s.wired_next t f

/-! ### Dictionary commands -/

/-- The authority of a source does not depend on when it last sent a request. -/
@[simp] theorem State.authorityOf_noteRequest (src other : Nat) : (s.noteRequest src).authorityOf other = s.authorityOf other := by
  unfold State.noteRequest
  split
  · rfl
  · have hr : (((s.setAuth src { s.authRec src with lastRequest := s.now }).authRec other).raised) = (s.authRec other).raised := by
      by_cases h : other = src
      · subst h; simp
      · rw [State.authRec, State.setAuth_auth, bget_bset_ne _ _ _ h]; rfl
    unfold State.authorityOf
    rw [hr]
    rfl

@[simp] theorem State.standby_noteRequest (src : Nat) : (s.noteRequest src).standby = s.standby := by
  unfold State.noteRequest
  split <;> rfl

/-- A request that is noted leaves what the chip arbiter would accept. -/
@[simp] theorem State.chipTakes_received (src : Nat) (n : Fin 15) : (s.received src).chipTakes n = s.chipTakes n := by
  unfold State.received State.noteRequest
  split
  · rfl
  · split <;> rfl

@[simp] theorem State.authorityOf_admitted (src other : Nat) : (s.admitted src).authorityOf other = s.authorityOf other := by
  have h : (s.received src).authorityOf other = s.authorityOf other := by
    unfold State.received
    split
    · rfl
    · exact s.authorityOf_noteRequest src other
  rw [← h]
  rfl

@[simp] theorem State.standby_admitted (src : Nat) : (s.admitted src).standby = s.standby := by
  unfold State.admitted State.received State.noteRequest
  split
  · rfl
  · split <;> rfl

/-- A command that the chip arbiter accepts in its SYS cycle acts on the state in which it is accepted (R45, R474). -/
theorem State.place_taken (n : Fin 15) (c : Cmd) (f : State → State) (h : s.chipTakes n = true) :
    s.place n c f = { f { s.markAccept 3 0 with accepting := true } with accepting := s.accepting } := by
  simp [State.place, h]

/-- A command that something goes before waits at its input, and changes nothing else. -/
theorem State.place_waits (n : Fin 15) (c : Cmd) (f : State → State) (h : s.chipTakes n = false) :
    s.place n c f = s.setInput (.chip n)
      { s.input (.chip n) with items := (s.input (.chip n)).items ++ [⟨s.now - 3 * cycleTicks, .command c⟩] } := by
  simp [State.place, h]

/-- A source that the chip does not hear changes nothing (R123). -/
theorem State.dict_unheard (c : Instr) (src need : Nat) (own : Bool) (f : State → State) (h : s.hears src = false) :
    s.dict c src need own f = s := by
  simp [State.dict, h]

/-- A dictionary command that reaches the server is judged on the state in which it is admitted. -/
theorem State.dict_reaches (c : Instr) (src need : Nat) (own : Bool) (f : State → State) (h : s.reaches src) :
    s.dict c src need own f =
      { (s.admitted src).judge src need own f with accepting := s.accepting } := by
  obtain ⟨h1, h2⟩ := h
  have h3 : (s.received src).accepting = s.accepting := by
    unfold State.received State.noteRequest
    split
    · rfl
    · split <;> rfl
  rw [State.dict, if_pos h1, State.place_taken _ _ _ _ (by simpa using h2), h3]
  rfl

/-- A command of a source that may give it has its effect on a state with the request noted and the result at 0. -/
theorem State.dict_accepted (c : Instr) (src need : Nat) (own : Bool) (f : State → State) (h : s.accepts src need own) :
    s.keep (s.dict c src need own f) = s.keep (f (s.noted src)) := by
  obtain ⟨h0, h1, h2⟩ := h
  have h3 : ¬ (s.authorityOf src < need) := by omega
  have h4 : (s.admitted src).judge src need own f = f (s.noted src) := by
    rcases h1 with h1 | h1 <;> simp [State.judge, State.noted, h1, h3]
  rw [State.dict_reaches _ _ _ _ _ _ h0, h4]
  rfl

/-- A source without the authority is refused with 0x30 (R378, R380). -/
theorem State.dict_refused (c : Instr) (src need : Nat) (own : Bool) (f : State → State) (h0 : s.reaches src)
    (h1 : s.standby = false ∨ own = true) (h2 : s.authorityOf src < need) :
    s.keep (s.dict c src need own f) = s.keep ((s.admitted src).refuseAuthority src) := by
  have h4 : (s.admitted src).judge src need own f = (s.admitted src).refuseAuthority src := by
    rcases h1 with h1 | h1 <;> simp [State.judge, h1, h2]
  rw [State.dict_reaches _ _ _ _ _ _ h0, h4]
  rfl

/-- A standby refuses with 0x31 (R337). -/
theorem State.dict_standby (c : Instr) (src need : Nat) (f : State → State) (h0 : s.reaches src) (h : s.standby = true)
    (hs : src < 256) : s.keep (s.dict c src need false f) = s.keep ((s.admitted src).result 0x31) := by
  have h4 : (s.admitted src).judge src need false f = (s.admitted src).result 0x31 := by
    simp [State.judge, h, hs]
  rw [State.dict_reaches _ _ _ _ _ _ h0, h4]
  rfl

/-- A reset command with the right key that nothing refuses has its effect and answers 0. -/
theorem State.keyed_right (f : State → State) : s.keyed resetKey false f = (f s).result 0 := by
  simp [State.keyed]

/-- A wrong key, and a refusal, answer 0x23 and change nothing (R46). -/
theorem State.keyed_wrong (key : Nat) (refused : Bool) (f : State → State) (h : key ≠ resetKey) :
    s.keyed key refused f = s.result 0x23 := by
  simp [State.keyed, h]

end Sys2Proof.Machine
end

