-- ==== Sys2Proof/Laws/Arbiters.lean ====
section
/-! SUPPORT. What an acceptance of an arbiter can do: nothing, or the winning item leaves its input and goes on. -/

namespace Sys2Proof.Machine

/-- An arbiter that has accepted nothing in this SYS cycle takes the item that wins and hands it on (R35 to R37). -/
theorem State.arbitrate_wins (s : State) (level num : Nat) (inputs : List ArbInput) (commandsOnly : Bool)
    (f : State → Payload → State) (i : ArbInput) (n : Nat) (x : Item) (h : s.wins level num inputs commandsOnly i n x) :
    s.arbitrate level num inputs commandsOnly f = f (s.taken level num i n) x.payload := by
  obtain ⟨h1, h0, h2⟩ := h
  have hf : s.arbiterFree level num = true := by
    unfold State.arbiterFree
    cases ha : bget none (s.acceptAt.map fun p => (p.1, some p.2)) (level, num) with
    | none => rfl
    | some a => simpa using h1 a (by rw [ha]; rfl)
  unfold State.arbitrate
  rw [hf, h0, h2]
  rfl

/-- An arbiter accepts at most one item in a SYS cycle. -/
theorem State.arbitrate_once (s : State) (level num : Nat) (inputs : List ArbInput) (commandsOnly : Bool)
    (f : State → Payload → State) (a : Tick) (ha : bget none (s.acceptAt.map fun p => (p.1, some p.2)) (level, num) = some a)
    (h : s.now / cycleTicks ≤ a / cycleTicks) : s.arbitrate level num inputs commandsOnly f = s := by
  have hf : s.arbiterFree level num = false := by
    unfold State.arbiterFree
    rw [ha]
    simpa using h
  unfold State.arbitrate
  rw [hf]
  rfl

end Sys2Proof.Machine
end

