-- ==== Sys2Proof/Laws/Cycle.lean ====
section
/-! SUPPORT. What the shared operations that order the commands of one SYS cycle can do: the group commands, the trips of a
feed channel, and the choice of an engine slot. -/

namespace Sys2Proof.Machine

variable (s : State)

/-- A command for a group that has accepted none in this SYS cycle acts at once (R34). -/
theorem State.groupAccept_free (g rank : Nat) (start : Bool) (f : State → State) (h : s.groupFree g = true) :
    s.groupAccept g rank start f = f (s.ranked g rank) := by
  simp [State.groupAccept, h, State.ranked]

/-- A command other than a start that meets a stop for a fault in its SYS cycle is discarded (Table 02-3). -/
theorem State.groupAccept_stopped (g rank : Nat) (f : State → State) (hr : rank ≠ 1)
    (h : (s.group g).cmdAt = some (s.now / cycleTicks, 1)) (hf : s.groupFree g = false) :
    s.groupAccept g rank false f = s := by
  simp [State.groupAccept, hf, h, hr]

/-- All that a command for a group can do: act at once, act in a later SYS cycle, or be discarded. -/
theorem State.groupAccept_cases (g rank : Nat) (start : Bool) (f : State → State) :
    s.groupAccept g rank start f = f (s.ranked g rank) ∨ s.groupAccept g rank start f = s ∨
      ∃ c : Nat, s.groupAccept g rank start f =
        { f { s.markCommand g (c + 1) rank with now := (c + 1) * cycleTicks } with now := s.now } := by
  unfold State.groupAccept State.ranked
  dsimp only
  split
  · exact .inl rfl
  · split
    · split
      · exact .inr (.inl rfl)
      · split
        · exact .inl rfl
        · exact .inr (.inr ⟨_, rfl⟩)
    · exact .inr (.inl rfl)

/-- A trip of a channel that has met no command in this SYS cycle acts on it as it stands. -/
theorem State.tripFirst_unmarked (f : Nat) (trip : State → State) (h : s.unmarked f) : s.tripFirst f trip = trip s := by
  unfold State.tripFirst
  split
  · next m hm => rw [if_neg (h m hm)]
  · rfl

/-- All that a trip of a channel can do: act on it as it stands, or on the channel of before the command of this SYS cycle, with
the command judged after it (R212). -/
theorem State.tripFirst_cases (f : Nat) (trip : State → State) :
    s.tripFirst f trip = trip s ∨ ∃ m : FeedMark, bget none s.feedMarks f = some m ∧ m.time / cycleTicks = s.now / cycleTicks ∧
      s.tripFirst f trip =
        State.judgeCommand { trip (s.setFeed f (m.restored (s.feed f))) with
          feedMarks := bset (trip (s.setFeed f (m.restored (s.feed f)))).feedMarks f none } f m.on := by
  unfold State.tripFirst
  split
  · next m hm =>
    split
    · next ht =>
      dsimp only
      split
      · exact .inl rfl
      · exact .inr ⟨m, hm, ht, rfl⟩
    · exact .inl rfl
  · exact .inl rfl

/-- A change that takes part in no slot's choice only acts (R105). -/
theorem State.rechoose_none (b : Nat) (f : State → State) (h : s.slotNow b = none) : s.rechoose b f = f s := by
  simp [State.rechoose, h]

/-- A change in the SYS cycle in which a slot started acts on the state before the choice, which is made again (R105, R109). -/
theorem State.rechoose_some (b : Nat) (f : State → State) (x : Slot) (h : s.slotNow b = some x) :
    s.rechoose b f = (f (s.giveBack b)).startSlot b := by
  simp [State.rechoose, h]

end Sys2Proof.Machine
end

