-- ==== Sys2Proof/Laws/Dictionary.lean ====
section
/-! SUPPORT. Which values of the dictionary a write or an event leaves alone. The default of some objects follows the roles
(0x6000 to 0x6003) and the straps (0x2011); every other object changes at its own address alone. -/

namespace Sys2Proof.Machine

variable (s : State)

/-- The value of an object depends on the stored objects alone. -/
theorem State.cfg_of_obj {s u : State} (h : s.obj = u.obj) (i n m : Nat) : s.cfg i n m = u.cfg i n m := by
  unfold State.cfg State.stored State.dflt State.windowMinDefault State.windowMaxDefault State.roleOf State.chemClass State.busMin
    State.busMax State.feedCeiling
  rw [h]

/-- A write outside the roles and the straps leaves every default. -/
theorem State.dflt_put (i u n : Nat) (v : Int) (h1 : i ≠ 0x2011) (h2 : i < 0x6000 ∨ 0x6004 ≤ i) (a b c : Nat) :
    (s.put i u n v).dflt a b c = s.dflt a b c := by
  have hs : ∀ k, bget 0 (s.put i u n v).obj ⟨0x2011, k, 0⟩ = bget 0 s.obj ⟨0x2011, k, 0⟩ := fun k =>
    bget_bset_ne _ _ _ (by intro h; injection h with h; omega)
  have hr : ∀ j k, j < 4 → (s.put i u n v).roleOf j k = s.roleOf j k := fun j k hj => by
    unfold State.roleOf
    rw [State.put_obj, bget_bset_ne _ _ _ (by intro h; injection h with h; omega)]
  have hc : (s.put i u n v).chemClass = s.chemClass := by unfold State.chemClass; rw [hs]
  have hl : ∀ r, (s.put i u n v).windowMinDefault r = s.windowMinDefault r := fun r => by
    unfold State.windowMinDefault State.busMin; rw [hs]
  have hh : ∀ r, (s.put i u n v).windowMaxDefault r = s.windowMaxDefault r := fun r => by
    unfold State.windowMaxDefault State.busMax State.feedCeiling; rw [hs, hs]
  unfold State.dflt
  refine ite_congr rfl (fun h => by rw [hr _ _ (by omega), hl]) fun _ => ?_
  refine ite_congr rfl (fun h => by rw [hr _ _ (by omega), hh]) fun _ => ?_
  refine ite_congr rfl (fun h => by rw [hr _ _ (by omega)]) fun _ => ?_
  rw [hc]

/-- A write outside the roles and the straps changes the object it names and no other. -/
theorem State.cfg_put_ne (i u n : Nat) (v : Int) (h1 : i ≠ 0x2011) (h2 : i < 0x6000 ∨ 0x6004 ≤ i) {a b c : Nat}
    (h : (a, b, c) ≠ (i, u, n)) : (s.put i u n v).cfg a b c = s.cfg a b c := by
  unfold State.cfg
  rw [State.stored_put_ne _ _ _ _ _ (by intro e; apply h; injection e with e1 e2 e3; rw [e1, e2, e3]), State.dflt_put _ _ _ _ _ h1 h2]

/-- Raising an event changes the count of suppressed repeats and no other object (R317). -/
theorem State.raise_obj (e : Event) : (s.raise e).obj = s.obj ∨ (s.raise e).obj = (s.bump 0x8006 1 0).obj := by
  unfold State.raise
  split
  · exact Or.inr rfl
  · left
    obtain ⟨l, h⟩ := s.noteLocal_changes e
    obtain ⟨f, hf⟩ := (s.noteLocal e).markFaults_changes e.code e.raisedAs e.faultOwners
    simp only
    rw [hf, h]
    obtain ⟨q, hq⟩ := State.offer_changes { { s with twin := { s.twin with ownFaults := l } } with faults := f }
      (inputOf e.code e.inst) (.event { e with time := s.now, owners := e.faultOwners, stateCode := s.stateWord e })
    rw [hq]

theorem State.raise_cfg (e : Event) {a b c : Nat} (h : a ≠ 0x8006) : (s.raise e).cfg a b c = s.cfg a b c := by
  rcases s.raise_obj e with h1 | h1
  · exact State.cfg_of_obj h1 _ _ _
  · rw [State.cfg_of_obj h1]
    exact s.cfg_put_ne _ _ _ _ (by omega) (by omega) (by intro e; injection e with e1; exact h e1)

theorem State.raise_nat (e : Event) {a b c : Nat} (h : a ≠ 0x8006) : (s.raise e).nat a b c = s.nat a b c := by
  unfold State.nat
  rw [s.raise_cfg e h]

theorem State.raiseLimited_cfg (key : Nat) (e : Event) {a b c : Nat} (h : a ≠ 0x8006) :
    (s.raiseLimited key e).cfg a b c = s.cfg a b c := by
  unfold State.raiseLimited
  split
  · split
    · rfl
    · rw [State.raise_cfg _ e h]; exact State.cfg_of_obj rfl _ _ _
  · rw [State.raise_cfg _ e h]; exact State.cfg_of_obj rfl _ _ _

theorem State.raiseLimited_nat (key : Nat) (e : Event) {a b c : Nat} (h : a ≠ 0x8006) :
    (s.raiseLimited key e).nat a b c = s.nat a b c := by
  unfold State.nat
  rw [s.raiseLimited_cfg key e h]

end Sys2Proof.Machine
end

