-- ==== Sys2Proof/Tests/Slice0.lean ====
section
/-! SUPPORT. The package's own tests: ill-formed commands that the check refuses, values that the spec's own text gives, and a
state that meets the hypotheses of every statement. -/

open Sys2Proof Sys2Proof.Machine

/-! ### Ill-formed commands (one for each check of `Instr.wf`) -/

theorem test_wf_registerWrite : (Instr.registerWrite 0 0 0x5010 2 0 256000 4).wf = true ∧
    (Instr.registerWrite 0 0 0x10000 2 0 0 4).wf = false ∧ (Instr.registerWrite 0 0 0x5010 256 0 0 4).wf = false ∧
    (Instr.registerWrite 0 0 0x5010 2 0x100000000 0 4).wf = false ∧ (Instr.registerWrite 0 0 0x5010 2 0 0 0x10000).wf = false := by
  decide
theorem test_wf_cellPeriodStart : (Instr.cellPeriodStart 0 ⟨0, [.acs 0 2047, .tck]⟩).wf = true ∧
    (Instr.cellPeriodStart 0 ⟨0, [.acs 0 2048]⟩).wf = false ∧ (Instr.cellPeriodStart 0 ⟨0, [.acs 0 (-2049)]⟩).wf = false ∧
    (Instr.cellPeriodStart 0 ⟨0, [.cellAdc 0 4096]⟩).wf = false ∧ (Instr.cellPeriodStart 0 ⟨0, [.tin 0 (.ntc 1000001)]⟩).wf = false := by
  decide
theorem test_wf_turnStart : (Instr.turnStart 0 [.volt 0 16383]).wf = true ∧ (Instr.turnStart 0 [.volt 0 16384]).wf = false ∧
    (Instr.turnStart 0 [.gsns 0 4096]).wf = false ∧ (Instr.turnStart 0 [.vds 0 4096]).wf = false ∧
    (Instr.turnStart 0 [.isns 0 4096]).wf = false := by decide
theorem test_wf_driveRightTaken : (Instr.driveRightTaken 0 [.volt 0 16384]).wf = false := by decide
theorem test_wf_twinSampleReceive : (Instr.twinSampleReceive 0 (.volt 0 16384) (.volt 0 0)).wf = false ∧
    (Instr.twinSampleReceive 0 (.volt 0 0) (.volt 0 16384)).wf = false := by decide
theorem test_wf_thermalModelUpdate : (Instr.thermalModelUpdate 0 0 4096 0 0).wf = false ∧
    (Instr.thermalModelUpdate 0 0 0 4096 0).wf = false ∧ (Instr.thermalModelUpdate 0 0 0 0 4096).wf = false := by decide
theorem test_wf_shortCircuitTrip : (Instr.shortCircuitTrip 0 0 4096).wf = false := by decide
theorem test_wf_currentLimitEngaged : (Instr.currentLimitEngaged 0 0 4096).wf = false := by decide
theorem test_wf_feedSenseOverRange : (Instr.feedSenseOverRange 0 0 true 4096).wf = false := by decide
theorem test_wf_estimatorSample : (Instr.estimatorSample 0 0 16384 ⟨0, 0⟩ 0).wf = false ∧
    (Instr.estimatorSample 0 0 0 ⟨16384, 0⟩ 0).wf = false ∧ (Instr.estimatorSample 0 0 0 ⟨0, 16384⟩ 0).wf = false ∧
    (Instr.estimatorSample 0 0 0 ⟨0, 0⟩ 16384).wf = false := by decide
theorem test_wf_temperatureSample : (Instr.temperatureSample 0 [(0, .ntc 1000001)]).wf = false := by decide
theorem test_wf_cyclicImageFrame : (Instr.cyclicImageFrame 0 0 [256]).wf = false := by decide
theorem test_wf_segmentFrame : (Instr.segmentFrame 0 0 0 0 [256]).wf = false := by decide
theorem test_wf_requestFrame : (Instr.requestFrame 0 0 0x10000 0 [] true []).wf = false ∧
    (Instr.requestFrame 0 0 0 256 [] true []).wf = false ∧
    (Instr.requestFrame 0 0 0 0 [] true [⟨true, 0x10000, 0, 0, 0, 0, []⟩]).wf = false := by decide
theorem test_wf_forwardedWriteApply : (Instr.forwardedWriteApply 0 0 [⟨true, 0, 0, 0, 0x10000, 0, []⟩] true).wf = false ∧
    (Instr.forwardedWriteApply 0 0 [⟨true, 0, 256, 0, 0, 0, []⟩] true).wf = false ∧
    (Instr.forwardedWriteApply 0 0 [⟨true, 0, 0, 0x100000000, 0, 0, []⟩] true).wf = false ∧
    (Instr.forwardedWriteApply 0 0 [⟨true, 0, 0, 0, 0, 0, [256]⟩] true).wf = false := by decide
theorem test_wf_chipStart :
    (Instr.chipStart 0 ⟨true, [], true, true, true, true, true, [], false, false, false, [.volt 0 16384]⟩).wf = false ∧
    (Instr.chipStart 0 ⟨true, [], true, true, true, true, true, [(131072, true)], false, false, false, []⟩).wf = false := by decide
theorem test_wf_restoreStored : (Instr.restoreStored 0 0 ⟨0, [(131072, true)]⟩).wf = false := by decide
theorem test_wf_compactionStep : (Instr.compactionStep ⟨0, [(131072, true)]⟩).wf = false := by decide
theorem test_wf_installComplete : (Instr.installComplete 0 [(131072, true)] true).wf = false := by decide
theorem test_wf_synchronisationComplete : (Instr.synchronisationComplete 0 0x1000000000000 ⟨[], {}⟩).wf = false ∧
    (Instr.synchronisationComplete 0 0 ⟨[⟨true, 0x10000, 0, 0, 0, 0, []⟩], {}⟩).wf = false := by decide
theorem test_wf_partnerEventReceive : (Instr.partnerEventReceive 0 []).wf = false ∧
    (Instr.partnerEventReceive 0 (256 :: List.replicate 63 0)).wf = false := by decide

/-! ### Values from the spec's own text -/

/-- No row of the opcode table gives bits, so no word spells a command. -/
theorem test_decode_none : decodeTableWord 16 0x1234 = none := rfl

/-- R52: a 100 kHz cell has a period of 256,000 steps, and the range is refused outside 12,800 to 1,280,000. -/
theorem test_period_default : State.reset.cfg 0x5010 2 0 = 256000 := by decide

/-- R61: the zero code is 2048 by default. -/
theorem test_zero_code : State.reset.cfg 0x5011 2 0 = 2048 := by decide

/-- R99: ties round towards positive infinity, and saturation takes the nearest end of the range. -/
theorem test_rounding : rnd23 128 = 1 ∧ rnd23 (-128) = 0 ∧ rnd23 127 = 0 ∧ rnd23 (-129) = -1 := by decide
theorem test_saturation : sat23 8388608 = (8388607, 1) ∧ sat23 (-8388609) = (-8388608, 1) ∧ sat23 5 = (5, 0) := by decide

/-- R38: after 0xFFFF_FFFF the chip issues 0x0000_0001. -/
theorem test_sequence_wraps : nextSeq 0xFFFFFFFF = 1 ∧ nextSeq 0 = 1 := by decide

/-- R75, R119, R132, R305: the pips that these rules name. -/
theorem test_pips : pipOf 0x1101 = 4 ∧ pipOf 0x1102 = 2 ∧ pipOf 0x2403 = 4 ∧ pipOf 0x4801 = 6 ∧ pipOf 0x470A = 1 := by decide

/-- R37: the ring controller enters the chip arbiter at the twelfth input in its order, the turn track at the tenth. -/
theorem test_inputs : inputOf 0x7101 0 = .chip 11 ∧ inputOf 0x4601 0 = .chip 9 ∧ inputOf 0x1101 9 = .block 1 1 := by decide

/-- R58: PWMB is high, so PWMA may not rise; 0 ns after its fall with a dead time of 1 step it may not either. -/
theorem test_dead_time : Cell.mayRise { levelB := true } .a 0 0 5 = false ∧
    Cell.mayRise { fallB := some 5 } .a 1 0 5 = false ∧ Cell.mayRise { fallB := some 5 } .a 1 0 6 = true := by decide

/-- R380: the maintenance port holds integrator authority, a ring source operator. -/
theorem test_authority : State.reset.authorityOf 0 = 2 ∧ State.reset.authorityOf 7 = 1 := by decide

/-- R416: the SRAM has 196,608 lines. -/
theorem test_sram_line : exec (.sramRepair 0 196608 ⟨.read, .good⟩) State.reset = .fault .noSuchSramLine := rfl

/-- The state after a command on a state of a test. -/
def Tests.after (s : State) (c : Instr) : State :=
  match exec c s with
  | .next u => u
  | _ => s

/-- R52: one step below the range is refused with 0x23, and the lowest period is held. -/
theorem test_period_write : (Tests.after State.reset (.registerWrite 0 0 0x5010 2 0 12799 4)).lastResult = 0x23 ∧
    (Tests.after State.reset (.registerWrite 0 0 0x5010 2 0 12800 4)).lastResult = 0 := by decide

/-- R380: a configuration object needs integrator authority; a ring source holds operator. -/
theorem test_write_refused : (Tests.after State.reset (.registerWrite 0 7 0x5010 2 0 12800 4)).lastResult = 0x30 := by decide

/-- R391, R392 (Table 15-7): no such index, sub-index, instance; a wrong length. -/
theorem test_write_codes : (Tests.after State.reset (.registerWrite 0 0 0x0001 1 0 0 4)).lastResult = 0x10 ∧
    (Tests.after State.reset (.registerWrite 0 0 0x5010 0x7F 0 0 4)).lastResult = 0x11 ∧
    (Tests.after State.reset (.registerWrite 0 0 0x5010 2 128 0 4)).lastResult = 0x12 ∧
    (Tests.after State.reset (.registerWrite 0 0 0x5010 2 0 12800 2)).lastResult = 0x13 := by decide

/-- R46: a reset command with a wrong value is refused with 0x23. -/
theorem test_reset_key : (Tests.after State.reset (.cellReset 0 0 0 0)).lastResult = 0x23 ∧
    (Tests.after State.reset (.cellReset 0 0 0 0x52534554)).lastResult = 0 := by decide

/-- R44: a cell reset ends the fault state of its cell. -/
theorem test_cell_reset : (Tests.after { State.reset with faults := [(.cell 3, { inFault := true })] }
    (.cellReset 9 0 3 0x52534554)).inFault (.cell 3) = false := by decide

/-- R381: while no key has been set, a log-in over the ring is refused with 0x23. -/
theorem test_login_without_key : (Tests.after State.reset (.integratorLogin 0 7 [1, 2, 3, 4, 5, 6, 7, 8])).lastResult = 0x23 := by
  decide

/-- R381: a wrong key is refused with 0x30. -/
theorem test_wrong_key : (Tests.after { State.reset with access := { key := some [1, 2, 3, 4, 5, 6, 7, 8] } }
    (.integratorLogin 0 7 [1, 2, 3, 4, 5, 6, 7, 9])).lastResult = 0x30 := by decide

/-- R205: the retry count grows by one at the end of a cool-down. -/
theorem test_retry : ((Tests.after { State.reset with feeds := [(0, { state := .cooldown, retries := 1 })] }
    (.cooldownEnd 2560000000000 0)).feed 0).retries = 2 := by decide

/-- R67: an interval ends at most once; its output falls at the trip. -/
theorem test_peak_trip :
    ((Tests.after { State.reset with cells := [(0, { state := .run, levelA := true, interval := true })] }
      (.peakComparatorTrip 1000000 0 1000000000000)).cell 0).levelA = false := by decide

/-- R449: a command on a chip in reset lets the time pass alone. -/
theorem test_in_reset : (Tests.after { State.reset with inReset := true } (.cellReset 9 0 3 0x52534554)).now = 9 ∧
    (Tests.after { State.reset with inReset := true } (.cellReset 9 0 3 0)).lastResult = 0 := by decide

/-! ### States that meet the hypotheses of the statements -/

/-- A store that finds no erased line in its area writes no part. -/
theorem test_noRoom : (Storage.writeParts { phase := 1, used := [], erased := [] }).parts = 0 := by
  have h : ∀ n, Storage.appendAll { phase := 1, used := [], erased := [] } ((List.range (n % 256 + 1)).map RecBody.part) = none := by
    intro n
    rw [List.range_succ_eq_map]
    rfl
  unfold Storage.writeParts
  rw [if_pos ⟨rfl, rfl⟩, SettingsSet.parts, h]

/-- A state that notes no command of a feed channel. -/
theorem Tests.unmarked (s : State) (f : Nat) (h : s.feedMarks = []) : s.unmarked f := by
  intro m hm
  rw [h] at hm
  cases hm

theorem test_hyp_ArbitersAccept :
    (∃ (s a : State) (t : Tick) (b : BlockId) (i : ArbInput) (n : Nat) (x : Item), s.awake ∧ a = s.advance t ∧ (a.wins 1 b
      (blockInputs b) false i n x)) ∧
    (∃ (s a : State) (t : Tick) (r : RegionId) (i : ArbInput) (n : Nat) (at? : Tick) (e : Event), s.awake ∧ a = s.advance t ∧
      (a.wins 2 r (regionInputs r) false i n ⟨at?, .event e⟩)) ∧
    (∃ (s a : State) (t : Tick) (r : RegionId) (i : ArbInput) (n : Nat) (at? : Tick) (c : Cmd), s.awake ∧ a = s.advance t ∧
      (a.wins 2 r (regionInputs r) false i n ⟨at?, .command c⟩)) ∧
    (∃ (s a : State) (t : Tick) (i : ArbInput) (n : Nat) (at? : Tick) (e : Event), s.awake ∧ a = s.advance t ∧ (a.wins 3 0
      chipInputs a.journalFull i n ⟨at?, .event e⟩)) ∧
    (∃ (s a : State) (t : Tick) (i : ArbInput) (n : Nat) (at? : Tick) (c : Cmd), s.awake ∧ a = s.advance t ∧ (a.wins 3 0
      chipInputs a.journalFull i n ⟨at?, .command c⟩)) ∧
    (∃ (s a : State) (t : Tick) (i : ArbInput), s.awake ∧ a = s.advance t ∧ (0 < (a.input i).discarded) ∧ ((a.input
      i).items.length < 32)) :=
  ⟨⟨{ State.reset with inputs := [(.block 0 0, { items := [⟨0, .event { code := 0x1205, inst := 0 }⟩] })] }, _, 640, 0, .block 0 0, 0, ⟨0, .event { code := 0x1205, inst := 0 }⟩, ⟨rfl, rfl⟩, rfl, ⟨by decide, by decide⟩⟩,
    ⟨{ State.reset with inputs := [(.region 0 0, { items := [⟨0, .event { code := 0x1205, inst := 0 }⟩] })] }, _, 640, 0, .region 0 0, 0, 0, { code := 0x1205, inst := 0 }, ⟨rfl, rfl⟩, rfl, ⟨by decide, by decide⟩⟩,
    ⟨{ State.reset with inputs := [(.region 0 0, { items := [⟨0, .command (.move 0 false)⟩] })] }, _, 640, 0, .region 0 0, 0, 0, .move 0 false, ⟨rfl, rfl⟩, rfl, ⟨by decide, by decide⟩⟩,
    ⟨{ State.reset with inputs := [(.chip 0, { items := [⟨0, .event { code := 0x1205, inst := 0 }⟩] })] }, _, 640, .chip 0, 0, 0, { code := 0x1205, inst := 0 }, ⟨rfl, rfl⟩, rfl, ⟨by decide, by decide⟩⟩,
    ⟨{ State.reset with inputs := [(.chip 0, { items := [⟨0, .command (.move 0 false)⟩] })] }, _, 640, .chip 0, 0, 0, .move 0 false, ⟨rfl, rfl⟩, rfl, ⟨by decide, by decide⟩⟩,
    ⟨{ State.reset with inputs := [(.chip 4, { discarded := 2, firstDiscarded := 0x5101 })] }, _, 0, .chip 4, ⟨rfl, rfl⟩, rfl, by decide, by decide⟩⟩

theorem test_hyp_ResetsActOnTheirElement :
    (∃ (s a b : State) (t : Tick) (src : NodeId) (c : CellId), s.awake ∧ a = s.advance t ∧ b = a.noted src ∧ (a.accepts src 1
      false) ∧ (b.inFault (.block (c / 8)) = false) ∧ (b.inFault (.region (c / 32)) = false) ∧ (b.inFault .chip = false)) ∧
    (∃ (s a b : State) (t : Tick) (src : NodeId) (k : BlockId), s.awake ∧ a = s.advance t ∧ b = a.noted src ∧ (a.accepts src 1
      false) ∧ (b.inFault (.region (k / 4)) = false) ∧ (b.inFault .chip = false) ∧ (((b.resetBlocks k).any fun i => decide
      (b.cfg 0x4030 1 i = 1)) = false)) ∧
    (∃ (s a b : State) (t : Tick) (src : NodeId) (r : RegionId), s.awake ∧ a = s.advance t ∧ b = a.noted src ∧ (a.accepts src
      2 false) ∧ (b.inFault .chip = false) ∧ (((List.range 4).map (4 * r.val + ·)).all b.blockAtRest = true)) ∧
    (∃ (s a b : State) (t : Tick) (src : NodeId) (r : RegionId), s.awake ∧ a = s.advance t ∧ b = a.noted src ∧ (a.accepts src
      2 false) ∧ (b.inFault .chip = false) ∧ (((List.range 4).map (4 * r.val + ·)).all b.blockAtRest = false)) ∧
    (∃ (s a b : State) (t : Tick) (src : NodeId), s.awake ∧ a = s.advance t ∧ b = a.noted src ∧ (a.accepts src 2 true) ∧
      (b.twinState = .active ∧ b.partnerInStep = true → False)) ∧
    (∃ (s a b : State) (t : Tick) (src : NodeId), s.awake ∧ a = s.advance t ∧ b = a.noted src ∧ (a.accepts src 2 true) ∧
      (b.twinState = .active) ∧ (b.partnerInStep = true) ∧ (b.twin.handover = none)) ∧
    (∃ (s a b : State) (t : Tick) (src : NodeId) (f : FeedId), s.awake ∧ a = s.advance t ∧ b = a.noted src ∧ (a.accepts src 1
      false) ∧ (b.selector.transfer = none)) ∧
    (∃ (s a b : State) (t : Tick) (src : NodeId) (n : StringId), s.awake ∧ a = s.advance t ∧ b = a.noted src ∧ (a.accepts src
      1 false)) ∧
    (∃ (s a b : State) (t : Tick) (src : NodeId) (svc : SvcId), s.awake ∧ a = s.advance t ∧ b = a.noted src ∧ (a.accepts src 1
      false) ∧ (b.inFault .chip = false)) ∧
    (∃ (s a b : State) (t : Tick) (src : NodeId), s.awake ∧ a = s.advance t ∧ b = a.noted src ∧ (a.accepts src 1 false) ∧
      (b.inFault .chip = false) ∧ ((b.fault (.service 2)).raised.contains (0x8101, 0) = true) ∧ (b.cfg 0x1200 3 0 ≠ 2)) :=
  ⟨⟨State.reset, _, _, 0, 0, 0, ⟨rfl, rfl⟩, rfl, rfl, ⟨⟨by decide, by decide⟩, Or.inl rfl, by decide⟩, by decide, by decide, by decide⟩,
    ⟨State.reset, _, _, 0, 0, 0, ⟨rfl, rfl⟩, rfl, rfl, ⟨⟨by decide, by decide⟩, Or.inl rfl, by decide⟩, by decide, by decide, by decide⟩,
    ⟨State.reset, _, _, 0, 0, 0, ⟨rfl, rfl⟩, rfl, rfl, ⟨⟨by decide, by decide⟩, Or.inl rfl, by decide⟩, by decide, by decide⟩,
    ⟨{ State.reset with cells := [(0, { state := .run })] }, _, _, 0, 0, 0, ⟨rfl, rfl⟩, rfl, rfl, ⟨⟨by decide, by decide⟩, Or.inl rfl, by decide⟩, by decide, by decide⟩,
    ⟨State.reset, _, _, 0, 0, ⟨rfl, rfl⟩, rfl, rfl, ⟨⟨by decide, by decide⟩, Or.inl rfl, by decide⟩, by decide⟩,
    ⟨{ State.reset with twinState := .active, obj := [(⟨0x1200, 2, 0⟩, 5), (⟨0x1200, 3, 0⟩, 2)] }, _, _, 0, 0, ⟨rfl, rfl⟩, rfl, rfl, ⟨⟨by decide, by decide⟩, Or.inl rfl, by decide⟩, by decide, by decide, by decide⟩,
    ⟨State.reset, _, _, 0, 0, 0, ⟨rfl, rfl⟩, rfl, rfl, ⟨⟨by decide, by decide⟩, Or.inl rfl, by decide⟩, by decide⟩,
    ⟨State.reset, _, _, 0, 0, 0, ⟨rfl, rfl⟩, rfl, rfl, ⟨⟨by decide, by decide⟩, Or.inl rfl, by decide⟩⟩,
    ⟨State.reset, _, _, 0, 0, 0, ⟨rfl, rfl⟩, rfl, rfl, ⟨⟨by decide, by decide⟩, Or.inl rfl, by decide⟩, by decide⟩,
    ⟨{ State.reset with faults := [(.service 2, { inFault := true, raised := [(0x8101, 0)] })] }, _, _, 0, 0, ⟨rfl, rfl⟩, rfl, rfl, ⟨⟨by decide, by decide⟩, Or.inl rfl, by decide⟩, by decide, by decide, by decide⟩⟩

theorem test_hyp_EngineCommandsComplete :
    (∃ (s a : State) (t : Tick) (k : CtxId) (c : Nat), s.awake ∧ a = s.advance t ∧ (c = 8 * a.ctxBase k + a.nat 0x6100 3 k) ∧
      ((a.ctx k).state = .run) ∧ ((a.ctx k).seen < (a.cell c).sampleAt) ∧ ((a.cell c).sampleAt + (if a.paired then nsTicks 130
      else nsTicks 50) ≤ a.now) ∧ (a.nat 0x6100 4 k ≤ (a.ctx k).periods + 1) ∧ (a.slotNow (k / 16) = none)) ∧
    (∃ (s a : State) (t : Tick) (k : CtxId) (c : Nat) (x : Slot) (u : State), s.awake ∧ a = s.advance t ∧ (c = 8 * a.ctxBase k
      + a.nat 0x6100 3 k) ∧ ((a.ctx k).state ≠ .disabled) ∧ ((a.ctx k).seen < (a.cell c).sampleAt) ∧ ((a.cell c).sampleAt +
      (if a.paired then nsTicks 130 else nsTicks 50) ≤ a.now) ∧ (a.nat 0x6100 4 k ≤ (a.ctx k).periods + 1) ∧ (a.slotNow (k /
      16) = some x) ∧ (u = a.giveBack (k / 16))) ∧
    (∃ (s a : State) (t : Tick) (k : CtxId) (c : Nat), s.awake ∧ a = s.advance t ∧ (c = 8 * a.ctxBase k + a.nat 0x6100 3 k) ∧
      ((a.ctx k).state ≠ .disabled) ∧ ((a.ctx k).seen < (a.cell c).sampleAt) ∧ ((a.cell c).sampleAt + (if a.paired then
      nsTicks 130 else nsTicks 50) ≤ a.now) ∧ ((a.ctx k).periods + 1 < a.nat 0x6100 4 k)) ∧
    (∃ (s a : State) (t : Tick) (e : BlockId) (k : Nat) (r : Ready), s.awake ∧ a = s.advance t ∧ (bget 0 a.engineBusy e.val ≤
      a.now) ∧ (a.chooseCtx (a.candidates e) = some (k, r))) ∧
    (∃ (s a : State) (t : Tick) (k : CtxId) (r : Ready), s.awake ∧ a = s.advance t ∧ ((a.ctx k).state = .run) ∧ ((a.ctx
      k).ready = some r) ∧ (a.deadline k r < a.now) ∧ (a.nat 0x6100 2 k ≠ 0) ∧ ((a.ctx k).skipRun + 1 ≠ a.nat 0x6100 0xB k)) ∧
    (∃ (s a : State) (t : Tick) (k : CtxId) (d : Delivery), s.awake ∧ a = s.advance t ∧ ((a.ctx k).delivery = some d) ∧ (d.due
      ≤ a.now)) ∧
    (∃ (s a : State) (t : Tick) (k : CtxId), s.awake ∧ a = s.advance t ∧ ((a.ctx k).state = .held) ∧ ((a.ctx k).overrun =
      false) ∧ (a.nat 0x6100 0xC k * usTicks ≤ a.holdTime k) ∧ ((a.now - (a.holdTime k - a.nat 0x6100 0xC k * usTicks)) /
      cycleTicks < a.now / cycleTicks)) :=
  ⟨⟨{ State.reset with ctxs := [(0, { state := .run })], cells := [(0, { sampleAt := 100 })] }, _, 100000, 0, 0, ⟨rfl, rfl⟩, rfl, by decide, by decide, by decide, by decide, by decide, by decide⟩,
    ⟨{ State.reset with ctxs := [(0, { state := .run })], cells := [(0, { sampleAt := 100 })], engineBusy := [(0, 100512)], engineSlot := [(0, ⟨100000, 0, {}, 0, 0, none⟩)] }, _, 100000, 0, 0, ⟨100000, 0, {}, 0, 0, none⟩, _, ⟨rfl, rfl⟩, rfl, by decide, by decide, by decide, by decide, by decide, by decide, rfl⟩,
    ⟨{ State.reset with ctxs := [(0, { state := .run })], cells := [(0, { sampleAt := 100 })], obj := [(⟨0x6100, 4, 0⟩, 3)] }, _, 100000, 0, 0, ⟨rfl, rfl⟩, rfl, by decide, by decide, by decide, by decide, by decide⟩,
    ⟨{ State.reset with ctxs := [(0, { state := .run, ready := some ⟨100, 100, 0, 1⟩ })] }, _, 200, 0, 0, ⟨100, 100, 0, 1⟩, ⟨rfl, rfl⟩, rfl, by decide, by decide⟩,
    ⟨{ State.reset with ctxs := [(0, { state := .run, ready := some ⟨100, 100, 0, 1⟩ })], obj := [(⟨0x6100, 2, 0⟩, 1)] }, _, 25600000, 0, ⟨100, 100, 0, 1⟩, ⟨rfl, rfl⟩, rfl, by decide, by decide, by decide, by decide, by decide⟩,
    ⟨{ State.reset with ctxs := [(0, { delivery := some ⟨5, 3⟩ })] }, _, 64, 0, ⟨5, 3⟩, ⟨rfl, rfl⟩, rfl, by decide, by decide⟩,
    ⟨{ State.reset with ctxs := [(0, { state := .held, holdSteps := 64 })], obj := [(⟨0x6100, 0xC, 0⟩, 0)] }, _, 64, 0, ⟨rfl, rfl⟩, rfl, by decide, by decide, by decide, by decide⟩⟩

theorem test_hyp_ContextCommandsComplete :
    (∃ (s a b : State) (t : Tick) (src : NodeId) (k : CtxId), s.awake ∧ a = s.advance t ∧ b = a.noted src ∧ (a.accepts src 2
      false) ∧ (b.ctxGroup 17 k = none) ∧ ((b.ctx k).state = .run)) ∧
    (∃ (s a b : State) (t : Tick) (src : NodeId) (k : CtxId) (value : Nat), s.awake ∧ a = s.advance t ∧ b = a.noted src ∧
      (a.accepts src 2 false)) ∧
    (∃ (s a b : State) (t : Tick) (src : NodeId) (k : CtxId), s.awake ∧ a = s.advance t ∧ b = a.noted src ∧ (a.accepts src 2
      false)) ∧
    (∃ (s a b : State) (t : Tick) (src : NodeId) (k : CtxId), s.awake ∧ a = s.advance t ∧ b = a.noted src ∧ (a.accepts src 2
      false) ∧ ((b.ctx k).state = .held) ∧ ((b.ctx k).staging.check = 0)) ∧
    (∃ (s a b : State) (t : Tick) (src : NodeId) (k : CtxId), s.awake ∧ a = s.advance t ∧ b = a.noted src ∧ (a.accepts src 2
      false) ∧ ((b.ctx k).state = .held) ∧ ((b.ctx k).active.check = 0)) :=
  ⟨⟨{ State.reset with ctxs := [(0, { state := .run })], obj := [(⟨0x6100, 9, 0⟩, 0xFF)] }, _, _, 0, 0, 0, ⟨rfl, rfl⟩, rfl, rfl, ⟨⟨by decide, by decide⟩, Or.inl rfl, by decide⟩, by decide, by decide⟩,
    ⟨State.reset, _, _, 0, 0, 0, 0, ⟨rfl, rfl⟩, rfl, rfl, ⟨⟨by decide, by decide⟩, Or.inl rfl, by decide⟩⟩,
    ⟨State.reset, _, _, 0, 0, 0, ⟨rfl, rfl⟩, rfl, rfl, ⟨⟨by decide, by decide⟩, Or.inl rfl, by decide⟩⟩,
    ⟨{ State.reset with ctxs := [(0, { state := .held })] }, _, _, 0, 0, 0, ⟨rfl, rfl⟩, rfl, rfl, ⟨⟨by decide, by decide⟩, Or.inl rfl, by decide⟩, by decide, by decide⟩,
    ⟨{ State.reset with ctxs := [(0, { state := .held })] }, _, _, 0, 0, 0, ⟨rfl, rfl⟩, rfl, rfl, ⟨⟨by decide, by decide⟩, Or.inl rfl, by decide⟩, by decide, by decide⟩⟩

theorem test_hyp_CellClockCompletes :
    (∃ (s a : State) (t : Tick) (c : CellId) (l : List Sample) (u : State), s.awake ∧ a = s.advance t ∧ (u = a.applySamples l)
      ∧ ((u.cell c).state = .run ∨ (u.cell c).state = .hold ∨ (u.cell c).state = .stop) ∧ ((u.cell c).nextStart ≤ u.now)) ∧
    (∃ (s a : State) (t : Tick) (c : CellId) (l : List Sample) (u : State), s.awake ∧ a = s.advance t ∧ (u = a.applySamples l)
      ∧ ((u.cell c).state = .start) ∧ ((u.cell c).checkPassed = true) ∧ ((u.cell c).nextStart ≤ u.now)) ∧
    (∃ (s a : State) (t : Tick) (c : CellId) (v : Int) (code : Nat) (u : State) (x : Cell), s.awake ∧ a = s.advance t ∧ (code
      = a.senseCode c v) ∧ (u = (if (a.cell c).sums.start ≤ a.now - nsTicks 50 then a.finishPeriod c else a)) ∧ (x =
      (u.countPeriod c ((((u.cell c).countCode code).countCheck code).takeSample code (a.now - nsTicks 50)) code (a.now -
      nsTicks 50)).countOverRange code) ∧ (x.overRange < 4)) ∧
    (∃ (s a : State) (t : Tick) (c : CellId) (v : Int) (code : Nat) (u : State) (x : Cell), s.awake ∧ a = s.advance t ∧ (code
      = a.senseCode c v) ∧ (u = (if (a.cell c).sums.start ≤ a.now - nsTicks 50 then a.finishPeriod c else a)) ∧ (x =
      (u.countPeriod c ((((u.cell c).countCode code).countCheck code).takeSample code (a.now - nsTicks 50)) code (a.now -
      nsTicks 50)).countOverRange code) ∧ (4 ≤ x.overRange)) ∧
    (∃ (s a : State) (t : Tick) (c : CellId) (g : Nat) (at? : Tick), s.awake ∧ a = s.advance t ∧ ((a.cell c).state = .start) ∧
      ((a.cell c).checkPassed = false) ∧ ((a.cell c).checkCount = 16) ∧ ((a.cell c).startAt + nsTicks 800 ≤ a.now) ∧
      ((((a.cell c).checkSum : Int) - 16 * a.zero c).natAbs ≤ 16 * a.nat 0x5011 3 c) ∧ (a.cellGroup c = some g) ∧ ((a.group
      g).reference = some at?)) ∧
    (∃ (s a : State) (t : Tick) (c : CellId), s.awake ∧ a = s.advance t ∧ ((a.cell c).state = .start) ∧ ((a.cell
      c).checkPassed = false) ∧ ((a.cell c).checkCount = 16) ∧ ((a.cell c).startAt + nsTicks 800 ≤ a.now) ∧ (16 * a.nat 0x5011
      3 c < (((a.cell c).checkSum : Int) - 16 * a.zero c).natAbs)) :=
  ⟨⟨{ State.reset with cells := [(0, { state := .run })] }, _, 0, 0, [], _, ⟨rfl, rfl⟩, rfl, rfl, by decide, by decide⟩,
    ⟨{ State.reset with cells := [(0, { state := .start, checkPassed := true })] }, _, 0, 0, [], _, ⟨rfl, rfl⟩, rfl, rfl, by decide, by decide, by decide⟩,
    ⟨State.reset, _, 128000, 0, 0, _, _, _, ⟨rfl, rfl⟩, rfl, rfl, rfl, rfl, by decide⟩,
    ⟨{ State.reset with cells := [(0, { state := .run, overRange := 3 })] }, _, 128000, 0, 1000000000000, _, _, _, ⟨rfl, rfl⟩, rfl, rfl, rfl, rfl, by decide⟩,
    ⟨{ State.reset with cells := [(0, { state := .start, checkCount := 16, checkSum := 32768 })], obj := [(⟨0x6000, 1, 0⟩, 1), (⟨0x6000, 2, 0⟩, 1), (⟨0x6000, 3, 0⟩, 0)], groups := [(0, { reference := some 0 })] }, _, 100000, 0, 0, 0, ⟨rfl, rfl⟩, rfl, by decide, by decide, by decide, by decide, by decide, by decide, by decide⟩,
    ⟨{ State.reset with cells := [(0, { state := .start, checkCount := 16, checkSum := 65520 })] }, _, 100000, 0, ⟨rfl, rfl⟩, rfl, by decide, by decide, by decide, by decide, by decide⟩⟩

theorem test_hyp_CellEdgesComplete :
    (∃ (s a : State) (t : Tick) (c : CellId) (v : Int), s.awake ∧ a = s.advance t ∧ ((a.cell c).interval = true) ∧
      (a.peakBlankingOver c (a.cell c) = true) ∧ (a.beyond c (a.cell c) (a.senseCode c v) = true)) ∧
    (∃ (s a : State) (t : Tick) (c : CellId) (v : Int), s.awake ∧ a = s.advance t ∧ ((a.cell c).interval = true) ∧
      (a.peakBlankingOver c (a.cell c) = true) ∧ (a.beyond c (a.cell c) (a.senseCode c v) = true)) ∧
    (∃ (s a : State) (t : Tick) (c : CellId) (v : Int) (m : Tick), s.awake ∧ a = s.advance t ∧ ((a.cell c).interval = false) ∧
      (a.peakBlankingOver c (a.cell c) = true) ∧ (a.beyond c (a.cell c) (a.senseCode c v) = true) ∧ ((a.cell c).maxEnd = some
      m) ∧ (m / 16 = a.now / 16)) ∧
    (∃ (s a : State) (t : Tick) (c : CellId) (u : State), s.awake ∧ a = s.advance t ∧ ((a.cell c).interval = true) ∧ ((a.cell
      c).intervalStart + a.nat 0x5010 6 c * (a.cell c).onTimeSpan (a.nat 0x5010 1 c) / 65536 ≤ a.now) ∧ (u = a.bump 0x5003 2
      c)) ∧
    (∃ (s a : State) (t : Tick) (c : CellId) (v : Int) (code : Nat) (x : Cell), s.awake ∧ a = s.advance t ∧ (code =
      a.senseCode c v) ∧ ((a.cell c).state = .run) ∧ (ceilingOpen (blankTicks (a.nat 0x5012 5 c)) (a.cell c).riseA (a.cell
      c).riseB a.now = true) ∧ ((a.cell c).ceilingForced = false) ∧ (a.nat 0x5012 3 c < code) ∧ (x = (a.cell c).forceSafe
      (decide (a.nat 0x5010 8 c = 1)) (a.nat 0x5010 5 c) a.now) ∧ (a.nat 0x5012 6 c ≤ x.ceilingRun)) ∧
    (∃ (s a : State) (t : Tick) (c : CellId) (v : Int) (code : Nat) (x : Cell), s.awake ∧ a = s.advance t ∧ (code =
      a.senseCode c v) ∧ ((a.cell c).state = .run) ∧ (ceilingOpen (blankTicks (a.nat 0x5012 5 c)) (a.cell c).riseA (a.cell
      c).riseB a.now = true) ∧ ((a.cell c).ceilingForced = false) ∧ (a.nat 0x5012 3 c < code) ∧ (x = (a.cell c).forceSafe
      (decide (a.nat 0x5010 8 c = 1)) (a.nat 0x5010 5 c) a.now) ∧ (x.ceilingRun < a.nat 0x5012 6 c)) ∧
    (∃ (s a : State) (t : Tick) (c : CellId), s.awake ∧ a = s.advance t ∧ (a.holdsToken c = true)) ∧
    (∃ (s a : State) (t : Tick) (c : CellId), s.awake ∧ a = s.advance t ∧ (a.holdsToken c = true)) ∧
    (∃ (s a : State) (t : Tick) (c : CellId) (net : Net), s.awake ∧ a = s.advance t ∧ (a.holdsToken c = false)) ∧
    (∃ (s a : State) (t : Tick) (c : CellId) (x : Cell), s.awake ∧ a = s.advance t ∧ ((a.cell c).switching = true) ∧ (a.nat
      0x5010 1 c = 3) ∧ ((a.cell c).secondHalf = false) ∧ ((a.cell c).periodStart + (a.cell c).period / 2 ≤ a.now) ∧ (x =
      { a.cell c with secondHalf := true, ceilingForced := false })) ∧
    (∃ (s a : State) (t : Tick) (c : CellId) (x : Cell), s.awake ∧ a = s.advance t ∧ ((a.cell c).switching = true) ∧ (a.nat
      0x5010 1 c = 4) ∧ ((a.cell c).secondHalf = false) ∧ ((a.cell c).ceilingForced = false) ∧ ((a.cell c).periodStart +
      (a.cell c).period / 2 ≤ a.now) ∧ (x = { a.cell c with secondHalf := true, ceilingForced := false }) ∧ (x.hasInterval 4 =
      true)) ∧
    (∃ (s a : State) (t : Tick) (c : CellId), s.awake ∧ a = s.advance t ∧ ((a.cell c).waitB ≠ .none) ∧ ((a.cell
      c).ceilingForced = true) ∧ ((a.cell c).mayRise .b (a.nat 0x5010 4 c) (a.nat 0x5010 5 c) a.now = true)) ∧
    (∃ (s a : State) (t : Tick) (c : CellId), s.awake ∧ a = s.advance t ∧ ((a.cell c).waitA ≠ .none) ∧ ((a.cell
      c).ceilingForced = false) ∧ ((a.cell c).mayRise .a (a.nat 0x5010 4 c) (a.nat 0x5010 5 c) a.now = true)) ∧
    (∃ (s a : State) (t : Tick) (c : CellId), s.awake ∧ a = s.advance t ∧ ((a.cell c).waitB ≠ .none) ∧ ((a.cell
      c).ceilingForced = false) ∧ ((a.cell c).mayRise .b (a.nat 0x5010 4 c) (a.nat 0x5010 5 c) a.now = true)) ∧
    (∃ (s a : State) (t : Tick) (c : CellId), s.awake ∧ a = s.advance t ∧ ((a.cell c).switching = true) ∧ (a.nat 0x5010 1 c =
      2) ∧ (a.nat 0x5010 9 c ≠ a.nat 0x5010 0xA c) ∧ ((a.cell c).periodStart + a.nat 0x5010 9 c ≤ a.now) ∧ ((a.cell c).state =
      .run)) ∧
    (∃ (s a : State) (t : Tick) (c : CellId), s.awake ∧ a = s.advance t ∧ ((a.cell c).switching = true) ∧ (a.nat 0x5010 1 c =
      2) ∧ (a.nat 0x5010 9 c ≠ a.nat 0x5010 0xA c) ∧ ((a.cell c).periodStart + a.nat 0x5010 0xA c ≤ a.now) ∧ ((a.cell c).state
      = .run) ∧ ((a.cell c).ceilingForced = false)) :=
  ⟨⟨{ State.reset with cells := [(0, { state := .run, interval := true })] }, _, 100000, 0, 1000000000000, ⟨rfl, rfl⟩, rfl, by decide, by decide, by decide⟩,
    ⟨{ State.reset with cells := [(0, { state := .run, interval := true })] }, _, 100000, 0, 1000000000000, ⟨rfl, rfl⟩, rfl, by decide, by decide, by decide⟩,
    ⟨{ State.reset with cells := [(0, { state := .run, maxEnd := some 100000 })] }, _, 100015, 0, 1000000000000, 100000, ⟨rfl, rfl⟩, rfl, by decide, by decide, by decide, by decide, by decide⟩,
    ⟨{ State.reset with cells := [(0, { state := .run, interval := true })] }, _, 1000000, 0, _, ⟨rfl, rfl⟩, rfl, by decide, by decide, rfl⟩,
    ⟨{ State.reset with cells := [(0, { state := .run, ceilingRun := 100, riseA := some 0 })] }, _, 1000000, 0, 1000000000000, _, _, ⟨rfl, rfl⟩, rfl, rfl, by decide, by decide, by decide, by decide, rfl, by decide⟩,
    ⟨{ State.reset with cells := [(0, { state := .run, riseA := some 0 })] }, _, 1000000, 0, 1000000000000, _, _, ⟨rfl, rfl⟩, rfl, rfl, by decide, by decide, by decide, by decide, rfl, by decide⟩,
    ⟨{ State.reset with obj := [(⟨0x5005, 1, 0⟩, 1)] }, _, 0, 0, ⟨rfl, rfl⟩, rfl, by decide⟩,
    ⟨{ State.reset with obj := [(⟨0x5005, 1, 0⟩, 1)] }, _, 0, 0, ⟨rfl, rfl⟩, rfl, by decide⟩,
    ⟨State.reset, _, 0, 0, .a, ⟨rfl, rfl⟩, rfl, by decide⟩,
    ⟨{ State.reset with cells := [(0, { state := .run, firstPeriod := false })], obj := [(⟨0x5010, 1, 0⟩, 3)] }, _, 1000000, 0, _, ⟨rfl, rfl⟩, rfl, by decide, by decide, by decide, by decide, rfl⟩,
    ⟨{ State.reset with cells := [(0, { state := .run, firstPeriod := false })], obj := [(⟨0x5010, 1, 0⟩, 4)] }, _, 1000000, 0, _, ⟨rfl, rfl⟩, rfl, by decide, by decide, by decide, by decide, by decide, rfl, by decide⟩,
    ⟨{ State.reset with cells := [(0, { state := .run, waitB := .delayed, ceilingForced := true })] }, _, 1000000, 0, ⟨rfl, rfl⟩, rfl, by decide, by decide, by decide⟩,
    ⟨{ State.reset with cells := [(0, { state := .run, waitA := .delayed })] }, _, 1000000, 0, ⟨rfl, rfl⟩, rfl, by decide, by decide, by decide⟩,
    ⟨{ State.reset with cells := [(0, { state := .run, waitB := .delayed })] }, _, 1000000, 0, ⟨rfl, rfl⟩, rfl, by decide, by decide, by decide⟩,
    ⟨{ State.reset with cells := [(0, { state := .run, firstPeriod := false })], obj := [(⟨0x5010, 1, 0⟩, 2), (⟨0x5010, 9, 0⟩, 100), (⟨0x5010, 0xA, 0⟩, 200)] }, _, 100, 0, ⟨rfl, rfl⟩, rfl, by decide, by decide, by decide, by decide, by decide⟩,
    ⟨{ State.reset with cells := [(0, { state := .run, firstPeriod := false })], obj := [(⟨0x5010, 1, 0⟩, 2), (⟨0x5010, 9, 0⟩, 100), (⟨0x5010, 0xA, 0⟩, 200)] }, _, 200, 0, ⟨rfl, rfl⟩, rfl, by decide, by decide, by decide, by decide, by decide, by decide⟩⟩

theorem test_hyp_GroupCommandsComplete :
    (∃ (s a b : State) (t : Tick) (src : NodeId) (g : GroupId) (c : State), s.awake ∧ a = s.advance t ∧ b = a.noted src ∧
      (a.accepts src 1 false) ∧ (b.upperCopy (g / 4) = false) ∧ (b.groupFree g = true) ∧ (c = b.ranked g 3) ∧ (c.startResult g
      ≠ 0)) ∧
    (∃ (s a b : State) (t : Tick) (src : NodeId) (g : GroupId) (c : State), s.awake ∧ a = s.advance t ∧ b = a.noted src ∧
      (a.accepts src 1 false) ∧ (b.upperCopy (g / 4) = false) ∧ (b.groupFree g = true) ∧ (c = b.ranked g 3) ∧ (c.startResult g
      = 0)) ∧
    (∃ (s a b : State) (t : Tick) (src : NodeId) (g : GroupId) (c : State), s.awake ∧ a = s.advance t ∧ b = a.noted src ∧
      (a.accepts src 1 false) ∧ (b.upperCopy (g / 4) = false) ∧ (b.groupFree g = true) ∧ (c = b.ranked g 3)) ∧
    (∃ (s a b : State) (t : Tick) (src : NodeId) (g : GroupId) (c : State), s.awake ∧ a = s.advance t ∧ b = a.noted src ∧
      (a.accepts src 1 false) ∧ (b.upperCopy (g / 4) = false) ∧ (b.groupFree g = true) ∧ (c = b.ranked g 3)) ∧
    (∃ (s a b : State) (t : Tick) (src : NodeId) (g : GroupId) (v : Nat) (c : State), s.awake ∧ a = s.advance t ∧ b = a.noted
      src ∧ (a.accepts src 1 false) ∧ (b.upperCopy (g / 4) = false) ∧ (b.groupFree g = true) ∧ (c = b.ranked g 3) ∧ (c.cfg
      (0x6200 + g % 4) 6 (g / 4) ≤ v) ∧ ((v : Int) ≤ c.cfg (0x6200 + g % 4) 7 (g / 4))) ∧
    (∃ (s a b : State) (t : Tick) (src : NodeId) (g : GroupId) (v : Nat) (c : State), s.awake ∧ a = s.advance t ∧ b = a.noted
      src ∧ (a.accepts src 1 false) ∧ (b.upperCopy (g / 4) = false) ∧ (b.groupFree g = true) ∧ (c = b.ranked g 3) ∧ (c.cfg
      (0x6200 + g % 4) 6 (g / 4) ≤ c.cfg (0x6200 + g % 4) 7 (g / 4)) ∧ (c.cfg (0x6200 + g % 4) 7 (g / 4) < v)) ∧
    (∃ (s a b : State) (t : Tick) (src : NodeId) (g : GroupId) (at? : Nat) (v : Nat), s.awake ∧ a = s.advance t ∧ b = a.noted
      src ∧ (a.accepts src 1 false) ∧ (b.upperCopy (g / 4) = false) ∧ (at? = b.now / cycleTicks) ∧ ((b.group g).cmdAt = some
      (at?, 1))) :=
  ⟨⟨State.reset, _, _, 0, 0, 0, _, ⟨rfl, rfl⟩, rfl, rfl, ⟨⟨by decide, by decide⟩, Or.inl rfl, by decide⟩, by decide, by decide, rfl, by decide⟩,
    ⟨{ State.reset with ctxs := [(0, { state := .run })], obj := [(⟨0x6000, 1, 0⟩, 1), (⟨0x6000, 2, 0⟩, 5), (⟨0x5010, 1, 0⟩, 1), (⟨0x6100, 9, 0⟩, 0), (⟨0x6200, 0xE, 0⟩, 0)] }, _, _, 0, 0, 0, _, ⟨rfl, rfl⟩, rfl, rfl, ⟨⟨by decide, by decide⟩, Or.inl rfl, by decide⟩, by decide, by decide, rfl, by decide⟩,
    ⟨State.reset, _, _, 0, 0, 0, _, ⟨rfl, rfl⟩, rfl, rfl, ⟨⟨by decide, by decide⟩, Or.inl rfl, by decide⟩, by decide, by decide, rfl⟩,
    ⟨State.reset, _, _, 0, 0, 0, _, ⟨rfl, rfl⟩, rfl, rfl, ⟨⟨by decide, by decide⟩, Or.inl rfl, by decide⟩, by decide, by decide, rfl⟩,
    ⟨{ State.reset with obj := [(⟨0x2011, 4, 0⟩, 60000)] }, _, _, 0, 0, 0, 54500, _, ⟨rfl, rfl⟩, rfl, rfl, ⟨⟨by decide, by decide⟩, Or.inl rfl, by decide⟩, by decide, by decide, rfl, by decide, by decide⟩,
    ⟨{ State.reset with obj := [(⟨0x2011, 4, 0⟩, 60000)] }, _, _, 0, 0, 0, 70000, _, ⟨rfl, rfl⟩, rfl, rfl, ⟨⟨by decide, by decide⟩, Or.inl rfl, by decide⟩, by decide, by decide, rfl, by decide, by decide⟩,
    ⟨{ State.reset with groups := [(0, { cmdAt := some (0, 1) })] }, _, _, 0, 0, 0, 0, 0, ⟨rfl, rfl⟩, rfl, rfl, ⟨⟨by decide, by decide⟩, Or.inl rfl, by decide⟩, by decide, rfl, by decide⟩⟩

theorem test_hyp_GroupTimersComplete :
    (∃ (s a : State) (t : Tick) (g : GroupId), s.awake ∧ a = s.advance t ∧ ((a.group g).state = .run) ∧ ((a.group g).powerGood
      = false) ∧ (a.role g ≠ 3) ∧ (a.since (a.group g).inBandSince msTicks = true)) ∧
    (∃ (s a : State) (t : Tick) (g : GroupId), s.awake ∧ a = s.advance t ∧ ((a.group g).state = .run) ∧ ((a.group g).powerGood
      = false) ∧ (a.role g = 3) ∧ ((a.group g).relayOpen = true)) ∧
    (∃ (s a : State) (t : Tick) (g : GroupId), s.awake ∧ a = s.advance t ∧ ((a.group g).powerGood = true) ∧ (a.role g ≠ 3) ∧
      (a.since (a.group g).outBandSince (100 * usTicks) = true)) ∧
    (∃ (s a : State) (t : Tick) (g : GroupId) (x : Group), s.awake ∧ a = s.advance t ∧ (x = (a.group g).countStart a.now) ∧
      (x.awaitGood = true) ∧ (x.state = .starting) ∧ (a.nat (0x6200 + g % 4) 0xB (g / 4) * msTicks ≤ x.startSteps)) ∧
    (∃ (s a : State) (t : Tick) (g : GroupId), s.awake ∧ a = s.advance t ∧ (a.role g = 1) ∧ ((a.group g).state = .mainsWait) ∧
      (a.pfcReady g = true)) ∧
    (∃ (s a : State) (t : Tick) (g : GroupId) (u : State), s.awake ∧ a = s.advance t ∧ (a.role g = 2) ∧ ((a.group g).state =
      .run) ∧ (a.since (a.group g).bulkLowSince (100 * usTicks) = true) ∧ (u = (a.raise
      { ev 0x2405 (g / 4) with value := a.inputMilliVolt (a.nat (0x6210 + g % 4) 2 (g / 4)), limit := a.cfg (0x6210 + g % 4) 3 (g / 4) * 100, stateCode := 2, second := g.val }).setGroupState
      g .stopping)) ∧
    (∃ (s a : State) (t : Tick) (g : GroupId), s.awake ∧ a = s.advance t ∧ (a.role g = 3) ∧ ((a.group g).relayOpen = false) ∧
      (a.since (a.group g).relayEdge (25 * msTicks) = true) ∧ ((a.group g).state = .run)) ∧
    (∃ (s a : State) (t : Tick) (g : GroupId), s.awake ∧ a = s.advance t ∧ (a.role g = 3) ∧ ((a.group g).relayOpen = false) ∧
      (a.since (a.group g).relayEdge (25 * msTicks) = true) ∧ ((a.group g).state ≠ .run)) ∧
    (∃ (s a : State) (t : Tick) (g : GroupId), s.awake ∧ a = s.advance t ∧ (a.since (a.group g).stopHold (25 * msTicks) =
      true)) ∧
    (∃ (s a : State) (t : Tick) (g : GroupId) (i : Int) (u : State), s.awake ∧ a = s.advance t ∧ (a.role g = 4) ∧ ((a.group
      g).bstAt = none) ∧ (i = (if a.nat (0x6210 + g % 4) 1 (g / 4) < 24 then a.idMilli (a.nat (0x6210 + g % 4) 1 (g / 4)) *
      1000 else 0)) ∧ (u = a.setGroup g
      { a.group g with feedMicroAmp := (a.group g).feedMicroAmp + (i - (a.group g).feedMicroAmp) * lowPass 10 (a.nat (0x6210 + g % 4) 3 (g / 4)) / fxOne, bstAt := some a.now })
      ∧ (u.bstDemand g ≤ u.feedCeiling)) :=
  ⟨⟨{ State.reset with groups := [(0, { state := .run, inBandSince := some 0 })] }, _, 25600000, 0, ⟨rfl, rfl⟩, rfl, by decide, by decide, by decide, by decide⟩,
    ⟨{ State.reset with groups := [(0, { state := .run, relayOpen := true })], obj := [(⟨0x6000, 2, 0⟩, 3)] }, _, 0, 0, ⟨rfl, rfl⟩, rfl, by decide, by decide, by decide, by decide⟩,
    ⟨{ State.reset with groups := [(0, { state := .run, powerGood := true, outBandSince := some 0 })] }, _, 25600000, 0, ⟨rfl, rfl⟩, rfl, by decide, by decide, by decide⟩,
    ⟨{ State.reset with groups := [(0, { state := .starting, awaitGood := true })] }, _, 2560000000000, 0, _, ⟨rfl, rfl⟩, rfl, rfl, by decide, by decide, by decide⟩,
    ⟨{ State.reset with groups := [(0, { state := .mainsWait })], obj := [(⟨0x6000, 2, 0⟩, 1), (⟨0x2200, 1, 0⟩, 2), (⟨0x2200, 6, 0⟩, 3), (⟨0x2200, 4, 0⟩, 2300), (⟨0x6200, 0xE, 0⟩, 0), (⟨0x7800, 1, 0⟩, 400000)], volts := [(0, 16383)] }, _, 0, 0, ⟨rfl, rfl⟩, rfl, by decide, by decide, by decide⟩,
    ⟨{ State.reset with groups := [(0, { state := .run, bulkLowSince := some 0 })], obj := [(⟨0x6000, 2, 0⟩, 2)] }, _, 25600000, 0, _, ⟨rfl, rfl⟩, rfl, by decide, by decide, by decide, rfl⟩,
    ⟨{ State.reset with groups := [(0, { state := .run, relayEdge := some 0 })], obj := [(⟨0x6000, 2, 0⟩, 3)] }, _, 640000000, 0, ⟨rfl, rfl⟩, rfl, by decide, by decide, by decide, by decide⟩,
    ⟨{ State.reset with groups := [(0, { state := .starting, relayEdge := some 0 })], obj := [(⟨0x6000, 2, 0⟩, 3)] }, _, 640000000, 0, ⟨rfl, rfl⟩, rfl, by decide, by decide, by decide, by decide⟩,
    ⟨{ State.reset with groups := [(0, { state := .stopping, stopHold := some 0 })] }, _, 640000000, 0, ⟨rfl, rfl⟩, rfl, by decide⟩,
    ⟨{ State.reset with obj := [(⟨0x6000, 2, 0⟩, 4), (⟨0x2011, 7, 0⟩, 60000)] }, _, 0, 0, _, _, ⟨rfl, rfl⟩, rfl, by decide, by decide, rfl, rfl, by decide⟩⟩

theorem test_hyp_PhaseAndPoolCommandsComplete :
    (∃ (s a : State) (t : Tick) (g : GroupId) (c : State), s.awake ∧ a = s.advance t ∧ (a.since (a.group g).addSince (a.nat
      (0x6300 + g % 4) 6 (g / 4) * usTicks) = true) ∧ (a.groupFree g = true) ∧ (c = a.ranked g 4)) ∧
    (∃ (s a : State) (t : Tick) (g : GroupId) (c : State), s.awake ∧ a = s.advance t ∧ (a.since (a.group g).shedSince (a.nat
      (0x6300 + g % 4) 7 (g / 4) * msTicks) = true) ∧ (a.groupFree g = true) ∧ (c = a.ranked g 5)) ∧
    (∃ (s a : State) (t : Tick) (g : GroupId) (at? : Nat), s.awake ∧ a = s.advance t ∧ (a.since (a.group g).shedSince (a.nat
      (0x6300 + g % 4) 7 (g / 4) * msTicks) = true) ∧ (at? = a.now / cycleTicks) ∧ ((a.group g).cmdAt = some (at?, 1) ∨
      (a.group g).cmdAt = some (at?, 2))) ∧
    (∃ (s a : State) (t : Tick) (g : GroupId), s.awake ∧ a = s.advance t ∧ (a.since (a.group g).devSince usTicks = true) ∧
      ((a.group g).devRaised = false)) ∧
    (∃ (s a : State) (t : Tick) (g : GroupId) (c : State), s.awake ∧ a = s.advance t ∧ ((a.group g).stepOffered ≠ 0) ∧
      (a.groupFree g = true) ∧ (c = (a.setGroup g { a.group g with stepOffered := 0 }).ranked g 2) ∧ (c.poolOf g = none)) ∧
    (∃ (s a : State) (t : Tick) (g : GroupId) (p : Nat) (c u : State), s.awake ∧ a = s.advance t ∧ ((a.group g).stepOffered =
      1) ∧ (a.groupFree g = true) ∧ (c = (a.setGroup g { a.group g with stepOffered := 0 }).ranked g 2) ∧ ((c.group g).state =
      .run) ∧ (c.poolOf g = some p) ∧ (u = c.poolLoadStep p)) ∧
    (∃ (s a : State) (t : Tick) (g : GroupId) (code : Nat) (m : Int), s.awake ∧ a = s.advance t ∧ (a.hasSense g = true) ∧
      ((a.group g).state = .run) ∧ (a.rampUnits g = []) ∧ (((a.activeUnits g).any fun u => u.any fun c => (a.cell c).noRipple)
      = false) ∧ (a.cfg (0x6300 + g % 4) 3 (g / 4) * 256 ≤ 4 * (a.group g).load) ∧ (0 < (a.activeUnits g).foldl (fun v u => v
      + ((a.cell (leadCell u)).meanCode - a.zero (leadCell u))) (0 : Int)) ∧ (m = (code : Int) * 16384 * 65536 /
      (a.activeUnits g).foldl (fun v u => v + ((a.cell (leadCell u)).meanCode - a.zero (leadCell u))) (0 : Int))) ∧
    (∃ (s a : State) (t : Tick) (c : CellId) (code : Nat) (g : Nat) (k : Classify) (u : List Nat) (v : State), s.awake ∧ a =
      s.advance t ∧ (a.cellGroup c = some g) ∧ ((a.group g).classify = some k) ∧ (k.cell = c.val) ∧ (k.left = 0) ∧ (u =
      a.unitOf g c) ∧ (a.classOf g k code = 1) ∧ (v = (a.setGroup g { a.group g with classify := none }).put (0x6310 + g % 4)
      0xA (g / 4) 1)) ∧
    (∃ (s a : State) (t : Tick) (g : GroupId), s.awake ∧ a = s.advance t ∧ (((a.groupCells g).any fun c => a.since (a.cell
      c).limitedSince msTicks) = true)) ∧
    (∃ (s a : State) (t : Tick) (p : PoolId), s.awake ∧ a = s.advance t ∧ (a.cfg (0x2100 + p) 0x1A 0 = 1) ∧ (a.since (a.pool
      p).addSince (a.nat (0x2100 + p) 0x14 0 * usTicks) = true) ∧ (a.memberRampRuns p = false)) ∧
    (∃ (s a : State) (t : Tick) (p : PoolId), s.awake ∧ a = s.advance t ∧ (a.cfg (0x2100 + p) 0x1A 0 = 1) ∧ (a.since (a.pool
      p).shedSince (a.nat (0x2100 + p) 0x15 0 * msTicks) = true) ∧ (a.memberRampRuns p = false)) ∧
    (∃ (s a : State) (t : Tick) (p : PoolId), s.awake ∧ a = s.advance t ∧ (a.cfg (0x2100 + p) 0x1A 0 = 1) ∧ (0 < a.nat (0x2100
      + p) 0x16 0) ∧ ((a.pool p).rotateFrom + a.nat (0x2100 + p) 0x16 0 * 3600 * secTicks ≤ a.now) ∧ (a.memberRampRuns p =
      false) ∧ ((a.setPool p { a.pool p with rotateFrom := a.now }).leastWornMember ((a.setPool p
      { a.pool p with rotateFrom := a.now }).parkedMembers p) = none)) ∧
    (∃ (s a : State) (t : Tick) (p : PoolId) (g : Nat) (u : State), s.awake ∧ a = s.advance t ∧ (a.cfg (0x2100 + p) 0x1A 0 =
      1) ∧ (0 < a.nat (0x2100 + p) 0x16 0) ∧ ((a.pool p).rotateFrom + a.nat (0x2100 + p) 0x16 0 * 3600 * secTicks ≤ a.now) ∧
      (a.memberRampRuns p = false) ∧ (u = a.setPool p { a.pool p with rotateFrom := a.now }) ∧ (u.leastWornMember
      (u.parkedMembers p) = some g) ∧ (u.groupFree g = true)) ∧
    (∃ (s a : State) (t : Tick) (p : PoolId) (g : Nat) (u : State), s.awake ∧ a = s.advance t ∧ ((a.pool p).rotating = some g)
      ∧ (a.cfg (0x2100 + p) 0x1A 0 = 1) ∧ (a.since (a.pool p).fullSince (100 * msTicks) = true) ∧ (a.memberRampRuns p = false)
      ∧ (u = a.parkMostWorn p)) ∧
    (∃ (s a : State) (t : Tick) (src : NodeId) (k : BlockId) (value : Nat), s.awake ∧ a = s.advance t ∧ (a.accepts src 2
      false)) ∧
    (∃ (s a : State) (t : Tick), s.awake ∧ a = s.advance t ∧ (a.runSavedAt + 3600 * secTicks ≤ a.now)) :=
  ⟨⟨{ State.reset with groups := [(0, { state := .run, addSince := some 0 })] }, _, 256000000000, 0, _, ⟨rfl, rfl⟩, rfl, by decide, by decide, rfl⟩,
    ⟨{ State.reset with groups := [(0, { state := .run, shedSince := some 0 })] }, _, 256000000000, 0, _, ⟨rfl, rfl⟩, rfl, by decide, by decide, rfl⟩,
    ⟨{ State.reset with groups := [(0, { state := .run, shedSince := some 0, cmdAt := some (4000000000, 1) })] }, _, 256000000000, 0, 4000000000, ⟨rfl, rfl⟩, rfl, by decide, by decide, by decide⟩,
    ⟨{ State.reset with groups := [(0, { state := .run, devSince := some 0 })] }, _, 25600, 0, ⟨rfl, rfl⟩, rfl, by decide, by decide⟩,
    ⟨{ State.reset with groups := [(0, { state := .run, stepOffered := 1 })] }, _, 0, 0, _, ⟨rfl, rfl⟩, rfl, by decide, by decide, rfl, by decide⟩,
    ⟨{ State.reset with groups := [(0, { state := .run, stepOffered := 1 })], obj := [(⟨0x2100, 1, 0⟩, 0), (⟨0x2100, 0x1A, 0⟩, 1)] }, _, 0, 0, 0, _, _, ⟨rfl, rfl⟩, rfl, by decide, by decide, rfl, by decide, by decide, rfl⟩,
    ⟨{ State.reset with groups := [(0, { state := .run })], cells := [(0, { state := .run, meanCode := 3000 })], obj := [(⟨0x6000, 1, 0⟩, 1), (⟨0x6000, 2, 0⟩, 3), (⟨0x6300, 1, 0⟩, 5), (⟨0x6300, 3, 0⟩, 0)] }, _, 0, 0, 100, _, ⟨rfl, rfl⟩, rfl, by decide, by decide, by decide, by decide, by decide, by decide, rfl⟩,
    ⟨{ State.reset with groups := [(0, { state := .run, rho := 1, rhoCount := 64, classify := some { cell := 0, left := 0, others := [(1, 3, 1)] } })], obj := [(⟨0x6000, 1, 0⟩, 1), (⟨0x6000, 2, 0⟩, 3), (⟨0x6300, 1, 0⟩, 5)] }, _, 0, 0, 0, 0, { cell := 0, left := 0, others := [(1, 3, 1)] }, _, _, ⟨rfl, rfl⟩, rfl, by decide, by decide, by decide, by decide, rfl, by decide, rfl⟩,
    ⟨{ State.reset with cells := [(0, { limitedSince := some 0 })], obj := [(⟨0x6000, 1, 0⟩, 1), (⟨0x6000, 2, 0⟩, 3)] }, _, 25600000, 0, ⟨rfl, rfl⟩, rfl, by decide⟩,
    ⟨{ State.reset with pools := [(0, { addSince := some 0 })], obj := [(⟨0x2100, 0x1A, 0⟩, 1)] }, _, 2560000000000, 0, ⟨rfl, rfl⟩, rfl, by decide, by decide, by decide⟩,
    ⟨{ State.reset with pools := [(0, { shedSince := some 0 })], obj := [(⟨0x2100, 0x1A, 0⟩, 1)] }, _, 2560000000000, 0, ⟨rfl, rfl⟩, rfl, by decide, by decide, by decide⟩,
    ⟨{ State.reset with obj := [(⟨0x2100, 0x1A, 0⟩, 1), (⟨0x2100, 0x16, 0⟩, 1)] }, _, 92160000000000, 0, ⟨rfl, rfl⟩, rfl, by decide, by decide, by decide, by decide, by decide⟩,
    ⟨{ State.reset with groups := [(0, { state := .run, poolParked := true })], obj := [(⟨0x6000, 1, 0⟩, 1), (⟨0x6000, 2, 0⟩, 3), (⟨0x2100, 1, 0⟩, 0), (⟨0x2100, 0x1A, 0⟩, 1), (⟨0x2100, 0x16, 0⟩, 1)] }, _, 92160000000000, 0, 0, _, ⟨rfl, rfl⟩, rfl, by decide, by decide, by decide, by decide, rfl, by decide, by decide⟩,
    ⟨{ State.reset with pools := [(0, { rotating := some 0, fullSince := some 0 })], obj := [(⟨0x2100, 0x1A, 0⟩, 1)] }, _, 2560000000, 0, 0, _, ⟨rfl, rfl⟩, rfl, by decide, by decide, by decide, by decide, rfl⟩,
    ⟨State.reset, _, 0, 0, 0, 1, ⟨rfl, rfl⟩, rfl, ⟨⟨by decide, by decide⟩, Or.inl rfl, by decide⟩⟩,
    ⟨State.reset, _, 92160000000000, ⟨rfl, rfl⟩, rfl, by decide⟩⟩

theorem test_hyp_FeedTimersComplete :
    (∃ (s a : State) (t : Tick) (f : FeedId), s.awake ∧ a = s.advance t ∧ ((a.feed f).state = .inrush) ∧ (a.since (a.feed
      f).belowOn (10 * usTicks) = true)) ∧
    (∃ (s a : State) (t : Tick) (f : FeedId), s.awake ∧ a = s.advance t ∧ (a.unmarked f) ∧ ((a.feed f).state = .inrush) ∧
      ((a.feed f).entered + a.nat 0x6800 0xF f * msTicks ≤ a.now)) ∧
    (∃ (s a : State) (t : Tick) (f : FeedId) (v i g : Nat), s.awake ∧ a = s.advance t ∧ (a.unmarked f)) ∧
    (∃ (s a : State) (t : Tick) (f : FeedId) (v i g code : Nat) (u w : State), s.awake ∧ a = s.advance t ∧ (code < 4096) ∧ (u
      = (((a.setFeed f ((a.feed f).codes v i g)).judgeFeed f).amplifierRests f).modelStep f) ∧ (w = (a.setFeed f
      { a.feed f with isns := code }).judgeFeed f)) ∧
    (∃ (s a : State) (t : Tick) (f : FeedId) (code : Nat) (u : State), s.awake ∧ a = s.advance t ∧ (a.unmarked f) ∧ (code <
      4096) ∧ (u = (a.setFeed f { a.feed f with isns := code }).judgeFeed f) ∧ (u.feedLive f = true) ∧ (u.cfg 0x6800 0xE f <
      u.idMilli f) ∧ (u.cfg 0x6800 0x17 f = 1) ∧ (u.retriesLeft f = true)) ∧
    (∃ (s a : State) (t : Tick) (f : FeedId) (code : Nat) (u : State), s.awake ∧ a = s.advance t ∧ (a.unmarked f) ∧ (code <
      4096) ∧ (u = (a.setFeed f { a.feed f with isns := code }).judgeFeed f) ∧ (u.feedLive f = true) ∧ (u.cfg 0x6800 0xE f <
      u.idMilli f) ∧ (¬ (u.cfg 0x6800 0x17 f = 1 ∧ u.retriesLeft f = true))) ∧
    (∃ (s a : State) (t : Tick) (f : FeedId) (code : Nat) (u : State), s.awake ∧ a = s.advance t ∧ (code < 4096) ∧ (u =
      (a.setFeed f { a.feed f with isns := code }).judgeFeed f) ∧ ((u.feed f).state = .on) ∧ (u.cfg 0x6800 0xD f < u.idMilli
      f)) ∧
    (∃ (s a : State) (t : Tick) (f : FeedId), s.awake ∧ a = s.advance t ∧ (a.unmarked f) ∧ (a.feedLive f = true) ∧ (a.since
      (a.feed f).belowRise (2 * msTicks) = true ∨ a.since (a.feed f).belowVolt (2 * msTicks) = true)) ∧
    (∃ (s a : State) (t : Tick) (f : FeedId) (u : State), s.awake ∧ a = s.advance t ∧ ((a.feed f).state = .off) ∧ (a.since
      (a.feed f).weldFrom (5 * msTicks) = true) ∧ (u = a.setFeed f { a.feed f with weldFrom := none }) ∧ (u.nat 0x6800 0x10 f
      = 1 ∨ u.nat 0x6800 0x10 f = 3) ∧ (u.cfg 0x6800 0x11 f < u.outMilli f)) ∧
    (∃ (s a : State) (t : Tick) (f : FeedId), s.awake ∧ a = s.advance t ∧ ((a.feed f).state = .cooldown) ∧ ((a.feed f).entered
      + a.nat 0x6800 0x15 f * msTicks ≤ a.now) ∧ ((a.feed f).tj ≤ a.cfg 0x6810 0xC f * 100000)) ∧
    (∃ (s a : State) (t : Tick) (f : FeedId), s.awake ∧ a = s.advance t ∧ ((a.feed f).state = .on) ∧ ((a.feed f).powerGood =
      false) ∧ (a.goodConditions f = true) ∧ (a.since (a.feed f).goodCond (100 * usTicks) = true)) ∧
    (∃ (s a : State) (t : Tick) (f : FeedId), s.awake ∧ a = s.advance t ∧ ((a.feed f).powerGood = true) ∧ (a.goodConditions f
      = false)) ∧
    (∃ (s a : State) (t : Tick) (f : FeedId), s.awake ∧ a = s.advance t ∧ ((a.feed f).powerGood = true) ∧ (a.since (a.feed
      f).goodSince (a.nat 0x6800 0x16 f * secTicks) = true)) ∧
    (∃ (s a : State) (t : Tick) (f : FeedId) (code : Nat), s.awake ∧ a = s.advance t ∧ (code = 0 ∨ code = 4095) ∧ (a.feedLive
      f = true) ∧ ((a.feed f).isnsLost = false)) ∧
    (∃ (s a : State) (t : Tick) (f : FeedId) (code : Nat), s.awake ∧ a = s.advance t ∧ (code = 0 ∨ code = 4095) ∧ (a.feedLive
      f = true) ∧ ((a.feed f).vdsLost = false)) :=
  ⟨⟨{ State.reset with feeds := [(0, { state := .inrush, belowOn := some 0 })] }, _, 256000, 0, ⟨rfl, rfl⟩, rfl, by decide, by decide⟩,
    ⟨{ State.reset with feeds := [(0, { state := .inrush })] }, _, 2560000000000, 0, ⟨rfl, rfl⟩, rfl, Tests.unmarked _ _ rfl, by decide, by decide⟩,
    ⟨State.reset, _, 0, 0, 0, 0, 0, ⟨rfl, rfl⟩, rfl, Tests.unmarked _ _ rfl⟩,
    ⟨State.reset, _, 0, 0, 0, 0, 0, 4095, _, _, ⟨rfl, rfl⟩, rfl, by decide, rfl, rfl⟩,
    ⟨{ State.reset with feeds := [(0, { state := .on })], obj := [(⟨0x6800, 6, 0⟩, 0), (⟨0x6800, 7, 0⟩, 100000), (⟨0x6800, 0xE, 0⟩, 10), (⟨0x6800, 0x17, 0⟩, 1), (⟨0x6800, 0x14, 0⟩, 3)] }, _, 0, 0, 4095, _, ⟨rfl, rfl⟩, rfl, Tests.unmarked _ _ rfl, by decide, rfl, by decide, by decide, by decide, by decide⟩,
    ⟨{ State.reset with feeds := [(0, { state := .on })], obj := [(⟨0x6800, 6, 0⟩, 0), (⟨0x6800, 7, 0⟩, 100000), (⟨0x6800, 0xE, 0⟩, 10), (⟨0x6800, 0x17, 0⟩, 0)] }, _, 0, 0, 4095, _, ⟨rfl, rfl⟩, rfl, Tests.unmarked _ _ rfl, by decide, rfl, by decide, by decide, by decide⟩,
    ⟨{ State.reset with feeds := [(0, { state := .on })], obj := [(⟨0x6800, 6, 0⟩, 0), (⟨0x6800, 7, 0⟩, 100000), (⟨0x6800, 0xD, 0⟩, 10)] }, _, 0, 0, 4095, _, ⟨rfl, rfl⟩, rfl, by decide, rfl, by decide, by decide⟩,
    ⟨{ State.reset with feeds := [(0, { state := .inrush, belowRise := some 0 })] }, _, 51200000, 0, ⟨rfl, rfl⟩, rfl, Tests.unmarked _ _ rfl, by decide, by decide⟩,
    ⟨{ State.reset with feeds := [(0, { weldFrom := some 0 })], obj := [(⟨0x6800, 0x10, 0⟩, 1), (⟨0x6800, 0x11, 0⟩, -1)] }, _, 128000000, 0, _, ⟨rfl, rfl⟩, rfl, by decide, by decide, rfl, by decide, by decide⟩,
    ⟨{ State.reset with feeds := [(0, { state := .cooldown })] }, _, 2560000000000, 0, ⟨rfl, rfl⟩, rfl, by decide, by decide, by decide⟩,
    ⟨{ State.reset with feeds := [(0, { state := .on, goodCond := some 0, gsns := 4000 })], obj := [(⟨0x6800, 0xB, 0⟩, 5000), (⟨0x6800, 9, 0⟩, 0)] }, _, 2560000, 0, ⟨rfl, rfl⟩, rfl, by decide, by decide, by decide, by decide⟩,
    ⟨{ State.reset with feeds := [(0, { state := .on, powerGood := true })] }, _, 0, 0, ⟨rfl, rfl⟩, rfl, by decide, by decide⟩,
    ⟨{ State.reset with feeds := [(0, { state := .on, powerGood := true, goodSince := some 0 })] }, _, 25600000000000, 0, ⟨rfl, rfl⟩, rfl, by decide, by decide⟩,
    ⟨{ State.reset with feeds := [(0, { state := .on })] }, _, 0, 0, 0, ⟨rfl, rfl⟩, rfl, by decide, by decide, by decide⟩,
    ⟨{ State.reset with feeds := [(0, { state := .on })] }, _, 0, 0, 4095, ⟨rfl, rfl⟩, rfl, by decide, by decide, by decide⟩⟩

theorem test_hyp_FeedCommandsAndSelectorComplete :
    (∃ (s a b : State) (t : Tick) (src : NodeId) (f : FeedId), s.awake ∧ a = s.advance t ∧ b = a.noted src ∧ (a.accepts src 1
      false) ∧ (b.channelResult f true ≠ 0)) ∧
    (∃ (s a b : State) (t : Tick) (src : NodeId) (f : FeedId) (u : State), s.awake ∧ a = s.advance t ∧ b = a.noted src ∧
      (a.accepts src 1 false) ∧ (b.channelResult f true = 0) ∧ (u = (b.put 0x6830 2 f 0).result 0) ∧ ((u.feed f).state =
      .off)) ∧
    (∃ (s a b : State) (t : Tick) (src : NodeId) (f : FeedId), s.awake ∧ a = s.advance t ∧ b = a.noted src ∧ (a.accepts src 1
      false) ∧ (b.channelResult f false ≠ 0)) ∧
    (∃ (s a b : State) (t : Tick) (src : NodeId) (f : FeedId), s.awake ∧ a = s.advance t ∧ b = a.noted src ∧ (a.accepts src 1
      false) ∧ (b.channelResult f false = 0)) ∧
    (∃ (s a b : State) (t : Tick) (src : NodeId), s.awake ∧ a = s.advance t ∧ b = a.noted src ∧ (a.accepts src 1 false) ∧
      (b.selector.transfer = none) ∧ (b.selectorOn = true)) ∧
    (∃ (s a b : State) (t : Tick) (src : NodeId), s.awake ∧ a = s.advance t ∧ b = a.noted src ∧ (a.accepts src 1 false) ∧
      (b.selector.transfer = none) ∧ (b.selectorOn = true)) ∧
    (∃ (s a b : State) (t : Tick) (src : NodeId), s.awake ∧ a = s.advance t ∧ b = a.noted src ∧ (a.accepts src 1 false) ∧
      (b.selector.transfer = none) ∧ (b.selectorOn = true)) ∧
    (∃ (s a b : State) (t : Tick) (src : NodeId) (x : Feed), s.awake ∧ a = s.advance t ∧ b = a.noted src ∧ (a.selectorOn =
      true) ∧ (a.selector.closed = some (Feed.number x)) ∧ (a.feedDropped (Feed.number x) = true)) ∧
    (∃ (s a b : State) (t : Tick) (src : NodeId) (x : Feed), s.awake ∧ a = s.advance t ∧ b = a.noted src ∧ (a.selectorOn =
      true) ∧ (a.feedGood (Feed.number x) = true)) ∧
    (∃ (s a b : State) (t : Tick) (src : NodeId) (x : Feed), s.awake ∧ a = s.advance t ∧ b = a.noted src ∧ (a.selectorOn =
      true) ∧ (a.selector.closed = none) ∧ (a.confirmedOff 0 = true) ∧ (a.confirmedOff 1 = true)) ∧
    (∃ (s a b : State) (t : Tick) (src : NodeId) (y : Nat) (at? : Tick), s.awake ∧ a = s.advance t ∧ b = a.noted src ∧
      (a.selector.opened = some (y, at?)) ∧ (a.selectorOn = true) ∧ (at? + msTicks ≤ a.now) ∧ (a.confirmedOff y = false) ∧
      (a.selector.blocked = false)) ∧
    (∃ (s a b : State) (t : Tick) (src : NodeId) (f pref : Nat), s.awake ∧ a = s.advance t ∧ b = a.noted src ∧ (pref = a.nat
      0x6840 2 0) ∧ (a.inputFeed pref = some f) ∧ (a.selectorOn = true) ∧ (0 < a.nat 0x6840 7 0) ∧ (a.selector.force = 0) ∧
      (a.selector.transfer = none) ∧ (a.selector.closed = some (1 - pref)) ∧ (a.since (a.feed f).inGood (a.nat 0x6840 6 0 *
      msTicks + a.nat 0x6840 7 0 * secTicks) = true) ∧ ((a.feed f).freedAt + a.nat 0x6840 7 0 * secTicks ≤ a.now) ∧
      (a.feedGood pref = true)) ∧
    (∃ (s a b : State) (t : Tick) (src : NodeId) (at? : Tick) (x : Nat), s.awake ∧ a = s.advance t ∧ b = a.noted src ∧
      (a.selector.transfer = some at?) ∧ (a.selector.closed = some x) ∧ (a.selector.timed = false)) :=
  ⟨⟨State.reset, _, _, 0, 0, 0, ⟨rfl, rfl⟩, rfl, rfl, ⟨⟨by decide, by decide⟩, Or.inl rfl, by decide⟩, by decide⟩,
    ⟨{ State.reset with feeds := [(0, {})], obj := [(⟨0x6800, 1, 0⟩, 1), (⟨0x6800, 0xC, 0⟩, 1), (⟨0x6800, 0xD, 0⟩, 2), (⟨0x6800, 0xE, 0⟩, 3)] }, _, _, 0, 0, 0, _, ⟨rfl, rfl⟩, rfl, rfl, ⟨⟨by decide, by decide⟩, Or.inl rfl, by decide⟩, by decide, rfl, by decide⟩,
    ⟨State.reset, _, _, 0, 0, 0, ⟨rfl, rfl⟩, rfl, rfl, ⟨⟨by decide, by decide⟩, Or.inl rfl, by decide⟩, by decide⟩,
    ⟨{ State.reset with feeds := [(0, { state := .on })], obj := [(⟨0x6800, 1, 0⟩, 1), (⟨0x6800, 0xC, 0⟩, 1), (⟨0x6800, 0xD, 0⟩, 2), (⟨0x6800, 0xE, 0⟩, 3)] }, _, _, 0, 0, 0, ⟨rfl, rfl⟩, rfl, rfl, ⟨⟨by decide, by decide⟩, Or.inl rfl, by decide⟩, by decide⟩,
    ⟨{ State.reset with obj := [(⟨0x6840, 1, 0⟩, 1)] }, _, _, 0, 0, ⟨rfl, rfl⟩, rfl, rfl, ⟨⟨by decide, by decide⟩, Or.inl rfl, by decide⟩, by decide, by decide⟩,
    ⟨{ State.reset with obj := [(⟨0x6840, 1, 0⟩, 1)] }, _, _, 0, 0, ⟨rfl, rfl⟩, rfl, rfl, ⟨⟨by decide, by decide⟩, Or.inl rfl, by decide⟩, by decide, by decide⟩,
    ⟨{ State.reset with obj := [(⟨0x6840, 1, 0⟩, 1)] }, _, _, 0, 0, ⟨rfl, rfl⟩, rfl, rfl, ⟨⟨by decide, by decide⟩, Or.inl rfl, by decide⟩, by decide, by decide⟩,
    ⟨{ State.reset with selector := { closed := some 0 }, obj := [(⟨0x6840, 1, 0⟩, 1)] }, _, _, 0, 0, .a, ⟨rfl, rfl⟩, rfl, rfl, by decide, by decide, by decide⟩,
    ⟨{ State.reset with feeds := [(0, { inGood := some 0 })], obj := [(⟨0x6840, 1, 0⟩, 1), (⟨0x6800, 1, 0⟩, 2)] }, _, _, 2560000000000, 0, .a, ⟨rfl, rfl⟩, rfl, rfl, by decide, by decide⟩,
    ⟨{ State.reset with obj := [(⟨0x6840, 1, 0⟩, 1)] }, _, _, 0, 0, .a, ⟨rfl, rfl⟩, rfl, rfl, by decide, by decide, by decide, by decide⟩,
    ⟨{ State.reset with feeds := [(0, { state := .on, gate := .full })], selector := { opened := some (0, 0) }, obj := [(⟨0x6840, 1, 0⟩, 1), (⟨0x6800, 1, 0⟩, 2)] }, _, _, 25600000, 0, 0, 0, ⟨rfl, rfl⟩, rfl, rfl, by decide, by decide, by decide, by decide, by decide⟩,
    ⟨{ State.reset with feeds := [(0, { inGood := some 0 })], selector := { closed := some 1 }, obj := [(⟨0x6840, 1, 0⟩, 1), (⟨0x6840, 2, 0⟩, 0), (⟨0x6840, 7, 0⟩, 1), (⟨0x6800, 1, 0⟩, 2)] }, _, _, 2560000000000, 0, 0, 0, ⟨rfl, rfl⟩, rfl, rfl, by decide, by decide, by decide, by decide, by decide, by decide, by decide, by decide, by decide, by decide⟩,
    ⟨{ State.reset with selector := { transfer := some 0, closed := some 1 } }, _, _, 256000, 0, 0, 1, ⟨rfl, rfl⟩, rfl, rfl, by decide, by decide, by decide⟩⟩

theorem test_hyp_BatteryTimersComplete :
    (∃ (s a : State) (t : Tick) (n : StringId) (v i latest sh : Nat), s.awake ∧ a = s.advance t ∧ (a.estimates n = true) ∧
      (a.sampleDue n latest = true) ∧ ((a.str n).fast = true)) ∧
    (∃ (s a : State) (t : Tick) (n : StringId) (v i latest sh : Nat) (u : State), s.awake ∧ a = s.advance t ∧ (a.estimates n =
      true) ∧ (a.sampleDue n latest = true) ∧ ((a.str n).fast = false) ∧ (u =
      { a with shorted := bset a.shorted (a.nat 0x7000 3 n) (a.now + 12800 * usTicks / 1000) })) ∧
    (∃ (s a : State) (t : Tick) (n : StringId) (u : State), s.awake ∧ a = s.advance t ∧ (a.estimates n = true) ∧ ((a.str
      n).restTaken = false) ∧ (a.since (a.str n).restSince (a.nat 0x7110 4 0 * 60 * secTicks) = true) ∧ (u = (a.setStr n
      { a.str n with restTaken := true }).raise { ev 0x6201 n with value := rndDiv (a.str n).socV 1000 })) ∧
    (∃ (s a : State) (t : Tick) (n : StringId) (u : State), s.awake ∧ a = s.advance t ∧ (a.estimates n = true) ∧ ((a.str
      n).dayAt + 86400 * secTicks ≤ a.now) ∧ (u = (a.setStr n { a.str n with dayAt := a.now }).put 0x7030 3 n (min (a.cfg
      0x7030 3 n + 1) 65535)) ∧ (a.cfg 0x7030 3 n + 1 < u.cfg 0x7110 8 0)) ∧
    (∃ (s a : State) (t : Tick) (n : StringId), s.awake ∧ a = s.advance t ∧ (a.estimates n = true) ∧ ((a.str n).recordAt + 600
      * secTicks ≤ a.now)) ∧
    (∃ (s a : State) (t : Tick) (n : StringId), s.awake ∧ a = s.advance t ∧ (1 ≤ (a.str n).hold) ∧ ((a.str n).hold ≤ 3) ∧
      ((a.str n).holdAt + a.nat 0x7120 (if (a.str n).hold = 1 then 2 else 4) 0 * 60 * secTicks ≤ a.now)) ∧
    (∃ (s a : State) (t : Tick) (n : StringId), s.awake ∧ a = s.advance t ∧ (a.estimates n = true) ∧ ((a.str n).permitted =
      false) ∧ (a.since (a.str n).permitSince (60 * secTicks) = true)) ∧
    (∃ (s a : State) (t : Tick) (n : StringId) (u : State), s.awake ∧ a = s.advance t ∧ (a.estimates n = true) ∧ ((a.str
      n).full = false) ∧ ((a.str n).tapering = true) ∧ (a.since (a.str n).tailSince (a.nat 0x7010 6 n * 60 * secTicks) = true)
      ∧ (u = (a.setStr n { a.str n with full := true }).raise { ev 0x6505 n with value := (a.str n).amp })) ∧
    (∃ (s a : State) (t : Tick) (g : GroupId), s.awake ∧ a = s.advance t ∧ (a.role g = 3) ∧ (a.strapBad [5] = false) ∧
      (a.connectedOf g = [])) ∧
    (∃ (s a : State) (t : Tick) (g : GroupId), s.awake ∧ a = s.advance t ∧ (a.role g = 3) ∧ (a.strapBad [5] = false) ∧
      (a.connectedOf g ≠ []) ∧ (((a.connectedOf g).any fun n => !(a.str n).permitted || decide ((a.str n).hold ≠ 0)) = true) ∧
      (((a.connectedOf g).any fun n => decide (a.cfg 0x7000 0xE n < max (-(a.str n).amp) 0)) = false)) ∧
    (∃ (s a : State) (t : Tick) (n : StringId), s.awake ∧ a = s.advance t ∧ (a.estimates n = true) ∧ ((a.str
      n).lowDisconnected = false) ∧ (a.since (a.str n).lvdSince (a.nat 0x7010 8 n * msTicks) = true)) ∧
    (∃ (s a : State) (t : Tick) (n : StringId) (f : Nat), s.awake ∧ a = s.advance t ∧ (f = a.nat 0x7000 0xB n) ∧ (a.estimates
      n = true) ∧ ((a.str n).lowDisconnected = true) ∧ (a.since (a.str n).reconnectSince (10 * secTicks) = true) ∧ ((a.group
      (a.nat 0x7000 9 n)).relayOpen = true) ∧ (f < 24) ∧ ((a.feed f).state = .off)) :=
  ⟨⟨{ State.reset with strings := [(0, { fast := true })], obj := [(⟨0x7000, 1, 0⟩, 1)] }, _, 0, 0, 0, 0, 0, 0, ⟨rfl, rfl⟩, rfl, by decide, by decide, by decide⟩,
    ⟨{ State.reset with strings := [(0, {})], obj := [(⟨0x7000, 1, 0⟩, 1)] }, _, 0, 0, 0, 0, 0, 0, _, ⟨rfl, rfl⟩, rfl, by decide, by decide, by decide, rfl⟩,
    ⟨{ State.reset with strings := [(0, { restSince := some 0 })], obj := [(⟨0x7000, 1, 0⟩, 1)] }, _, 2560000000000000, 0, _, ⟨rfl, rfl⟩, rfl, by decide, by decide, by decide, rfl⟩,
    ⟨{ State.reset with strings := [(0, {})], obj := [(⟨0x7000, 1, 0⟩, 1)] }, _, 2560000000000000, 0, _, ⟨rfl, rfl⟩, rfl, by decide, by decide, rfl, by decide⟩,
    ⟨{ State.reset with strings := [(0, {})], obj := [(⟨0x7000, 1, 0⟩, 1)] }, _, 2560000000000000, 0, ⟨rfl, rfl⟩, rfl, by decide, by decide⟩,
    ⟨{ State.reset with strings := [(0, { hold := 3 })], obj := [(⟨0x7000, 1, 0⟩, 1)] }, _, 2560000000000000, 0, ⟨rfl, rfl⟩, rfl, by decide, by decide, by decide⟩,
    ⟨{ State.reset with strings := [(0, { permitSince := some 0 })], obj := [(⟨0x7000, 1, 0⟩, 1)] }, _, 2560000000000000, 0, ⟨rfl, rfl⟩, rfl, by decide, by decide, by decide⟩,
    ⟨{ State.reset with strings := [(0, { tailSince := some 0, tapering := true })], obj := [(⟨0x7000, 1, 0⟩, 1)] }, _, 2560000000000000, 0, _, ⟨rfl, rfl⟩, rfl, by decide, by decide, by decide, by decide, rfl⟩,
    ⟨{ State.reset with obj := [(⟨0x6000, 2, 0⟩, 3)] }, _, 0, 0, ⟨rfl, rfl⟩, rfl, by decide, by decide, by decide⟩,
    ⟨{ State.reset with feeds := [(0, { state := .on })], obj := [(⟨0x6000, 2, 0⟩, 3), (⟨0x7000, 1, 0⟩, 1), (⟨0x7000, 9, 0⟩, 0), (⟨0x7000, 0xB, 0⟩, 0)] }, _, 0, 0, ⟨rfl, rfl⟩, rfl, by decide, by decide, by decide, by decide, by decide⟩,
    ⟨{ State.reset with strings := [(0, { lvdSince := some 0 })], obj := [(⟨0x7000, 1, 0⟩, 1)] }, _, 2560000000000000, 0, ⟨rfl, rfl⟩, rfl, by decide, by decide, by decide⟩,
    ⟨{ State.reset with strings := [(0, { lowDisconnected := true, reconnectSince := some 0 })], groups := [(0, { relayOpen := true })], obj := [(⟨0x7000, 1, 0⟩, 1), (⟨0x7000, 9, 0⟩, 0), (⟨0x7000, 0xB, 0⟩, 0)] }, _, 2560000000000000, 0, 0, ⟨rfl, rfl⟩, rfl, by decide, by decide, by decide, by decide, by decide, by decide, by decide⟩⟩

theorem test_hyp_BatteryCommandsComplete :
    (∃ (s a b : State) (t : Tick) (src : NodeId), s.awake ∧ a = s.advance t ∧ b = a.noted src ∧ (a.accepts src 2 false)) ∧
    (∃ (s a b : State) (t : Tick) (src : NodeId) (v : Nat), s.awake ∧ a = s.advance t ∧ b = a.noted src ∧ (a.accepts src 2
      false) ∧ (v ≠ 1)) ∧
    (∃ (s a b : State) (t : Tick) (src : NodeId) (n : StringId), s.awake ∧ a = s.advance t ∧ b = a.noted src ∧ (a.accepts src
      1 false) ∧ (b.estimates n = true) ∧ (b.holdRuns (b.nat 0x7000 9 n) = false)) ∧
    (∃ (s a b : State) (t : Tick) (src : NodeId) (n : StringId), s.awake ∧ a = s.advance t ∧ b = a.noted src ∧ (a.accepts src
      1 false) ∧ (b.estimates n = true) ∧ (b.holdRuns (b.nat 0x7000 9 n) = true)) ∧
    (∃ (s a b : State) (t : Tick) (src : NodeId) (n : StringId), s.awake ∧ a = s.advance t ∧ b = a.noted src ∧ (a.accepts src
      1 false) ∧ (b.estimates n = true) ∧ (b.holdRuns (b.nat 0x7000 9 n) = true) ∧ (b.testRuns (b.nat 0x7000 9 n) = false)) ∧
    (∃ (s a b : State) (t : Tick) (src : NodeId) (n : StringId), s.awake ∧ a = s.advance t ∧ b = a.noted src ∧ (a.accepts src
      1 false) ∧ (b.estimates n = true) ∧ (b.holdRuns (b.nat 0x7000 9 n) = false) ∧ (b.testReady (b.nat 0x7000 9 n) = true)) ∧
    (∃ (s a b : State) (t : Tick) (src : NodeId) (n : StringId), s.awake ∧ a = s.advance t ∧ b = a.noted src ∧ (a.accepts src
      1 false) ∧ (b.estimates n = true) ∧ (b.holdRuns (b.nat 0x7000 9 n) = false) ∧ (b.testReady (b.nat 0x7000 9 n) = false)) ∧
    (∃ (s a b : State) (t : Tick) (src : NodeId) (n : StringId), s.awake ∧ a = s.advance t ∧ b = a.noted src ∧ (a.accepts src
      1 false) ∧ (b.estimates n = true) ∧ (b.testRuns (b.nat 0x7000 9 n) = true)) :=
  ⟨⟨State.reset, _, _, 0, 0, ⟨rfl, rfl⟩, rfl, rfl, ⟨⟨by decide, by decide⟩, Or.inl rfl, by decide⟩⟩,
    ⟨State.reset, _, _, 0, 0, 0, ⟨rfl, rfl⟩, rfl, rfl, ⟨⟨by decide, by decide⟩, Or.inl rfl, by decide⟩, by decide⟩,
    ⟨{ State.reset with strings := [(0, {})], obj := [(⟨0x7000, 1, 0⟩, 1)] }, _, _, 0, 0, 0, ⟨rfl, rfl⟩, rfl, rfl, ⟨⟨by decide, by decide⟩, Or.inl rfl, by decide⟩, by decide, by decide⟩,
    ⟨{ State.reset with strings := [(0, { hold := 3 })], obj := [(⟨0x7000, 1, 0⟩, 1)] }, _, _, 0, 0, 0, ⟨rfl, rfl⟩, rfl, rfl, ⟨⟨by decide, by decide⟩, Or.inl rfl, by decide⟩, by decide, by decide⟩,
    ⟨{ State.reset with strings := [(0, { hold := 3 })], obj := [(⟨0x7000, 1, 0⟩, 1)] }, _, _, 0, 0, 0, ⟨rfl, rfl⟩, rfl, rfl, ⟨⟨by decide, by decide⟩, Or.inl rfl, by decide⟩, by decide, by decide, by decide⟩,
    ⟨{ State.reset with strings := [(0, { countState := 0 })], obj := [(⟨0x7000, 1, 0⟩, 1), (⟨0x7120, 9, 0⟩, 0)] }, _, _, 0, 0, 0, ⟨rfl, rfl⟩, rfl, rfl, ⟨⟨by decide, by decide⟩, Or.inl rfl, by decide⟩, by decide, by decide, by decide⟩,
    ⟨{ State.reset with strings := [(0, {})], obj := [(⟨0x7000, 1, 0⟩, 1)] }, _, _, 0, 0, 0, ⟨rfl, rfl⟩, rfl, rfl, ⟨⟨by decide, by decide⟩, Or.inl rfl, by decide⟩, by decide, by decide, by decide⟩,
    ⟨{ State.reset with strings := [(0, { hold := 4 })], obj := [(⟨0x7000, 1, 0⟩, 1)] }, _, _, 0, 0, 0, ⟨rfl, rfl⟩, rfl, rfl, ⟨⟨by decide, by decide⟩, Or.inl rfl, by decide⟩, by decide, by decide⟩⟩

theorem test_hyp_TrackersComplete :
    (∃ (s a : State) (t : Tick) (ph : PhaseId) (rising : Bool) (rms : Nat), s.awake ∧ a = s.advance t ∧ (a.nat (0x2200 + ph) 7
      0 < 100)) ∧
    (∃ (s a : State) (t : Tick) (ph : PhaseId) (rising : Bool) (rms : Nat), s.awake ∧ a = s.advance t ∧ (100 ≤ a.nat (0x2200 +
      ph) 7 0)) ∧
    (∃ (s a : State) (t : Tick) (ph : PhaseId) (rms : Nat) (u : State), s.awake ∧ a = s.advance t ∧ (a.halfOverdue ph = true)
      ∧ (u = (a.put (0x2200 + ph) 4 0 (min rms (a.nat (0x2200 + ph) 7 0))).invalidHalf ph)) ∧
    (∃ (s a : State) (t : Tick) (ph : PhaseId), s.awake ∧ a = s.advance t ∧ (a.mainsState ph = 3) ∧ ((a.mainsT ph).entered +
      10 * (a.mainsT ph).period ≤ a.now)) ∧
    (∃ (s a : State) (t : Tick), s.awake ∧ a = s.advance t ∧ (a.frameState = 0)) ∧
    (∃ (s a : State) (t : Tick), s.awake ∧ a = s.advance t ∧ (a.frameState = 1)) ∧
    (∃ (s a : State) (t : Tick), s.awake ∧ a = s.advance t ∧ (a.frameState = 2 ∨ a.frameState = 3) ∧ (a.strobeDeviation a.now
      ≤ nsUnits 2000)) ∧
    (∃ (s a : State) (t : Tick), s.awake ∧ a = s.advance t ∧ (a.frameState = 2 ∨ a.frameState = 3) ∧ (nsUnits 2000 <
      a.strobeDeviation a.now)) ∧
    (∃ (s a : State) (t : Tick), s.awake ∧ a = s.advance t ∧ (a.frameState = 4)) ∧
    (∃ (s a : State) (t : Tick) (u : State), s.awake ∧ a = s.advance t ∧ (a.frameState = 3) ∧ (a.frame.expect * a.framePeriod
      + nsUnits 2000 < (a.now - a.frame.alignAt) * stepUnits) ∧ (u = (a.bump 0x2210 0xB 0).setFrame
      { a.frame with expect := a.frame.expect + 1, blockStart := none })) ∧
    (∃ (s a : State) (t : Tick) (u : State), s.awake ∧ a = s.advance t ∧ (a.frameState = 2) ∧ (a.frame.expect * a.framePeriod
      + nsUnits 2000 < (a.now - a.frame.alignAt) * stepUnits) ∧ (u = (a.bump 0x2210 0xB 0).setFrame
      { a.frame with expect := a.frame.expect + 1, blockStart := none }) ∧ (u.nat 0x2210 9 0 ≤ u.nat 0x2210 0xB 0)) ∧
    (∃ (s a : State) (t : Tick), s.awake ∧ a = s.advance t ∧ (0 < a.nat 0x2210 3 0) ∧ (a.guardBeyond = true) ∧
      (a.frame.suspended = false)) ∧
    (∃ (s a : State) (t : Tick) (at? : Tick), s.awake ∧ a = s.advance t ∧ (a.cfg 0x2211 1 0 = 1) ∧ (a.frame.ppsAt = some at?)) ∧
    (∃ (s a : State) (t : Tick), s.awake ∧ a = s.advance t ∧ (a.cfg 0x2211 1 0 = 1) ∧ (a.frame.ppsAt = none)) ∧
    (∃ (s a : State) (t : Tick), s.awake ∧ a = s.advance t ∧ (a.cfg 0x2211 1 0 = 1) ∧ (a.frame.ppsNoted = false) ∧ (a.since
      a.frame.ppsFrom (3 * secTicks) = true)) ∧
    (∃ (s a : State) (t : Tick) (u v : State), s.awake ∧ a = s.advance t ∧ (2 ≤ a.frameState) ∧ (a.frame.boundaryCycle <
      a.frameCycle a.now) ∧ (u = (if a.frame.learnWait = 0 then a.learnFrame else a)) ∧ (u.frame.discardLeft = none) ∧ (v =
      u.setFrame
      { u.frame with boundaryCycle := u.frameCycle u.now, learnWait := u.frame.learnWait - 1, discarded := u.frame.discarded, discardLeft := none })) ∧
    (∃ (s a : State) (t : Tick) (src : NodeId), s.awake ∧ a = s.advance t ∧ (a.accepts src 2 false)) ∧
    (∃ (s a : State) (t : Tick) (src : NodeId) (v : Nat), s.awake ∧ a = s.advance t ∧ (a.accepts src 2 false) ∧ (v ≠ 1)) :=
  ⟨⟨{ State.reset with obj := [(⟨0x2200, 7, 0⟩, 99)] }, _, 0, 0, true, 2300, ⟨rfl, rfl⟩, rfl, by decide⟩,
    ⟨{ State.reset with obj := [(⟨0x2200, 7, 0⟩, 100)] }, _, 0, 0, true, 2300, ⟨rfl, rfl⟩, rfl, by decide⟩,
    ⟨{ State.reset with mains := [(0, { opened := some 0 })], obj := [(⟨0x2200, 1, 0⟩, 2)] }, _, 25600000000000, 0, 0, _, ⟨rfl, rfl⟩, rfl, by decide, rfl⟩,
    ⟨{ State.reset with obj := [(⟨0x2200, 1, 0⟩, 3)] }, _, 25600000000000, 0, ⟨rfl, rfl⟩, rfl, by decide, by decide⟩,
    ⟨State.reset, _, 0, ⟨rfl, rfl⟩, rfl, by decide⟩,
    ⟨{ State.reset with obj := [(⟨0x2210, 1, 0⟩, 1)] }, _, 0, ⟨rfl, rfl⟩, rfl, by decide⟩,
    ⟨{ State.reset with obj := [(⟨0x2210, 1, 0⟩, 2)] }, _, 0, ⟨rfl, rfl⟩, rfl, by decide, by decide⟩,
    ⟨{ State.reset with obj := [(⟨0x2210, 1, 0⟩, 2), (⟨0x2210, 3, 0⟩, 42949672960000000)] }, _, 25600000, ⟨rfl, rfl⟩, rfl, by decide, by decide⟩,
    ⟨{ State.reset with obj := [(⟨0x2210, 1, 0⟩, 4)] }, _, 0, ⟨rfl, rfl⟩, rfl, by decide⟩,
    ⟨{ State.reset with obj := [(⟨0x2210, 1, 0⟩, 3)] }, _, 25600000000000, _, ⟨rfl, rfl⟩, rfl, by decide, by decide, rfl⟩,
    ⟨{ State.reset with obj := [(⟨0x2210, 1, 0⟩, 2), (⟨0x2210, 0xB, 0⟩, 100)] }, _, 25600000000000, _, ⟨rfl, rfl⟩, rfl, by decide, by decide, rfl, by decide⟩,
    ⟨{ State.reset with obj := [(⟨0x2210, 3, 0⟩, 1)], frame := { guard0 := 1 } }, _, 0, ⟨rfl, rfl⟩, rfl, by decide, by decide, by decide⟩,
    ⟨{ State.reset with obj := [(⟨0x2211, 1, 0⟩, 1)], frame := { ppsAt := some 0 } }, _, 25600000000, 0, ⟨rfl, rfl⟩, rfl, by decide, by decide⟩,
    ⟨{ State.reset with obj := [(⟨0x2211, 1, 0⟩, 1)] }, _, 0, ⟨rfl, rfl⟩, rfl, by decide, by decide⟩,
    ⟨{ State.reset with obj := [(⟨0x2211, 1, 0⟩, 1)], frame := { ppsFrom := some 0 } }, _, 76800000000, ⟨rfl, rfl⟩, rfl, by decide, by decide, by decide⟩,
    ⟨{ State.reset with obj := [(⟨0x2210, 1, 0⟩, 2)], frame := { learnWait := 1 } }, _, 25600000000000, _, _, ⟨rfl, rfl⟩, rfl, by decide, by decide, rfl, by decide, rfl⟩,
    ⟨State.reset, _, 0, 0, ⟨rfl, rfl⟩, rfl, ⟨⟨by decide, by decide⟩, Or.inl rfl, by decide⟩⟩,
    ⟨State.reset, _, 0, 0, 0, ⟨rfl, rfl⟩, rfl, ⟨⟨by decide, by decide⟩, Or.inl rfl, by decide⟩, by decide⟩⟩

theorem test_hyp_ThermalCommandsComplete :
    (∃ (s a : State) (t : Tick) (rs : List (TempId × TempReading)) (u v : State), s.awake ∧ a = s.advance t ∧ (u = rs.foldl
      (fun s r => s.sampleTemp r.1 r.2) a) ∧ (v = (List.range 48).foldl (fun s i => if (s.sinkOf i).any s.sinkOn then s else
      s.put 0x2411 1 i (if s.nat 0x2411 3 i = 2 ∨ s.nat 0x2411 3 i = 3 ∨ s.nat 0x2411 3 i = 4 then 0x7FFF else s.cfg 0x2411 2
      i)) u)) ∧
    (∃ (s a : State) (t : Tick) (i : TempId) (h : Nat), s.awake ∧ a = s.advance t ∧ (a.sinkOf i = some h) ∧ (a.sinkOn h =
      true) ∧ (3 ≤ (a.validSensors h).length) ∧ (a.nat 0x2411 3 i = 0) ∧ (a.since (a.tempIn i).deviates (a.nat (0x2400 + h)
      0x15 0 * secTicks) = true)) ∧
    (∃ (s a : State) (t : Tick) (h : SinkId) (nets : List CellId), s.awake ∧ a = s.advance t ∧ (∀ p ∈ (a.sink h).stops, p.1 ≤
      a.now → ∀ c ∈ p.2, (nets.any fun n => decide (n.val = c)) = false ∧ ((a.cell c).state = .idle ∨ (a.cell c).state =
      .fault))) ∧
    (∃ (s a : State) (t : Tick) (h : SinkId) (nets : List CellId) (by' : Tick) (c : Nat) (u : State), s.awake ∧ a = s.advance
      t ∧ ((a.sink h).stops = [(by', [c])]) ∧ (by' ≤ a.now) ∧ (c < 128) ∧ ((a.cell c).state = .run ∨ (a.cell c).state = .stop
      ∨ (∃ n ∈ nets, n.val = c)) ∧ (u = a.setSink h { a.sink h with stops := [] })) ∧
    (∃ (s a : State) (t : Tick) (k : BlockId) (v : Nat) (u : State), s.awake ∧ a = s.advance t ∧ (((16 * v : Nat) : Int) <
      a.cfg 0x4030 4 k) ∧ ((a.driver k).low = 1) ∧ (u = (a.setDriver k { a.driver k with low := 2 }).put 0x4030 3 k ((16 * v :
      Nat) : Int)) ∧ (a.cfg 0x4030 1 k ≠ 1) ∧ (u.blockAtRest k = false)) ∧
    (∃ (s a : State) (t : Tick) (k : BlockId) (v : Nat) (u : State), s.awake ∧ a = s.advance t ∧ (((16 * v : Nat) : Int) <
      a.cfg 0x4030 4 k) ∧ (u = (a.setDriver k { a.driver k with low := min 2 ((a.driver k).low + 1) }).put 0x4030 3 k ((16 * v
      : Nat) : Int)) ∧ (a.cfg 0x4030 1 k ≠ 1) ∧ ((a.driver k).low = 0 ∨ u.blockAtRest k = true)) ∧
    (∃ (s a : State) (t : Tick) (k : BlockId) (v : Nat), s.awake ∧ a = s.advance t ∧ (a.cfg 0x4030 4 k ≤ ((16 * v : Nat) :
      Int)) ∧ (a.cfg 0x4030 1 k ≠ 1)) ∧
    (∃ (s a : State) (t : Tick) (k : BlockId) (u : State), s.awake ∧ a = s.advance t ∧ (a.cfg 0x4030 1 k = 1) ∧ (a.cfg 0x4030
      6 k = 3) ∧ (a.since (a.driver k).goodSince (10 * msTicks) = true) ∧ (u = ((a.put 0x4030 1 k 0).put 0x4030 6 k 0).put
      0x4030 7 k 0)) ∧
    (∃ (s a : State) (t : Tick) (l : List Int) (hot : Nat) (u v w : State), s.awake ∧ a = s.advance t ∧ (u = (List.range
      4).foldl (fun s r => s.sampleDie r (l.getD (2 * r) (s.cfg 0x3010 1 r)) (l.getD (2 * r + 1) (s.cfg 0x3010 2 r))) a) ∧
      (u.run.highestDie = none) ∧ (v = (u.setRun { u.run with highestDie := some u.dieNow }).put 0x2420 2 0 u.dieNow) ∧ (hot =
      ((List.range 4).find? fun r => decide (v.cfg 0x3010 1 r = u.dieNow ∨ v.cfg 0x3010 2 r = u.dieNow)).getD 0) ∧
      (v.run.dieArmed = true) ∧ (v.cfg 0x2420 1 0 ≤ u.dieNow) ∧ (w = ((v.setRun { v.run with dieArmed := false }).raise
      { ev 0x3106 hot with value := u.dieNow, limit := v.cfg 0x2420 1 0 }).countCool) ∧ ((List.range 4).find? (fun r =>
      w.dieTooHot r && !a.dieTooHot r) = none)) ∧
    (∃ (s a : State) (t : Tick) (l : List Int) (r h : Nat) (u v : State), s.awake ∧ a = s.advance t ∧ (u = (List.range
      4).foldl (fun s r => s.sampleDie r (l.getD (2 * r) (s.cfg 0x3010 1 r)) (l.getD (2 * r + 1) (s.cfg 0x3010 2 r))) a) ∧
      (u.run.highestDie = some (h : Int)) ∧ (v = ((u.setRun { u.run with highestDie := some (max (h : Int) u.dieNow) }).put
      0x2420 2 0 (max (h : Int) u.dieNow))) ∧ (v.run.dieArmed = false) ∧ (v.cfg 0x2420 1 0 - 50 < u.dieNow) ∧ ((List.range
      4).find? (fun r => v.countCool.dieTooHot r && !a.dieTooHot r) = some r)) ∧
    (∃ (s a : State) (t : Tick) (r : RegionId), s.awake ∧ a = s.advance t ∧ ((a.die r).standing = false) ∧ (a.since (a.die
      r).apartSince (10 * secTicks) = true)) ∧
    (∃ (s a : State) (t : Tick) (r : RegionId), s.awake ∧ a = s.advance t ∧ ((a.die r).standing = true) ∧ (a.since (a.die
      r).closeSince (10 * secTicks) = true)) :=
  ⟨⟨State.reset, _, 0, [], _, _, ⟨rfl, rfl⟩, rfl, rfl, rfl⟩,
    ⟨{ State.reset with temps := [(0, { deviates := some 0 })], obj := [(⟨0x2400, 1, 0⟩, 0), (⟨0x2400, 2, 0⟩, 1), (⟨0x2400, 3, 0⟩, 2), (⟨0x2400, 0x17, 0⟩, 1), (⟨0x2411, 3, 0⟩, 0), (⟨0x2411, 3, 1⟩, 0), (⟨0x2411, 3, 2⟩, 0)] }, _, 256000000000000, 0, 0, ⟨rfl, rfl⟩, rfl, by decide, by decide, by decide, by decide, by decide⟩,
    ⟨State.reset, _, 0, 0, [], ⟨rfl, rfl⟩, rfl, by decide⟩,
    ⟨{ State.reset with sinks := [(0, { stops := [(0, [5])] })] }, _, 0, 0, [5], 0, 5, _, ⟨rfl, rfl⟩, rfl, by decide, by decide, by decide, Or.inr (Or.inr ⟨5, by decide, rfl⟩), rfl⟩,
    ⟨{ State.reset with cells := [(0, { state := .run })], drivers := [(0, { low := 1 })], obj := [(⟨0x4030, 4, 0⟩, 9000)] }, _, 0, 0, 0, _, ⟨rfl, rfl⟩, rfl, by decide, by decide, rfl, by decide, by decide⟩,
    ⟨{ State.reset with obj := [(⟨0x4030, 4, 0⟩, 9000)] }, _, 0, 0, 0, _, ⟨rfl, rfl⟩, rfl, by decide, rfl, by decide, Or.inl rfl⟩,
    ⟨State.reset, _, 0, 0, 1000, ⟨rfl, rfl⟩, rfl, by decide, by decide⟩,
    ⟨{ State.reset with drivers := [(0, { goodSince := some 0 })], obj := [(⟨0x4030, 1, 0⟩, 1), (⟨0x4030, 6, 0⟩, 3)] }, _, 256000000, 0, _, ⟨rfl, rfl⟩, rfl, by decide, by decide, by decide, rfl⟩,
    ⟨{ State.reset with obj := [(⟨0x2420, 1, 0⟩, 1000)] }, _, 0, [1100, 1100], 0, _, _, _, ⟨rfl, rfl⟩, rfl, rfl, by decide, rfl, by decide, by decide, by decide, rfl, by decide⟩,
    ⟨{ State.reset with dies := [(0, { bothOver := 3, firstOver := 3, secondOver := 3 })], run := { highestDie := some 1300, dieArmed := false } }, _, 0, [1300, 1300], 0, 1300, _, _, ⟨rfl, rfl⟩, rfl, rfl, by decide, rfl, by decide, by decide, by decide⟩,
    ⟨{ State.reset with dies := [(0, { apartSince := some 0 })] }, _, 256000000000, 0, ⟨rfl, rfl⟩, rfl, by decide, by decide⟩,
    ⟨{ State.reset with dies := [(0, { standing := true, closeSince := some 0 })] }, _, 256000000000, 0, ⟨rfl, rfl⟩, rfl, by decide, by decide⟩⟩

theorem test_hyp_StepsExecuteByTheirOpcode :
    (∃ (s a : State) (t : Tick) (e : SlotId) (w : Nat) (u : State), s.awake ∧ a = s.advance t ∧ (a.stepRuns e 0 w u)) ∧
    (∃ (s a : State) (t : Tick) (e : SlotId) (w : Nat) (u : State), s.awake ∧ a = s.advance t ∧ (a.stepRuns e 1 w u)) ∧
    (∃ (s a : State) (t : Tick) (e : SlotId) (w : Nat) (u : State), s.awake ∧ a = s.advance t ∧ (a.stepRuns e 2 w u)) ∧
    (∃ (s a : State) (t : Tick) (e : SlotId) (n : Nat) (w : Nat) (u : State), s.awake ∧ a = s.advance t ∧ (a.stepRuns e 3 w u)
      ∧ (n = argOf w % 0x20000 * waitUnit (argOf w / 0x20000)) ∧ (n ≠ 0)) ∧
    (∃ (s a : State) (t : Tick) (e : SlotId) (w : Nat) (u : State), s.awake ∧ a = s.advance t ∧ (a.stepRuns e 3 w u) ∧ (argOf
      w % 0x20000 * waitUnit (argOf w / 0x20000) = 0)) ∧
    (∃ (s a : State) (t : Tick) (e : SlotId) (w : Nat) (u : State), s.awake ∧ a = s.advance t ∧ (a.stepRuns e 4 w u) ∧
      (u.levelReached w = true)) ∧
    (∃ (s a : State) (t : Tick) (e : SlotId) (w : Nat) (u : State), s.awake ∧ a = s.advance t ∧ (a.stepRuns e 4 w u) ∧
      (u.levelReached w = false)) ∧
    (∃ (s a : State) (t : Tick) (e : SlotId) (w : Nat) (u : State), s.awake ∧ a = s.advance t ∧ (a.stepRuns e 5 w u) ∧
      (u.flagAt (targetOf w) = decide (argOf w / 0x80000 % 2 = 0))) ∧
    (∃ (s a : State) (t : Tick) (e : SlotId) (w : Nat) (u : State), s.awake ∧ a = s.advance t ∧ (a.stepRuns e 5 w u) ∧
      (u.flagAt (targetOf w) ≠ decide (argOf w / 0x80000 % 2 = 0))) ∧
    (∃ (s a : State) (t : Tick) (e : SlotId) (w : Nat) (u : State), s.awake ∧ a = s.advance t ∧ (a.stepRuns e 6 w u)) ∧
    (∃ (s a : State) (t : Tick) (e : SlotId) (w : Nat) (u : State), s.awake ∧ a = s.advance t ∧ (a.stepRuns e 7 w u)) :=
  ⟨⟨{ State.reset with progSlots := [(0, { program := some 0 })], obj := [(⟨0x2600, 1, 0⟩, 0), (⟨0x2610, 1, 0⟩, 0), (⟨0x2610, 2, 0⟩, 4)] }, _, 2560, 0, 0, _, ⟨rfl, rfl⟩, rfl, ⟨by decide, by decide, by decide, by decide, rfl⟩⟩,
    ⟨{ State.reset with progSlots := [(0, { program := some 0 })], obj := [(⟨0x2600, 1, 0⟩, 268435456), (⟨0x2610, 1, 0⟩, 0), (⟨0x2610, 2, 0⟩, 4)] }, _, 2560, 0, 268435456, _, ⟨rfl, rfl⟩, rfl, ⟨by decide, by decide, by decide, by decide, rfl⟩⟩,
    ⟨{ State.reset with progSlots := [(0, { program := some 0 })], obj := [(⟨0x2600, 1, 0⟩, 536870912), (⟨0x2610, 1, 0⟩, 0), (⟨0x2610, 2, 0⟩, 4)] }, _, 2560, 0, 536870912, _, ⟨rfl, rfl⟩, rfl, ⟨by decide, by decide, by decide, by decide, rfl⟩⟩,
    ⟨{ State.reset with progSlots := [(0, { program := some 0 })], obj := [(⟨0x2600, 1, 0⟩, 805306369), (⟨0x2610, 1, 0⟩, 0), (⟨0x2610, 2, 0⟩, 4)] }, _, 2560, 0, 256000, 805306369, _, ⟨rfl, rfl⟩, rfl, ⟨by decide, by decide, by decide, by decide, rfl⟩, by decide, by decide⟩,
    ⟨{ State.reset with progSlots := [(0, { program := some 0 })], obj := [(⟨0x2600, 1, 0⟩, 805306368), (⟨0x2610, 1, 0⟩, 0), (⟨0x2610, 2, 0⟩, 4)] }, _, 2560, 0, 805306368, _, ⟨rfl, rfl⟩, rfl, ⟨by decide, by decide, by decide, by decide, rfl⟩, by decide⟩,
    ⟨{ State.reset with progSlots := [(0, { program := some 0 })], obj := [(⟨0x2600, 1, 0⟩, 1073741824), (⟨0x2610, 1, 0⟩, 0), (⟨0x2610, 2, 0⟩, 4)] }, _, 2560, 0, 1073741824, _, ⟨rfl, rfl⟩, rfl, ⟨by decide, by decide, by decide, by decide, rfl⟩, by decide⟩,
    ⟨{ State.reset with progSlots := [(0, { program := some 0 })], obj := [(⟨0x2600, 1, 0⟩, 1074268160), (⟨0x2610, 1, 0⟩, 0), (⟨0x2610, 2, 0⟩, 4)] }, _, 2560, 0, 1074268160, _, ⟨rfl, rfl⟩, rfl, ⟨by decide, by decide, by decide, by decide, rfl⟩, by decide⟩,
    ⟨{ State.reset with progSlots := [(0, { program := some 0 })], obj := [(⟨0x2600, 1, 0⟩, 1342701568), (⟨0x2610, 1, 0⟩, 0), (⟨0x2610, 2, 0⟩, 4)] }, _, 2560, 0, 1342701568, _, ⟨rfl, rfl⟩, rfl, ⟨by decide, by decide, by decide, by decide, rfl⟩, by decide⟩,
    ⟨{ State.reset with progSlots := [(0, { program := some 0 })], obj := [(⟨0x2600, 1, 0⟩, 1342177280), (⟨0x2610, 1, 0⟩, 0), (⟨0x2610, 2, 0⟩, 4)] }, _, 2560, 0, 1342177280, _, ⟨rfl, rfl⟩, rfl, ⟨by decide, by decide, by decide, by decide, rfl⟩, by decide⟩,
    ⟨{ State.reset with progSlots := [(0, { program := some 0 })], obj := [(⟨0x2600, 1, 0⟩, 1610612736), (⟨0x2610, 1, 0⟩, 0), (⟨0x2610, 2, 0⟩, 4)] }, _, 2560, 0, 1610612736, _, ⟨rfl, rfl⟩, rfl, ⟨by decide, by decide, by decide, by decide, rfl⟩⟩,
    ⟨{ State.reset with progSlots := [(0, { program := some 0 })], obj := [(⟨0x2600, 1, 0⟩, 1879048192), (⟨0x2610, 1, 0⟩, 0), (⟨0x2610, 2, 0⟩, 4)] }, _, 2560, 0, 1879048192, _, ⟨rfl, rfl⟩, rfl, ⟨by decide, by decide, by decide, by decide, rfl⟩⟩⟩

theorem test_hyp_WaitsOfProgramsComplete :
    (∃ (s a : State) (t : Tick) (e : SlotId) (w : Nat) (d : Tick), s.awake ∧ a = s.advance t ∧ ((a.progSlot e).waitEnd = some
      d) ∧ (d ≤ a.now) ∧ (w = a.stepWord (a.progSlot e).addr) ∧ (opOf w = 3)) ∧
    (∃ (s a : State) (t : Tick) (e : SlotId) (w : Nat) (d : Tick), s.awake ∧ a = s.advance t ∧ ((a.progSlot e).waitEnd = some
      d) ∧ (w = a.stepWord (a.progSlot e).addr) ∧ (opOf w = 4) ∧ (a.levelReached w = true)) ∧
    (∃ (s a : State) (t : Tick) (e : SlotId) (w : Nat) (d : Tick), s.awake ∧ a = s.advance t ∧ ((a.progSlot e).waitEnd = some
      d) ∧ (d ≤ a.now) ∧ (w = a.stepWord (a.progSlot e).addr) ∧ (opOf w = 4) ∧ (a.levelReached w = false) ∧ (argOf w / 0x40000
      % 2 = 1)) ∧
    (∃ (s a : State) (t : Tick) (e : SlotId) (w : Nat) (d : Tick), s.awake ∧ a = s.advance t ∧ ((a.progSlot e).waitEnd = some
      d) ∧ (d ≤ a.now) ∧ (w = a.stepWord (a.progSlot e).addr) ∧ (opOf w = 4) ∧ (a.levelReached w = false) ∧ (argOf w / 0x40000
      % 2 ≠ 1)) :=
  ⟨⟨{ State.reset with progSlots := [(0, { program := some 0, waitEnd := some 0 })], obj := [(⟨0x2600, 1, 0⟩, 805306369), (⟨0x2610, 1, 0⟩, 0), (⟨0x2610, 2, 0⟩, 4)] }, _, 0, 0, 805306369, 0, ⟨rfl, rfl⟩, rfl, by decide, by decide, by decide, by decide⟩,
    ⟨{ State.reset with progSlots := [(0, { program := some 0, waitEnd := some 0 })], obj := [(⟨0x2600, 1, 0⟩, 1073741824), (⟨0x2610, 1, 0⟩, 0), (⟨0x2610, 2, 0⟩, 4)] }, _, 0, 0, 1073741824, 0, ⟨rfl, rfl⟩, rfl, by decide, by decide, by decide, by decide⟩,
    ⟨{ State.reset with progSlots := [(0, { program := some 0, waitEnd := some 0 })], obj := [(⟨0x2600, 1, 0⟩, 1074528256), (⟨0x2610, 1, 0⟩, 0), (⟨0x2610, 2, 0⟩, 4)] }, _, 0, 0, 1074528256, 0, ⟨rfl, rfl⟩, rfl, by decide, by decide, by decide, by decide, by decide, by decide⟩,
    ⟨{ State.reset with progSlots := [(0, { program := some 0, waitEnd := some 0 })], obj := [(⟨0x2600, 1, 0⟩, 1074266112), (⟨0x2610, 1, 0⟩, 0), (⟨0x2610, 2, 0⟩, 4)] }, _, 0, 0, 1074266112, 0, ⟨rfl, rfl⟩, rfl, by decide, by decide, by decide, by decide, by decide, by decide⟩⟩

theorem test_hyp_ChannelsInputsAndProgramsComplete :
    (∃ (s a : State) (t : Tick) (src : NodeId) (n : SeqId), s.awake ∧ a = s.advance t ∧ (a.accepts src 1 false) ∧ ((a.noted
      src).guards n = []) ∧ (((a.noted src).seq n).held = false)) ∧
    (∃ (s a : State) (t : Tick) (src : NodeId) (n : SeqId), s.awake ∧ a = s.advance t ∧ (a.accepts src 1 false) ∧ ((a.noted
      src).guards n = []) ∧ (((a.noted src).seq n).held = false)) ∧
    (∃ (s a : State) (t : Tick) (src : NodeId) (n : SeqId), s.awake ∧ a = s.advance t ∧ (a.accepts src 1 false) ∧ (((a.noted
      src).seq n).held = true)) ∧
    (∃ (s a : State) (t : Tick) (src : NodeId) (n : SeqId), s.awake ∧ a = s.advance t ∧ (a.accepts src 1 false) ∧ (((a.noted
      src).seq n).held = false) ∧ ((a.noted src).guards n ≠ [])) ∧
    (∃ (s a : State) (t : Tick) (n : SeqId), s.awake ∧ a = s.advance t ∧ (a.pgActive n = true) ∧ (a.pgSteady n = true) ∧
      ((a.seq n).flag = false)) ∧
    (∃ (s a : State) (t : Tick) (n : SeqId) (u : State), s.awake ∧ a = s.advance t ∧ ((a.seq n).pgMode ≠ 0) ∧ (a.pgActive n =
      false) ∧ (a.pgSteady n = true) ∧ ((a.seq n).flag = true) ∧ (u = a.setSeq n { a.seq n with flag := false }) ∧ (((a.seq
      n).commanded && !(a.seq n).held && (a.seq n).flagSeen && !u.inReleaseSet n) = true)) ∧
    (∃ (s a : State) (t : Tick) (n : SeqId) (u : State), s.awake ∧ a = s.advance t ∧ ((a.seq n).pgMode ≠ 0) ∧ (a.pgActive n =
      false) ∧ (a.pgSteady n = true) ∧ ((a.seq n).flag = true) ∧ (u = a.setSeq n { a.seq n with flag := false }) ∧ (((a.seq
      n).commanded && !(a.seq n).held && (a.seq n).flagSeen && !u.inReleaseSet n) = false)) ∧
    (∃ (s a : State) (t : Tick) (u v : State), s.awake ∧ a = s.advance t ∧ (u = a.trackInputs) ∧ (u.cfg 0x2510 6 0 = 0) ∧
      (u.since u.mainsPart (u.nat 0x2510 5 0 * msTicks) = true ∨ u.since u.feedPart (u.nat 0x2510 5 0 * msTicks) = true) ∧ (v
      = u.put 0x2510 6 0 1)) ∧
    (∃ (s a : State) (t : Tick) (u v w : State), s.awake ∧ a = s.advance t ∧ (u = a.trackInputs) ∧ (u.cfg 0x2510 6 0 = 1) ∧
      (u.since u.noPart (u.nat 0x2510 4 0 * msTicks) = true) ∧ (v = u.put 0x2510 6 0 0) ∧ (w = (List.range 16).foldl (fun s e
      => if (s.progSlot e).program.any (s.hasTrigger · 2) then s.endProgram e 5 else s) v)) ∧
    (∃ (s a : State) (t : Tick) (src : NodeId) (p : ProgId) (u : State), s.awake ∧ a = s.advance t ∧ (a.accepts src 1 false) ∧
      (u = (a.noted src).startProgram p)) ∧
    (∃ (s a : State) (t : Tick) (src : NodeId) (p : ProgId), s.awake ∧ a = s.advance t ∧ (a.accepts src 1 false)) ∧
    (∃ (s a : State) (t : Tick) (v : Nat), s.awake ∧ a = s.advance t ∧ (v < 11000)) :=
  ⟨⟨{ State.reset with obj := (List.range 16).map fun b => (⟨0x4030, 2, b⟩, 255) }, _, 0, 0, 0, ⟨rfl, rfl⟩, rfl, ⟨⟨by decide, by decide⟩, Or.inl rfl, by decide⟩, by decide, by decide⟩,
    ⟨{ State.reset with obj := (List.range 16).map fun b => (⟨0x4030, 2, b⟩, 255) }, _, 0, 0, 0, ⟨rfl, rfl⟩, rfl, ⟨⟨by decide, by decide⟩, Or.inl rfl, by decide⟩, by decide, by decide⟩,
    ⟨{ State.reset with seqs := [(0, { held := true })] }, _, 0, 0, 0, ⟨rfl, rfl⟩, rfl, ⟨⟨by decide, by decide⟩, Or.inl rfl, by decide⟩, by decide⟩,
    ⟨{ State.reset with obj := [(⟨0x4030, 2, 0⟩, 0)] }, _, 0, 0, 0, ⟨rfl, rfl⟩, rfl, ⟨⟨by decide, by decide⟩, Or.inl rfl, by decide⟩, by decide, by decide⟩,
    ⟨{ State.reset with seqs := [(0, { pgHigh := true, pgMode := 1, debounce := 0 })] }, _, 0, 0, ⟨rfl, rfl⟩, rfl, by decide, by decide, by decide⟩,
    ⟨{ State.reset with seqs := [(0, { pgMode := 1, debounce := 0, flag := true, flagSeen := true, commanded := true })] }, _, 0, 0, _, ⟨rfl, rfl⟩, rfl, by decide, by decide, by decide, by decide, rfl, by decide⟩,
    ⟨{ State.reset with seqs := [(0, { pgMode := 1, debounce := 0, flag := true })] }, _, 0, 0, _, ⟨rfl, rfl⟩, rfl, by decide, by decide, by decide, by decide, rfl, by decide⟩,
    ⟨{ State.reset with mainsPart := some 0, obj := [(⟨0x2510, 2, 0⟩, 0), (⟨0x2510, 5, 0⟩, 0), (⟨0x2510, 6, 0⟩, 0)] }, _, 0, _, _, ⟨rfl, rfl⟩, rfl, rfl, by decide, by decide, rfl⟩,
    ⟨{ State.reset with noPart := some 0, obj := [(⟨0x2510, 6, 0⟩, 1), (⟨0x2510, 2, 0⟩, 1), (⟨0x2510, 4, 0⟩, 0)] }, _, 0, _, _, _, ⟨rfl, rfl⟩, rfl, rfl, by decide, by decide, rfl, rfl⟩,
    ⟨State.reset, _, 0, 0, 0, _, ⟨rfl, rfl⟩, rfl, ⟨⟨by decide, by decide⟩, Or.inl rfl, by decide⟩, rfl⟩,
    ⟨State.reset, _, 0, 0, 0, ⟨rfl, rfl⟩, rfl, ⟨⟨by decide, by decide⟩, Or.inl rfl, by decide⟩⟩,
    ⟨State.reset, _, 0, 0, ⟨rfl, rfl⟩, rfl, by decide⟩⟩

theorem test_hyp_TelemetryCommandsComplete :
    (∃ (s a : State) (t : Tick) (w : WindowId), s.awake ∧ a = s.advance t ∧ (a.windowDue w = true) ∧ (w.val ≠ 3)) ∧
    (∃ (s a : State) (t : Tick) (w : WindowId) (u : State), s.awake ∧ a = s.advance t ∧ (a.windowDue w = true) ∧ (w.val = 3) ∧
      (u = (if a.windowDue 2 = true then a.closeWindows 2 else a))) ∧
    (∃ (s a : State) (t : Tick) (src : NodeId) (kind : TeleKind) (q w : Fin 4) (inst : Nat) (maximum : Bool) (u : State) (x :
      Window), s.awake ∧ a = s.advance t ∧ (inst < teleCount (teleKind kind)) ∧ (u = a.setAuth src
      { a.authRec src with lastRequest := a.now }) ∧ (x = u.window (teleKind kind) inst (4 * q.val + w.val))) ∧
    (∃ (s a : State) (t : Tick) (src : NodeId) (kind : TeleKind) (q w : Fin 4) (inst : Nat), s.awake ∧ a = s.advance t ∧
      (a.accepts src 1 false) ∧ (inst < teleCount (teleKind kind))) ∧
    (∃ (s a : State) (t : Tick) (src : NodeId) (kind : TeleKind) (q w : Fin 4) (inst v : Nat), s.awake ∧ a = s.advance t ∧
      (a.accepts src 1 false) ∧ (inst < teleCount (teleKind kind)) ∧ (v ≠ 1)) ∧
    (∃ (s a : State) (t : Tick) (src : NodeId) (kind : TeleKind) (q w : Fin 4) (inst v : Nat), s.awake ∧ a = s.advance t ∧
      (a.accepts src 1 false) ∧ (teleCount (teleKind kind) ≤ inst)) ∧
    (∃ (s a : State) (t : Tick) (src : NodeId), s.awake ∧ a = s.advance t ∧ (a.accepts src 1 false)) ∧
    (∃ (s a : State) (t : Tick) (src : NodeId) (v : Nat), s.awake ∧ a = s.advance t ∧ (a.accepts src 1 false) ∧ (v ≠ 1)) :=
  ⟨⟨State.reset, _, 25600000, 0, ⟨rfl, rfl⟩, rfl, by decide, by decide⟩,
    ⟨State.reset, _, 1536000000000, 3, _, ⟨rfl, rfl⟩, rfl, by decide, by decide, rfl⟩,
    ⟨State.reset, _, 0, 0, .cell, 0, 0, 0, true, _, _, ⟨rfl, rfl⟩, rfl, by decide, rfl, rfl⟩,
    ⟨State.reset, _, 0, 0, .cell, 0, 0, 0, ⟨rfl, rfl⟩, rfl, ⟨⟨by decide, by decide⟩, Or.inl rfl, by decide⟩, by decide⟩,
    ⟨State.reset, _, 0, 0, .cell, 0, 0, 0, 0, ⟨rfl, rfl⟩, rfl, ⟨⟨by decide, by decide⟩, Or.inl rfl, by decide⟩, by decide, by decide⟩,
    ⟨State.reset, _, 0, 0, .cell, 0, 0, 1000, 0, ⟨rfl, rfl⟩, rfl, ⟨⟨by decide, by decide⟩, Or.inl rfl, by decide⟩, by decide⟩,
    ⟨State.reset, _, 0, 0, ⟨rfl, rfl⟩, rfl, ⟨⟨by decide, by decide⟩, Or.inl rfl, by decide⟩⟩,
    ⟨State.reset, _, 0, 0, 0, ⟨rfl, rfl⟩, rfl, ⟨⟨by decide, by decide⟩, Or.inl rfl, by decide⟩, by decide⟩⟩

set_option maxRecDepth 8000 in
theorem test_hyp_CaptureCommandsComplete :
    (∃ (s a : State) (t : Tick) (src : NodeId) (x : TrigId), s.awake ∧ a = s.advance t ∧ (a.accepts src 1 false) ∧ (((a.noted
      src).capture x).state = .idle)) ∧
    (∃ (s a : State) (t : Tick) (src : NodeId) (x : TrigId), s.awake ∧ a = s.advance t ∧ (a.accepts src 1 false) ∧ (((a.noted
      src).capture x).state = .armed)) ∧
    (∃ (s a : State) (t : Tick) (src : NodeId) (x : TrigId), s.awake ∧ a = s.advance t ∧ (a.accepts src 1 false) ∧ (((a.noted
      src).capture x).state = .triggered) ∧ ((a.noted src).journal.store ≠ 1)) ∧
    (∃ (s a : State) (t : Tick) (src : NodeId) (x : TrigId), s.awake ∧ a = s.advance t ∧ (a.accepts src 1 false) ∧ (((a.noted
      src).capture x).state = .triggered) ∧ ((a.noted src).journal.store = 1)) ∧
    (∃ (s a : State) (t : Tick) (src : NodeId) (x : TrigId), s.awake ∧ a = s.advance t ∧ (a.accepts src 1 false) ∧ (((a.noted
      src).capture x).state = .flushing)) ∧
    (∃ (s a : State) (t : Tick) (src : NodeId) (x : TrigId), s.awake ∧ a = s.advance t ∧ (a.accepts src 1 false)) ∧
    (∃ (s a : State) (t : Tick) (src : NodeId) (x : TrigId), s.awake ∧ a = s.advance t ∧ (a.accepts src 1 false) ∧ (((a.noted
      src).capture x).state = .armed)) ∧
    (∃ (s a : State) (t : Tick) (src : NodeId) (x : TrigId), s.awake ∧ a = s.advance t ∧ (a.accepts src 1 false) ∧ (((a.noted
      src).capture x).state ≠ .armed)) ∧
    (∃ (s a : State) (t : Tick) (x : TrigId) (c : Capture), s.awake ∧ a = s.advance t ∧ (c = a.capture x) ∧ (c.state =
      .triggered) ∧ (12000 ≤ c.after.length) ∧ (a.journal.store = 1)) ∧
    (∃ (s a : State) (t : Tick) (x : TrigId), s.awake ∧ a = s.advance t ∧ ((a.capture x).state = .flushing) ∧ ((a.capture
      x).header.isSome = true) ∧ ((a.partsLeft x).isEmpty = true) ∧ (a.cfg (0x8040 + x) 5 0 = 1)) ∧
    (∃ (s a : State) (t : Tick) (x : TrigId), s.awake ∧ a = s.advance t ∧ ((a.capture x).state = .flushing) ∧ ((a.capture
      x).header.isSome = true) ∧ ((a.partsLeft x).isEmpty = true) ∧ (a.cfg (0x8040 + x) 5 0 ≠ 1)) :=
  ⟨⟨State.reset, _, 0, 0, 0, ⟨rfl, rfl⟩, rfl, ⟨⟨by decide, by decide⟩, Or.inl rfl, by decide⟩, by decide⟩,
    ⟨{ State.reset with captures := [(0, { state := .armed })] }, _, 0, 0, 0, ⟨rfl, rfl⟩, rfl, ⟨⟨by decide, by decide⟩, Or.inl rfl, by decide⟩, by decide⟩,
    ⟨{ State.reset with captures := [(0, { state := .triggered })] }, _, 0, 0, 0, ⟨rfl, rfl⟩, rfl, ⟨⟨by decide, by decide⟩, Or.inl rfl, by decide⟩, by decide, by decide⟩,
    ⟨{ State.reset with captures := [(0, { state := .triggered })], journal := { store := 1 } }, _, 0, 0, 0, ⟨rfl, rfl⟩, rfl, ⟨⟨by decide, by decide⟩, Or.inl rfl, by decide⟩, by decide, by decide⟩,
    ⟨{ State.reset with captures := [(0, { state := .flushing })] }, _, 0, 0, 0, ⟨rfl, rfl⟩, rfl, ⟨⟨by decide, by decide⟩, Or.inl rfl, by decide⟩, by decide⟩,
    ⟨State.reset, _, 0, 0, 0, ⟨rfl, rfl⟩, rfl, ⟨⟨by decide, by decide⟩, Or.inl rfl, by decide⟩⟩,
    ⟨{ State.reset with captures := [(0, { state := .armed })] }, _, 0, 0, 0, ⟨rfl, rfl⟩, rfl, ⟨⟨by decide, by decide⟩, Or.inl rfl, by decide⟩, by decide⟩,
    ⟨State.reset, _, 0, 0, 0, ⟨rfl, rfl⟩, rfl, ⟨⟨by decide, by decide⟩, Or.inl rfl, by decide⟩, by decide⟩,
    ⟨{ State.reset with captures := [(0, { state := .triggered, after := List.replicate 12000 [] })], journal := { store := 1 } }, _, 0, 0, { state := .triggered, after := List.replicate 12000 [] }, ⟨rfl, rfl⟩, rfl, rfl, by decide, by rw [List.length_replicate], by decide⟩,
    ⟨{ State.reset with captures := [(0, { state := .flushing, header := some 1, part := 100000 })], obj := [(⟨0x8040, 5, 0⟩, 1)] }, _, 0, 0, ⟨rfl, rfl⟩, rfl, by decide, by decide, by decide, by decide⟩,
    ⟨{ State.reset with captures := [(0, { state := .flushing, header := some 1, part := 100000 })], obj := [(⟨0x8040, 5, 0⟩, 0)] }, _, 0, 0, ⟨rfl, rfl⟩, rfl, by decide, by decide, by decide, by decide⟩⟩

theorem test_hyp_JournalCommandsComplete :
    (∃ (s a : State) (t : Tick) (l : List (Nat × SlotRec)) (x : Option Nat) (j : Journal) (first : Nat), s.awake ∧ a =
      s.advance t ∧ (j = a.journal) ∧ (j.store = 1 ∧ j.page.isNone = true ∧ j.erasing.isNone = true) ∧ (a.duePage = some (l,
      x)) ∧ (first = (l.headD (0, .filler)).1) ∧ (¬ (first % 2048 = 0 ∧ j.ready ≠ some (first / 2048)))) ∧
    (∃ (s a : State) (t : Tick) (l : List (Nat × SlotRec)) (x : Option Nat) (j : Journal) (first : Nat), s.awake ∧ a =
      s.advance t ∧ (j = a.journal) ∧ (j.store = 1 ∧ j.page.isNone = true ∧ j.erasing.isNone = true) ∧ (a.duePage = some (l,
      x)) ∧ (first = (l.headD (0, .filler)).1) ∧ (first % 2048 = 0 ∧ j.ready ≠ some (first / 2048))) ∧
    (∃ (s a : State) (t : Tick) (l : List (Nat × SlotRec)) (j : Journal) (first : Nat), s.awake ∧ a = s.advance t ∧ (j =
      a.journal) ∧ (j.page = some l) ∧ (j.partOf = none) ∧ (first = (l.headD (0, .filler)).1)) ∧
    (∃ (s a : State) (t : Tick) (l : List (Nat × SlotRec)) (first : Nat) (u : State), s.awake ∧ a = s.advance t ∧
      (a.journal.page = some l) ∧ (first = (l.headD (0, .filler)).1) ∧ (u = (a.setJournal
      { a.journal with page := none, partOf := none }).retireBlock (first / 2048))) ∧
    (∃ (s a : State) (t : Tick) (blk head : Nat), s.awake ∧ a = s.advance t ∧ (a.journal.erasing = some blk) ∧ (head = (match
      a.journal.queue with | q :: _ => q.slot | [] => a.journal.next))) ∧
    (∃ (s a : State) (t : Tick) (blk head : Nat) (u : State), s.awake ∧ a = s.advance t ∧ (a.journal.erasing = some blk) ∧
      (head = (match a.journal.queue with | q :: _ => q.slot | [] => a.journal.next)) ∧ (u = (a.setJournal
      { a.journal with erasing := none }).retireBlock blk) ∧ (u.journal.store = 1)) ∧
    (∃ (s a : State) (t : Tick) (src : NodeId) (n : Nat), s.awake ∧ a = s.advance t ∧ (a.accepts src 1 false) ∧ (n <
      0x100000000)) ∧
    (∃ (s a : State) (t : Tick) (src : NodeId) (n : Nat), s.awake ∧ a = s.advance t ∧ (a.accepts src 1 false) ∧ (0x100000000 ≤
      n)) ∧
    (∃ (s a : State) (t : Tick) (n : Nat) (at? : Tick), s.awake ∧ a = s.advance t ∧ (a.journal.search = some (n, at?))) :=
  ⟨⟨{ State.reset with journal := { store := 1, ready := some 0, queue := [⟨0, ⟨1, 0, 0, 1, 1, 0, 0, 0, 0, []⟩, 0⟩] } }, _, 256000000, (List.range 32).map fun k => (k, if k = 0 then .record ⟨1, 0, 0, 1, 1, 0, 0, 0, 0, []⟩ else .filler), none, _, _, ⟨rfl, rfl⟩, rfl, rfl, by decide, by decide, rfl, by decide⟩,
    ⟨{ State.reset with journal := { store := 1, queue := [⟨0, ⟨1, 0, 0, 1, 1, 0, 0, 0, 0, []⟩, 0⟩] } }, _, 256000000, (List.range 32).map fun k => (k, if k = 0 then .record ⟨1, 0, 0, 1, 1, 0, 0, 0, 0, []⟩ else .filler), none, _, _, ⟨rfl, rfl⟩, rfl, rfl, by decide, by decide, rfl, by decide⟩,
    ⟨{ State.reset with journal := { page := some [(0, .filler)] } }, _, 0, [(0, .filler)], _, _, ⟨rfl, rfl⟩, rfl, rfl, by decide, by decide, rfl⟩,
    ⟨{ State.reset with journal := { page := some [(0, .filler)] } }, _, 0, [(0, .filler)], _, _, ⟨rfl, rfl⟩, rfl, by decide, rfl, rfl⟩,
    ⟨{ State.reset with journal := { erasing := some 0 } }, _, 0, 0, _, ⟨rfl, rfl⟩, rfl, by decide, rfl⟩,
    ⟨{ State.reset with journal := { store := 1, erasing := some 0 } }, _, 0, 0, _, _, ⟨rfl, rfl⟩, rfl, by decide, rfl, rfl, by decide⟩,
    ⟨State.reset, _, 0, 0, 1, ⟨rfl, rfl⟩, rfl, ⟨⟨by decide, by decide⟩, Or.inl rfl, by decide⟩, by decide⟩,
    ⟨State.reset, _, 0, 0, 0x100000000, ⟨rfl, rfl⟩, rfl, ⟨⟨by decide, by decide⟩, Or.inl rfl, by decide⟩, by decide⟩,
    ⟨{ State.reset with journal := { search := some (1, 0) } }, _, 0, 1, 0, ⟨rfl, rfl⟩, rfl, by decide⟩⟩

theorem test_hyp_ChipSupervisionComplete :
    (∃ (s a : State) (t : Tick) (p : Fin 2) (u v : State), s.awake ∧ a = s.advance t ∧ (u = a.raise (ev 0x4705 0)) ∧ (v =
      (u.setRun { u.run with watchdogAt := some u.now }).setStorage { u.storage with watchdogSeen := true }) ∧ (∀ at? : Tick,
      u.run.watchdogAt = some at? → at? + 10 * secTicks ≤ u.now)) ∧
    (∃ (s a : State) (t : Tick) (p : Fin 2) (at? : Tick) (u v : State), s.awake ∧ a = s.advance t ∧ (u = a.raise (ev 0x4705
      0)) ∧ (v = (u.setRun { u.run with watchdogAt := some u.now }).setStorage { u.storage with watchdogSeen := true }) ∧
      (u.run.watchdogAt = some at?) ∧ (u.now < at? + 10 * secTicks)) ∧
    (∃ (s a : State) (t : Tick), s.awake ∧ a = s.advance t) ∧
    (∃ (s a : State) (t : Tick) (p : Pll), s.awake ∧ a = s.advance t) ∧
    (∃ (s a : State) (t : Tick) (b : BlockId), s.awake ∧ a = s.advance t ∧ (a.blockAtRest b = false)) ∧
    (∃ (s a : State) (t : Tick) (b : BlockId), s.awake ∧ a = s.advance t ∧ (a.blockAtRest b = true) ∧ ((a.driver b).reported =
      true)) ∧
    (∃ (s a : State) (t : Tick) (b : BlockId), s.awake ∧ a = s.advance t ∧ (a.blockAtRest b = true) ∧ ((a.driver b).reported =
      false)) ∧
    (∃ (s a : State) (t : Tick) (b : BlockId), s.awake ∧ a = s.advance t) ∧
    (∃ (s a : State) (t : Tick), s.awake ∧ a = s.advance t) ∧
    (∃ (s a : State) (t : Tick), s.awake ∧ a = s.advance t ∧ (a.run.testWait = true) ∧ (a.now ≤ a.run.releasedAt + msTicks)) ∧
    (∃ (s a : State) (t : Tick), s.awake ∧ a = s.advance t ∧ (a.run.testWait = true) ∧ (a.run.releasedAt + msTicks ≤ a.now)) ∧
    (∃ (s a : State) (t : Tick) (src : NodeId) (v : Nat), s.awake ∧ a = s.advance t ∧ (a.accepts src 3 true) ∧ ((a.noted
      src).cfg 0x8007 1 0 ≠ 1)) ∧
    (∃ (s a : State) (t : Tick) (src : NodeId) (u : State) (code : Nat), s.awake ∧ a = s.advance t ∧ (a.accepts src 3 true) ∧
      (u.cfg 0x8007 1 0 = 1) ∧ (u = a.noted src) ∧ (code = u.nat 0xF060 1 0) ∧ (¬ (pipOf code = 0 ∨ code = 0x4801 ∨ code =
      0x4810 ∨ code = 0x4811)) ∧ (u.nat 0xF060 2 0 < instanceLimit code)) ∧
    (∃ (s a : State) (t : Tick), s.awake ∧ a = s.advance t ∧ (a.restartDue = true ∧ a.cfg 0x2700 1 0 = 1 ∧
      a.recentRestarts.length < a.nat 0x2700 3 0)) :=
  ⟨⟨State.reset, _, 0, 0, _, _, ⟨rfl, rfl⟩, rfl, rfl, rfl, (fun at? h => by cases (show (none : Option Tick) = some at? from h))⟩,
    ⟨{ State.reset with run := { watchdogAt := some 0 } }, _, 255999999999, 0, 0, _, _, ⟨rfl, rfl⟩, rfl, rfl, rfl, by decide, by decide⟩,
    ⟨State.reset, _, 0, ⟨rfl, rfl⟩, rfl⟩,
    ⟨State.reset, _, 0, .sys, ⟨rfl, rfl⟩, rfl⟩,
    ⟨{ State.reset with cells := [(0, { state := .run })] }, _, 0, 0, ⟨rfl, rfl⟩, rfl, by decide⟩,
    ⟨{ State.reset with drivers := [(0, { reported := true })] }, _, 0, 0, ⟨rfl, rfl⟩, rfl, by decide, by decide⟩,
    ⟨State.reset, _, 0, 0, ⟨rfl, rfl⟩, rfl, by decide, by decide⟩,
    ⟨State.reset, _, 0, 0, ⟨rfl, rfl⟩, rfl⟩,
    ⟨State.reset, _, 0, ⟨rfl, rfl⟩, rfl⟩,
    ⟨{ State.reset with run := { testWait := true } }, _, 0, ⟨rfl, rfl⟩, rfl, by decide, by decide⟩,
    ⟨{ State.reset with run := { testWait := true } }, _, 25600000, ⟨rfl, rfl⟩, rfl, by decide, by decide⟩,
    ⟨{ State.reset with auth := [(1, { raised := some 3 })] }, _, 0, 1, 1, ⟨rfl, rfl⟩, rfl, ⟨⟨by decide, by decide⟩, Or.inl rfl, by decide⟩, by decide⟩,
    ⟨{ State.reset with auth := [(1, { raised := some 3 })], obj := [(⟨0x8007, 1, 0⟩, 1), (⟨0xF060, 1, 0⟩, 0x2106)] }, _, 0, 1, _, 0x2106, ⟨rfl, rfl⟩, rfl, ⟨⟨by decide, by decide⟩, Or.inl rfl, by decide⟩, by decide, rfl, by decide, by decide, by decide⟩,
    ⟨{ State.reset with run := { stopAt := some 0 }, obj := [(⟨0x2700, 1, 0⟩, 1), (⟨0x2700, 2, 0⟩, 0), (⟨0x2700, 3, 0⟩, 1)] }, _, 0, ⟨rfl, rfl⟩, rfl, by decide⟩⟩

theorem test_hyp_StorageCommandsComplete :
    (∃ (s a : State) (t : Tick) (src : NodeId), s.awake ∧ a = s.advance t ∧ (a.accepts src 2 false) ∧ ((a.noted src).storing =
      false)) ∧
    (∃ (s a : State) (t : Tick) (src : NodeId) (key : Nat), s.awake ∧ a = s.advance t ∧ (a.accepts src 2 false) ∧ (key ≠
      0x53544F52 ∨ (a.noted src).storing = true)) ∧
    (∃ (s a : State) (t : Tick) (rewritten : Bool) (x y : Storage) (u : State), s.awake ∧ a = s.advance t ∧ (x =
      a.storage.writeParts) ∧ (x.phase = 1 ∧ x.parts ≠ 0) ∧ (x.appendChecked (.commit x.firstPart x.parts x.captured false)
      rewritten = some y) ∧ (u = (if rewritten = true then a.raise (ev 0x9104 0) else a).setStorage { y with phase := 3 }) ∧
      (u.chipTakes 10 = true)) ∧
    (∃ (s a : State) (t : Tick) (src : NodeId) (b : Nat) (u : State) (y : Storage), s.awake ∧ a = s.advance t ∧ (a.accepts src
      2 false) ∧ ((a.noted src).storage.phase = 1) ∧ ((a.noted src).draw 1 = (b, u)) ∧ (y = (if b = 1 ∧ u.storage.parts ≠ 0
      then (u.storage.append (.commit u.storage.firstPart u.storage.parts u.storage.captured true)).getD u.storage else
      u.storage))) ∧
    (∃ (s a : State) (t : Tick) (src : NodeId) (u : State), s.awake ∧ a = s.advance t ∧ (a.accepts src 2 false) ∧ (u = a.noted
      src) ∧ (u.storage.phase = 3)) ∧
    (∃ (s a : State) (t : Tick) (src : NodeId), s.awake ∧ a = s.advance t ∧ (a.accepts src 2 false) ∧ ((a.noted
      src).storage.phase = 0) ∧ ((a.noted src).storage.storeDone = true)) ∧
    (∃ (s a : State) (t : Tick) (x : Storage), s.awake ∧ a = s.advance t ∧ (x = a.storage.writeParts) ∧ (a.storage.phase = 1)
      ∧ (x.parts = 0)) ∧
    (∃ (s a : State) (t : Tick) (x : Storage), s.awake ∧ a = s.advance t ∧ (x = a.storage.writeParts) ∧ (a.storage.phase = 1)
      ∧ (x.parts ≠ 0)) ∧
    (∃ (s a : State) (t : Tick) (src : NodeId) (reads : List (Nat × Bool)), s.awake ∧ a = s.advance t ∧ (a.accepts src 2
      false) ∧ ((a.noted src).storing = false) ∧ (∃ g ∈ List.range 64, ((a.noted src).group g).state ≠ .stopped)) ∧
    (∃ (s a : State) (t : Tick) (src : NodeId) (reads : List (Nat × Bool)) (v u : State) (kept : Nat), s.awake ∧ a = s.advance
      t ∧ (a.accepts src 2 false) ∧ ((a.noted src).storing = false) ∧ (∀ g ∈ List.range 64, ((a.noted src).group g).state =
      .stopped) ∧ (v = (a.noted src).readFlash reads) ∧ (v.applySet ((v.storage.inForce.map fun y => y.set).getD
      { factory := true }) = (u, kept))) ∧
    (∃ (s a : State) (t : Tick) (src : NodeId) (u : State), s.awake ∧ a = s.advance t ∧ (a.accepts src 2 false) ∧ ((a.noted
      src).storing = false) ∧ (u = (a.noted src).appendRecord (.commit (a.noted src).storage.nextSeq 0 { factory := true }
      false))) ∧
    (∃ (s a : State) (t : Tick) (reads : List (Nat × Bool)) (x : Storage) (v : State), s.awake ∧ a = s.advance t ∧
      (a.storage.compactionDue = true) ∧ (v = a.readFlash reads) ∧ (v.storage.compact = some x)) ∧
    (∃ (s a : State) (t : Tick) (line : Nat) (r : MemRequest) (source : LineRead) (u : State), s.awake ∧ a = s.advance t ∧
      (line < 196608) ∧ (a.holdOf line = none) ∧ (r ≠ .writeLine) ∧ (a.repairLine line source = (u, true))) ∧
    (∃ (s a : State) (t : Tick) (line : Nat) (r : MemRequest) (source : LineRead) (u : State), s.awake ∧ a = s.advance t ∧
      (line < 196608) ∧ (a.holdOf line = none) ∧ (r ≠ .writeLine) ∧ (a.repairLine line source = (u, false))) ∧
    (∃ (s a : State) (t : Tick) (line : Nat) (source : LineRead), s.awake ∧ a = s.advance t ∧ (line < 196608) ∧ (a.holdOf line
      = none)) ∧
    (∃ (s a : State) (t : Tick) (line : Nat) (r : MemRequest) (source : LineRead) (h : LineHold), s.awake ∧ a = s.advance t ∧
      (line < 196608) ∧ (a.holdOf line = some h)) ∧
    (∃ (s a : State) (t : Tick) (failed : Bool) (source : LineRead) (u v : State) (ok : Bool), s.awake ∧ a = s.advance t ∧ (u
      = a.setStorage { a.storage with scrub := (a.storage.scrub + 1) % 196608 }) ∧ (u.holdOf a.storage.scrub = none) ∧
      ((failed || u.storage.badLines.contains a.storage.scrub) = true) ∧ (u.repairLine a.storage.scrub source = (v, ok))) ∧
    (∃ (s a : State) (t : Tick) (failed : Bool) (source : LineRead) (u : State), s.awake ∧ a = s.advance t ∧ (u = a.setStorage
      { a.storage with scrub := (a.storage.scrub + 1) % 196608 }) ∧ (u.holdOf a.storage.scrub = none) ∧ ((failed ||
      u.storage.badLines.contains a.storage.scrub) = false)) ∧
    (∃ (s a : State) (t : Tick) (failed : Bool) (source : LineRead) (u : State) (h : LineHold), s.awake ∧ a = s.advance t ∧ (u
      = a.setStorage { a.storage with scrub := (a.storage.scrub + 1) % 196608 }) ∧ (u.holdOf a.storage.scrub = some h)) :=
  ⟨⟨State.reset, _, 0, 0, ⟨rfl, rfl⟩, rfl, ⟨⟨by decide, by decide⟩, Or.inl rfl, by decide⟩, by decide⟩,
    ⟨State.reset, _, 0, 0, 0, ⟨rfl, rfl⟩, rfl, ⟨⟨by decide, by decide⟩, Or.inl rfl, by decide⟩, by decide⟩,
    ⟨{ State.reset with storage := { phase := 1, parts := 1, firstPart := 1 } }, _, 0, false, _, _, _, ⟨rfl, rfl⟩, rfl, rfl, by decide, rfl, rfl, by decide⟩,
    ⟨{ State.reset with storage := { phase := 1, parts := 1, firstPart := 1 } }, _, 0, 0, _, _, _, ⟨rfl, rfl⟩, rfl, ⟨⟨by decide, by decide⟩, Or.inl rfl, by decide⟩, by decide, rfl, rfl⟩,
    ⟨{ State.reset with storage := { phase := 3 } }, _, 0, 0, _, ⟨rfl, rfl⟩, rfl, ⟨⟨by decide, by decide⟩, Or.inl rfl, by decide⟩, rfl, by decide⟩,
    ⟨{ State.reset with storage := { storeDone := true } }, _, 0, 0, ⟨rfl, rfl⟩, rfl, ⟨⟨by decide, by decide⟩, Or.inl rfl, by decide⟩, by decide, by decide⟩,
    ⟨{ State.reset with storage := { phase := 1, used := [], erased := [] } }, _, 0, _, ⟨rfl, rfl⟩, rfl, rfl, by decide, test_noRoom⟩,
    ⟨{ State.reset with storage := { phase := 1, parts := 1, firstPart := 1 } }, _, 0, _, ⟨rfl, rfl⟩, rfl, rfl, by decide, by decide⟩,
    ⟨{ State.reset with groups := [(0, { state := .run })] }, _, 0, 0, [], ⟨rfl, rfl⟩, rfl, ⟨⟨by decide, by decide⟩, Or.inl rfl, by decide⟩, by decide, by decide⟩,
    ⟨State.reset, _, 0, 0, [], _, _, _, ⟨rfl, rfl⟩, rfl, ⟨⟨by decide, by decide⟩, Or.inl rfl, by decide⟩, by decide, by decide, rfl, rfl⟩,
    ⟨State.reset, _, 0, 0, _, ⟨rfl, rfl⟩, rfl, ⟨⟨by decide, by decide⟩, Or.inl rfl, by decide⟩, by decide, rfl⟩,
    ⟨{ State.reset with storage := { used := [{ number := 1, seq := 1, erases := 1 }, factorySector], erased := [3] } }, _, 0, [], _, _, ⟨rfl, rfl⟩, rfl, by decide, rfl, rfl⟩,
    ⟨State.reset, _, 0, 0, .read, .good, _, ⟨rfl, rfl⟩, rfl, by decide, by decide, by decide, rfl⟩,
    ⟨State.reset, _, 0, 0x15C00, .read, .failed, _, ⟨rfl, rfl⟩, rfl, by decide, by decide, by decide, rfl⟩,
    ⟨State.reset, _, 0, 196607, .good, ⟨rfl, rfl⟩, rfl, by decide, by decide⟩,
    ⟨{ State.reset with storage := { holds := [(0, { until? := 1, good := true })] } }, _, 0, 0, .read, .good, { until? := 1, good := true }, ⟨rfl, rfl⟩, rfl, by decide, by decide⟩,
    ⟨State.reset, _, 0, true, .good, _, _, _, ⟨rfl, rfl⟩, rfl, rfl, by decide, by decide, rfl⟩,
    ⟨State.reset, _, 0, false, .good, _, ⟨rfl, rfl⟩, rfl, rfl, by decide, by decide⟩,
    ⟨{ State.reset with storage := { holds := [(0, { until? := 1, good := true })] } }, _, 0, false, .good, _, { until? := 1, good := true }, ⟨rfl, rfl⟩, rfl, rfl, by decide⟩⟩

theorem test_hyp_FirmwareCommandsComplete :
    (∃ (s a : State) (t : Tick) (src : NodeId) (n len : Nat) (header : List Nat), s.awake ∧ a = s.advance t ∧ (a.accepts src 2
      false)) ∧
    (∃ (s a : State) (t : Tick) (l : List (Nat × Bool)) (r u v : State), s.awake ∧ a = s.advance t ∧ (a.imageComplete = true)
      ∧ (a.storage.installWritten = false) ∧ (r = a.readFlash l) ∧ (r.installCrcGood l = true) ∧ (u = r.setSlotState
      r.storage.idle 2 r.storage.installImage) ∧ (v = u.setStorage { u.storage with installWritten := true }) ∧ (v.chipTakes
      10 = true) ∧ (v.storage.install = true)) ∧
    (∃ (s a : State) (t : Tick) (l : List (Nat × Bool)) (good : Bool) (r : State), s.awake ∧ a = s.advance t ∧
      (a.imageComplete = true) ∧ (a.storage.installWritten = false) ∧ (r = a.readFlash l) ∧ (r.installCrcGood l = false)) ∧
    (∃ (s a : State) (t : Tick) (l : List (Nat × Bool)) (r : State), s.awake ∧ a = s.advance t ∧ (a.imageComplete = true) ∧
      (a.storage.installWritten = false) ∧ (r = a.readFlash l) ∧ (r.installCrcGood l = true)) ∧
    (∃ (s a : State) (t : Tick) (src : NodeId) (u : State), s.awake ∧ a = s.advance t ∧ (a.accepts src 2 false) ∧ (u = a.noted
      src) ∧ (u.storage.install = true)) ∧
    (∃ (s a : State) (t : Tick) (src : NodeId), s.awake ∧ a = s.advance t ∧ (a.accepts src 2 false) ∧ ((a.noted
      src).storage.install = false) ∧ ((a.noted src).storage.installDone = true)) ∧
    (∃ (s a : State) (t : Tick), s.awake ∧ a = s.advance t ∧ (a.storage.install = true) ∧ (a.storage.installWritten = false)) ∧
    (∃ (s a : State) (t : Tick) (u : State), s.awake ∧ a = s.advance t ∧ (u = a.writeMigrated)) ∧
    (∃ (s a : State) (t : Tick) (src : NodeId), s.awake ∧ a = s.advance t ∧ (a.accepts src 2 false) ∧ ((a.noted
      src).confirmable = true)) ∧
    (∃ (s a : State) (t : Tick) (src : NodeId) (b : Nat) (u : State), s.awake ∧ a = s.advance t ∧ (a.accepts src 2 false) ∧
      ((a.noted src).confirmable = false) ∧ ((a.noted src).twinState = .active) ∧ ((a.noted src).draw 1 = (b, u))) ∧
    (∃ (s a : State) (t : Tick) (u v : State), s.awake ∧ a = s.advance t ∧ (a.storage.runningState = 3 ∧ a.since
      a.storage.trialAt (900 * secTicks) = true) ∧ (u = a.setSlotState a.storage.running 5 (a.storage.slot
      a.storage.running).2) ∧ (v = (u.setStorage { u.storage with trialAt := none }).setAlways
      { u.always with trialExpired := true }) ∧ (¬ (v.twinState = .active ∧ v.partnerInStep = true))) ∧
    (∃ (s a : State) (t : Tick) (u v w : State), s.awake ∧ a = s.advance t ∧ (a.storage.runningState = 3 ∧ a.since
      a.storage.trialAt (900 * secTicks) = true) ∧ (u = a.setSlotState a.storage.running 5 (a.storage.slot
      a.storage.running).2) ∧ (v = (u.setStorage { u.storage with trialAt := none }).setAlways
      { u.always with trialExpired := true }) ∧ (v.twinState = .active ∧ v.partnerInStep = true) ∧ (w = v.setTwin
      { v.twin with resetAfter := some (10, 0x9302) }) ∧ (w.twin.handover.isSome = false)) :=
  ⟨⟨State.reset, _, 0, 0, 0, 0, [], ⟨rfl, rfl⟩, rfl, ⟨⟨by decide, by decide⟩, Or.inl rfl, by decide⟩⟩,
    ⟨{ State.reset with storage := { install := true, installSrc := 1, installSeq := 7, installImage := some { factoryImage with length := 256 }, slotLines := [(49157, ⟨List.replicate 24 255 ++ [0, 0, 0, 0, 255, 255, 255, 255], 0⟩)] }, access := { transfers := [⟨1, 7, true, ⟨0x9010, 1, 0⟩, 0, 0, 0, [], 0, 0, []⟩] } }, _, 0, [], _, _, _, ⟨rfl, rfl⟩, rfl, by decide, by decide, rfl, by decide, rfl, rfl, by decide, by decide⟩,
    ⟨{ State.reset with storage := { install := true, installSrc := 1, installSeq := 7 }, access := { transfers := [⟨1, 7, true, ⟨0x9010, 1, 0⟩, 0, 0, 0, [], 0, 0, []⟩] } }, _, 0, [], true, _, ⟨rfl, rfl⟩, rfl, by decide, by decide, rfl, by decide⟩,
    ⟨{ State.reset with storage := { install := true, installSrc := 1, installSeq := 7, installImage := some { factoryImage with length := 256 }, slotLines := [(49157, ⟨List.replicate 24 255 ++ [0, 0, 0, 0, 255, 255, 255, 255], 0⟩)] }, access := { transfers := [⟨1, 7, true, ⟨0x9010, 1, 0⟩, 0, 0, 0, [], 0, 0, []⟩] } }, _, 0, [], _, ⟨rfl, rfl⟩, rfl, by decide, by decide, rfl, by decide⟩,
    ⟨{ State.reset with storage := { install := true, installSrc := 1, installSeq := 7 }, access := { transfers := [⟨1, 7, true, ⟨0x9010, 1, 0⟩, 0, 0, 0, [], 0, 0, []⟩] } }, _, 0, 0, _, ⟨rfl, rfl⟩, rfl, ⟨⟨by decide, by decide⟩, Or.inl rfl, by decide⟩, rfl, by decide⟩,
    ⟨{ State.reset with storage := { installDone := true } }, _, 0, 0, ⟨rfl, rfl⟩, rfl, ⟨⟨by decide, by decide⟩, Or.inl rfl, by decide⟩, by decide, by decide⟩,
    ⟨{ State.reset with storage := { install := true, installSrc := 1, installSeq := 7 }, access := { transfers := [⟨1, 7, true, ⟨0x9010, 1, 0⟩, 0, 0, 0, [], 0, 0, []⟩] } }, _, 0, ⟨rfl, rfl⟩, rfl, by decide, by decide⟩,
    ⟨State.reset, _, 0, _, ⟨rfl, rfl⟩, rfl, rfl⟩,
    ⟨{ State.reset with storage := { used := [{ number := 1, seq := 1, erases := 1, records := [⟨1, 1, .slot 0 3 (some factoryImage), 1, false⟩] }] } }, _, 0, 0, ⟨rfl, rfl⟩, rfl, ⟨⟨by decide, by decide⟩, Or.inl rfl, by decide⟩, by decide⟩,
    ⟨{ State.reset with twinState := .active }, _, 0, 0, _, _, ⟨rfl, rfl⟩, rfl, ⟨⟨by decide, by decide⟩, Or.inl rfl, by decide⟩, by decide, by decide, rfl⟩,
    ⟨{ State.reset with storage := { used := [{ number := 1, seq := 1, erases := 1, records := [⟨1, 1, .slot 0 3 (some factoryImage), 1, false⟩] }], trialAt := some 0 } }, _, 23040000000000, _, _, ⟨rfl, rfl⟩, rfl, by decide, rfl, rfl, by decide⟩,
    ⟨{ State.reset with storage := { used := [{ number := 1, seq := 1, erases := 1, records := [⟨1, 1, .slot 0 3 (some factoryImage), 1, false⟩] }], trialAt := some 0 }, twinState := .active, obj := [(⟨0x1200, 2, 0⟩, 5), (⟨0x1200, 3, 0⟩, 2)] }, _, 23040000000000, _, _, _, ⟨rfl, rfl⟩, rfl, by decide, rfl, rfl, by decide, rfl, by decide⟩⟩

theorem test_hyp_PairingCommandsComplete :
    (∃ (s a : State) (t : Tick) (high : Tick), s.awake ∧ a = s.advance t ∧ (a.run.started ∧ a.twinState = .negotiating) ∧
      (high + 10 * msTicks ≤ a.now) ∧ (a.run.strapAt + 10 * msTicks ≤ a.now)) ∧
    (∃ (s a : State) (t : Tick) (token : Bool) (u : State), s.awake ∧ a = s.advance t ∧ (u = a.seePins true token) ∧
      (u.twinState = .negotiating)) ∧
    (∃ (s a : State) (t : Tick) (token : Bool) (u : State), s.awake ∧ a = s.advance t ∧ (u = a.seePins true token) ∧
      (u.twinState ≠ .negotiating)) ∧
    (∃ (s a : State) (t : Tick) (u : State), s.awake ∧ a = s.advance t ∧ (u = a.setTwin { a.twin with tokenIn := true })) ∧
    (∃ (s a : State) (t : Tick) (w : Tick) (u : State), s.awake ∧ a = s.advance t ∧ (a.electionWait = some w) ∧ (u = a.seePins
      true false) ∧ (a.run.started ∧ a.twinState = .negotiating ∧ a.twin.waitFrom + w ≤ a.now)) ∧
    (∃ (s a : State) (t : Tick) (u : State), s.awake ∧ a = s.advance t ∧ (a.twin.tokenOut ∧ ¬ a.twin.tokenChecked ∧ a.since
      a.twin.raisedAt (2 * usTicks)) ∧ (u = a.setTwin { a.twin with tokenChecked := true, tokenIn := true })) ∧
    (∃ (s a : State) (t : Tick), s.awake ∧ a = s.advance t ∧ (a.twin.tokenOut ∧ ¬ a.twin.tokenChecked ∧ a.since
      a.twin.raisedAt (2 * usTicks))) ∧
    (∃ (s a : State) (t : Tick) (l : List Sample) (u v : State), s.awake ∧ a = s.advance t ∧ (a.twin.tokenOut ∧
      a.twin.tokenChecked ∧ a.isActive ∧ a.since a.twin.raisedAt (100 * usTicks)) ∧ (u = (a.applySamples l).setDriving true
      a.now) ∧ (v = (((List.range 24).foldl State.adoptFeed (u.setTwin
      { u.twin with raisedAt := none })).startSelector.bridgesLow.setTokens true))) ∧
    (∃ (s a : State) (t : Tick) (node pref level : Nat) (note : State), s.awake ∧ a = s.advance t ∧ (a.twinState = .syncing ∧
      ¬ a.twin.joined) ∧ (note = (((((a.put 0x1200 3 0 2).put 0x1200 4 0 0xFF).put 0x1200 7 0 level).put 0x1200 8 0
      node).putPartner 3))) ∧
    (∃ (s a : State) (t : Tick) (node pref level : Nat), s.awake ∧ a = s.advance t ∧ (a.twinState = .syncing ∧ ¬
      a.twin.joined) ∧ (a.since a.twin.tryAt secTicks = true)) ∧
    (∃ (s a : State) (t : Tick) (node pref level : Nat), s.awake ∧ a = s.advance t ∧ (a.isActive = true) ∧ (a.testing = false)
      ∧ (a.cfg 0x1200 3 0 ≠ 2)) ∧
    (∃ (s a : State) (t : Tick) (node pref level : Nat), s.awake ∧ a = s.advance t ∧ (a.isActive = true) ∧ (a.testing =
      false)) ∧
    (∃ (s a : State) (t : Tick), s.awake ∧ a = s.advance t ∧ (a.twinState = .excluded) ∧ (a.since a.twin.tryAt (60 * secTicks)
      = true)) ∧
    (∃ (s a : State) (t : Tick) (u v : State), s.awake ∧ a = s.advance t ∧ (a.cfg 0x1200 3 0 = 2) ∧ (a.isActive = true) ∧ (u =
      ((a.put 0x1200 3 0 0).put 0x1200 4 0 0).putPartner 0xFF) ∧ (v =
      { u.raise (ev 0x8101 0) with twinState := .activeUnpaired }.refuseHandover)) ∧
    (∃ (s a : State) (t : Tick), s.awake ∧ a = s.advance t ∧ (a.cfg 0x1200 3 0 ≠ 0) ∧ (¬ (a.cfg 0x1200 3 0 = 2 ∧ a.isActive =
      true))) ∧
    (∃ (s a : State) (t : Tick), s.awake ∧ a = s.advance t) :=
  ⟨⟨{ State.reset with twinState := .negotiating, run := { started := true } }, _, 256000000, 0, ⟨rfl, rfl⟩, rfl, by decide, by decide, by decide⟩,
    ⟨State.reset, _, 0, true, _, ⟨rfl, rfl⟩, rfl, rfl, by decide⟩,
    ⟨{ State.reset with twinState := .alone }, _, 0, true, _, ⟨rfl, rfl⟩, rfl, rfl, by decide⟩,
    ⟨State.reset, _, 0, _, ⟨rfl, rfl⟩, rfl, rfl⟩,
    ⟨{ State.reset with twinState := .negotiating, run := { started := true }, obj := [(⟨0x2011, 2, 0⟩, 1), (⟨0x2011, 1, 0⟩, 0)] }, _, 2560000000, 0, _, ⟨rfl, rfl⟩, rfl, by decide, rfl, by decide⟩,
    ⟨{ State.reset with twinState := .activeUnpaired, twin := { tokenOut := true, raisedAt := some 0 } }, _, 51200, _, ⟨rfl, rfl⟩, rfl, by decide, rfl⟩,
    ⟨{ State.reset with twinState := .activeUnpaired, twin := { tokenOut := true, raisedAt := some 0 } }, _, 51200, ⟨rfl, rfl⟩, rfl, by decide⟩,
    ⟨{ State.reset with twinState := .activeUnpaired, twin := { tokenOut := true, tokenChecked := true, raisedAt := some 0 } }, _, 2560000, [], _, _, ⟨rfl, rfl⟩, rfl, by decide, rfl, rfl⟩,
    ⟨{ State.reset with twinState := .syncing }, _, 0, 1, 0, 1, _, ⟨rfl, rfl⟩, rfl, by decide, rfl⟩,
    ⟨{ State.reset with twinState := .syncing, twin := { tryAt := some 0 } }, _, 25600000000, 1, 0, 1, ⟨rfl, rfl⟩, rfl, by decide, by decide⟩,
    ⟨{ State.reset with twinState := .activeUnpaired }, _, 0, 1, 0, 1, ⟨rfl, rfl⟩, rfl, by decide, by decide, by decide⟩,
    ⟨{ State.reset with twinState := .activeUnpaired }, _, 0, 1, 0, 1, ⟨rfl, rfl⟩, rfl, by decide, by decide⟩,
    ⟨{ State.reset with twinState := .excluded, twin := { tryAt := some 0 } }, _, 1536000000000, ⟨rfl, rfl⟩, rfl, by decide, by decide⟩,
    ⟨{ State.reset with twinState := .active, obj := [(⟨0x1200, 3, 0⟩, 2)] }, _, 0, _, _, ⟨rfl, rfl⟩, rfl, by decide, by decide, rfl, rfl⟩,
    ⟨{ State.reset with twinState := .inStep, obj := [(⟨0x1200, 3, 0⟩, 2)] }, _, 0, ⟨rfl, rfl⟩, rfl, by decide, by decide⟩,
    ⟨State.reset, _, 0, ⟨rfl, rfl⟩, rfl⟩⟩

theorem test_hyp_TwinRunningCommandsComplete :
    (∃ (s a : State) (t : Tick) (x y : Sample) (u : State) (n : Nat) (outside : Bool), s.awake ∧ a = s.advance t ∧ (a.standby
      ∧ a.twinState ≠ .detached ∧ a.cfg 0x1200 3 0 = 2) ∧ (u = a.applySample x) ∧ (u.compareSamples x y = some (n, outside))) ∧
    (∃ (s a : State) (t : Tick) (x y : Sample) (u : State), s.awake ∧ a = s.advance t ∧ (a.standby ∧ a.twinState ≠ .detached ∧
      a.cfg 0x1200 3 0 = 2) ∧ (u = a.applySample x) ∧ (u.compareSamples x y = none)) ∧
    (∃ (s a : State) (t : Tick), s.awake ∧ a = s.advance t ∧ (a.twin.insideSince + 10 * secTicks ≤ a.now) ∧ (a.twinState =
      .suspect)) ∧
    (∃ (s a : State) (t : Tick), s.awake ∧ a = s.advance t ∧ (a.twin.insideSince + 10 * secTicks ≤ a.now) ∧ (a.twinState =
      .active ∧ a.cfg 0x1200 2 0 = 6)) ∧
    (∃ (s a : State) (t : Tick) (crc : Nat), s.awake ∧ a = s.advance t ∧ (a.standby ∧ a.twin.joined) ∧ (crc = a.twin.crc)) ∧
    (∃ (s a : State) (t : Tick) (crc : Nat) (u : State), s.awake ∧ a = s.advance t ∧ (a.standby ∧ a.twin.joined) ∧ (crc ≠
      a.twin.crc) ∧ (u = a.setTwin { a.twin with agreed := 0 })) ∧
    (∃ (s a : State) (t : Tick) (n : Nat), s.awake ∧ a = s.advance t ∧ (a.standby = true)) ∧
    (∃ (s a : State) (t : Tick) (r : List Nat) (code turn : Nat) (u : State), s.awake ∧ a = s.advance t ∧ (a.cfg 0x1200 3 0 =
      2 ∧ r.length = 64) ∧ (code = leValue ((r.drop 2).take 2)) ∧ (turn = (((leValue ((r.drop 16).take 8) / 65536 : Nat) :
      Int) - a.freeBase).toNat) ∧ (u = (a.setTwin
      { a.twin with mirror := bset a.twin.mirror a.twin.mirrorNext r, mirrorNext := (a.twin.mirrorNext + 1) % 1024, partnerFaults := if weighed code then (turn :: a.twin.partnerFaults).take 32 else a.twin.partnerFaults }).put
      0x8121 1 0 a.twin.mirrorNext) ∧ (code ≠ 0x8104) ∧ (u.isActive = true) ∧ (code = 0x8205)) ∧
    (∃ (s a : State) (t : Tick) (r : List Nat) (code turn : Nat) (u v : State), s.awake ∧ a = s.advance t ∧ (a.cfg 0x1200 3 0
      = 2 ∧ r.length = 64) ∧ (code = leValue ((r.drop 2).take 2)) ∧ (turn = (((leValue ((r.drop 16).take 8) / 65536 : Nat) :
      Int) - a.freeBase).toNat) ∧ (u = (a.setTwin
      { a.twin with mirror := bset a.twin.mirror a.twin.mirrorNext r, mirrorNext := (a.twin.mirrorNext + 1) % 1024, partnerFaults := if weighed code then (turn :: a.twin.partnerFaults).take 32 else a.twin.partnerFaults }).put
      0x8121 1 0 a.twin.mirrorNext) ∧ (u.twinState = .active ∧ code = 0x8104) ∧ (v = (u.setTwin
      { u.twin with insideSince := u.now }).putPartner 6) ∧ (v.twin.handover = none)) ∧
    (∃ (s a : State) (t : Tick) (ft : Nat) (l : List Entry) (x : Lockstep) (u : State), s.awake ∧ a = s.advance t ∧
      (a.twinState = .syncing ∧ a.twin.joined ∧ 1000 ≤ a.twin.agreed) ∧ (u =
      { (a.loadContents l).loadLockstep x with freeBase := (ft : Int) - (a.now / usTicks : Nat), twinState := .inStep })) :=
  ⟨⟨{ State.reset with twinState := .inStep, obj := [(⟨0x1200, 3, 0⟩, 2)] }, _, 0, (.volt 0 5), (.volt 0 7), _, _, _, ⟨rfl, rfl⟩, rfl, by decide, rfl, rfl⟩,
    ⟨{ State.reset with twinState := .inStep, obj := [(⟨0x1200, 3, 0⟩, 2)] }, _, 0, (.volt 0 5), (.volt 1 7), _, ⟨rfl, rfl⟩, rfl, by decide, rfl, rfl⟩,
    ⟨{ State.reset with twinState := .suspect }, _, 256000000000, ⟨rfl, rfl⟩, rfl, by decide, by decide⟩,
    ⟨{ State.reset with twinState := .active, obj := [(⟨0x1200, 2, 0⟩, 6)] }, _, 256000000000, ⟨rfl, rfl⟩, rfl, by decide, by decide⟩,
    ⟨{ State.reset with twinState := .syncing, twin := { joined := true } }, _, 0, 0, ⟨rfl, rfl⟩, rfl, by decide, by decide⟩,
    ⟨{ State.reset with twinState := .inStep, twin := { joined := true } }, _, 0, 1, _, ⟨rfl, rfl⟩, rfl, by decide, by decide, rfl⟩,
    ⟨{ State.reset with twinState := .inStep }, _, 0, 0, ⟨rfl, rfl⟩, rfl, by decide⟩,
    ⟨{ State.reset with twinState := .activeUnpaired, obj := [(⟨0x1200, 3, 0⟩, 2)] }, _, 0, ([1, 1, 0x05, 0x82] ++ List.replicate 60 0), _, _, _, ⟨rfl, rfl⟩, rfl, by decide, rfl, rfl, rfl, by decide, by decide, by decide⟩,
    ⟨{ State.reset with twinState := .active, obj := [(⟨0x1200, 3, 0⟩, 2)] }, _, 0, ([1, 1, 0x04, 0x81] ++ List.replicate 60 0), _, _, _, _, ⟨rfl, rfl⟩, rfl, by decide, rfl, rfl, rfl, by decide, rfl, by decide⟩,
    ⟨{ State.reset with twinState := .syncing, twin := { joined := true, agreed := 1000 } }, _, 0, 0, [], {}, _, ⟨rfl, rfl⟩, rfl, by decide, rfl⟩⟩

set_option maxRecDepth 8000 in
theorem test_hyp_HandoverCommandsComplete :
    (∃ (s a : State) (t : Tick) (boundary : Tick) (cause : Nat), s.awake ∧ a = s.advance t ∧ (a.twinState = .inStep) ∧
      (a.twin.handover = none)) ∧
    (∃ (s a : State) (t : Tick) (h : Handover) (u v w : State), s.awake ∧ a = s.advance t ∧ (a.twin.handover = some h) ∧ (¬
      h.hard ∧ ¬ h.begun ∧ h.boundary ≤ a.now) ∧ (u = a.raise (ev 0x8201 0)) ∧ (v = (if h.drill then u.raise (ev 0x8203 0)
      else u)) ∧ (w = (if h.giving then v.setDriving false v.now else v.setDriving true (h.boundary + usTicks)))) ∧
    (∃ (s a : State) (t : Tick) (c : CellId) (h : Handover) (low : Bool), s.awake ∧ a = s.advance t ∧ (a.twin.handover = some
      h) ∧ (h.begun ∧ ¬ h.hard ∧ ¬ h.moved.contains c.val) ∧ (low = (!(a.cell c).levelA && !(a.cell c).levelB)) ∧ (low = true
      ∨ h.boundary + (a.cell c).period ≤ a.now)) ∧
    (∃ (s a : State) (t : Tick) (h : Handover) (u v : State), s.awake ∧ a = s.advance t ∧ (a.twin.handover = some h) ∧
      (h.begun ∧ ¬ h.hard ∧ 128 ≤ h.moved.length) ∧ (u = (a.countHandover h.cause (h.movedAt - h.boundary)).setTwin
      { a.twin with handover := none, tokenOut := !h.giving, tokenIn := h.giving, tokenChecked := true, raisedAt := none, yieldCode := 0, insideSince := a.now, heartbeatAt := a.now, outOfWindow := [] })
      ∧ (v = (if h.drill then (u.put 0x1230 7 0 0).scheduleDrill u.freeTime else u)) ∧ (h.giving = false)) ∧
    (∃ (s a : State) (t : Tick) (h : Handover) (u v w : State), s.awake ∧ a = s.advance t ∧ (a.twin.handover = some h) ∧
      (h.begun ∧ ¬ h.hard ∧ 128 ≤ h.moved.length) ∧ (u = (a.countHandover h.cause (h.movedAt - h.boundary)).setTwin
      { a.twin with handover := none, tokenOut := !h.giving, tokenIn := h.giving, tokenChecked := true, raisedAt := none, yieldCode := 0, insideSince := a.now, heartbeatAt := a.now, outOfWindow := [] })
      ∧ (w = (if h.drill then (u.put 0x1230 7 0 0).scheduleDrill u.freeTime else u)) ∧ (v =
      { w with twinState := .inStep }.putPartner 2) ∧ (h.giving = true) ∧ (v.twin.resetAfter = none)) ∧
    (∃ (s a : State) (t : Tick) (h : Handover), s.awake ∧ a = s.advance t ∧ (a.twin.handover = some h) ∧ (h.hard ∧ h.boundary
      ≤ a.now)) ∧
    (∃ (s a : State) (t : Tick) (at? : Tick) (n : Nat), s.awake ∧ a = s.advance t ∧ (a.twin.deferred = some (at?, n)) ∧ (at? +
      50 * msTicks ≤ a.now)) ∧
    (∃ (s a : State) (t : Tick) (h : Handover) (code : Nat) (u : State), s.awake ∧ a = s.advance t ∧ (a.twin.handover = some
      h) ∧ (a.twin.resetAfter = some (8, code)) ∧ (h.giving ∧ ¬ h.hard ∧ h.boundary + 100 * usTicks ≤ a.now) ∧ (u =
      (((List.range 128).filter a.token).foldl State.stopCellNow a).bridgesLow)) :=
  ⟨⟨{ State.reset with twinState := .inStep }, _, 0, 0, 1, ⟨rfl, rfl⟩, rfl, by decide, by decide⟩,
    ⟨{ State.reset with twinState := .active, twin := { handover := some { boundary := 0, cause := 1, giving := true, hard := false, begun := false, moved := [] } } }, _, 0, { boundary := 0, cause := 1, giving := true, hard := false, begun := false, moved := [] }, _, _, _, ⟨rfl, rfl⟩, rfl, by decide, by decide, rfl, rfl, rfl⟩,
    ⟨{ State.reset with twinState := .active, twin := { handover := some { boundary := 0, cause := 1, giving := true, hard := false, begun := true, moved := [] } } }, _, 0, 0, { boundary := 0, cause := 1, giving := true, hard := false, begun := true, moved := [] }, _, ⟨rfl, rfl⟩, rfl, by decide, by decide, rfl, by decide⟩,
    ⟨{ State.reset with twinState := .inStep, twin := { handover := some { boundary := 0, cause := 1, giving := false, hard := false, begun := true, moved := List.range 128 } } }, _, 0, { boundary := 0, cause := 1, giving := false, hard := false, begun := true, moved := List.range 128 }, _, _, ⟨rfl, rfl⟩, rfl, by decide, by decide, rfl, rfl, by decide⟩,
    ⟨{ State.reset with twinState := .active, twin := { handover := some { boundary := 0, cause := 1, giving := true, hard := false, begun := true, moved := List.range 128 } } }, _, 0, { boundary := 0, cause := 1, giving := true, hard := false, begun := true, moved := List.range 128 }, _, _, _, ⟨rfl, rfl⟩, rfl, by decide, by decide, rfl, rfl, rfl, by decide, by decide⟩,
    ⟨{ State.reset with twinState := .active, twin := { handover := some { boundary := 0, cause := 1, giving := true, hard := true, begun := false, moved := [] } } }, _, 0, { boundary := 0, cause := 1, giving := true, hard := true, begun := false, moved := [] }, ⟨rfl, rfl⟩, rfl, by decide, by decide⟩,
    ⟨{ State.reset with twinState := .active, twin := { deferred := some (0, 1) } }, _, 1280000000, 0, 1, ⟨rfl, rfl⟩, rfl, by decide, by decide⟩,
    ⟨{ State.reset with twinState := .active, twin := { handover := some { boundary := 0, cause := 1, giving := true, hard := false, begun := true, moved := [] }, resetAfter := some (8, 0x4706) } }, _, 2560000, { boundary := 0, cause := 1, giving := true, hard := false, begun := true, moved := [] }, 0x4706, _, ⟨rfl, rfl⟩, rfl, by decide, by decide, by decide, rfl⟩⟩

theorem test_hyp_TwinCommandsAndFailuresComplete :
    (∃ (s a : State) (t : Tick) (src : NodeId), s.awake ∧ a = s.advance t ∧ (a.accepts src 2 true)) ∧
    (∃ (s a : State) (t : Tick) (src : NodeId), s.awake ∧ a = s.advance t ∧ (a.accepts src 2 true)) ∧
    (∃ (s a : State) (t : Tick) (src : NodeId) (u : State), s.awake ∧ a = s.advance t ∧ (a.accepts src 2 true) ∧ ((a.noted
      src).isActive = true) ∧ ((a.noted src).cfg 0x1200 3 0 = 2) ∧ (u = (a.noted src).twinResult 0)) ∧
    (∃ (s a : State) (t : Tick) (src : NodeId), s.awake ∧ a = s.advance t ∧ (a.accepts src 2 true) ∧ ((a.noted src).isActive =
      false)) ∧
    (∃ (s a : State) (t : Tick) (src : NodeId), s.awake ∧ a = s.advance t ∧ (a.accepts src 2 true) ∧ ((a.noted
      src).twin.resetHeld = true)) ∧
    (∃ (s a : State) (t : Tick) (src : NodeId), s.awake ∧ a = s.advance t ∧ (a.accepts src 2 true) ∧ ((a.noted
      src).twin.resetHeld = false)) ∧
    (∃ (s a : State) (t : Tick) (src : NodeId), s.awake ∧ a = s.advance t ∧ (a.accepts src 2 true) ∧ (¬ ((a.noted
      src).swapRefusal = 0 ∧ (a.noted src).cfg 0x1230 5 0 = 1))) ∧
    (∃ (s a : State) (t : Tick) (src : NodeId), s.awake ∧ a = s.advance t ∧ (a.accepts src 2 true) ∧ ((a.noted
      src).swapRefusal = 0 ∧ (a.noted src).cfg 0x1230 5 0 = 1)) ∧
    (∃ (s a : State) (t : Tick), s.awake ∧ a = s.advance t ∧ (a.isActive = true)) ∧
    (∃ (s a : State) (t : Tick) (net ns : Nat) (ok : Bool), s.awake ∧ a = s.advance t ∧ ((a.twinState = .inStep ∨ a.twinState
      = .suspect) ∧ a.cfg 0x1200 3 0 = 2 ∧ a.now < a.twin.heartbeatAt + 2 * usTicks ∧ 750 ≤ ns ∧ ok)) ∧
    (∃ (s a : State) (t : Tick) (idle : Bool), s.awake ∧ a = s.advance t ∧ (a.heartbeatLost = true)) ∧
    (∃ (s a : State) (t : Tick) (u : State), s.awake ∧ a = s.advance t ∧ (a.heartbeatLost ∧ a.since a.twin.silentAt (8 *
      usTicks)) ∧ (u = a.judgeNets false) ∧ (u.standby = true) ∧ (u.twinState ≠ .detached)) ∧
    (∃ (s a : State) (t : Tick) (u : State), s.awake ∧ a = s.advance t ∧ (a.heartbeatLost ∧ a.since a.twin.silentAt (8 *
      usTicks)) ∧ (u = a.judgeNets true)) ∧
    (∃ (s a : State) (t : Tick) (u v : State), s.awake ∧ a = s.advance t ∧ (a.heartbeatLost ∧ a.twinState ≠ .inStep ∧ a.since
      a.twin.idleSince (10 * msTicks)) ∧ (u =
      { (a.raise (ev 0x8202 0)).assertReset with twinState := .activeUnpaired }.raiseToken) ∧ (v = u.setTwin
      { u.twin with handover := none, silentAt := none, idleSince := none })) ∧
    (∃ (s a : State) (t : Tick), s.awake ∧ a = s.advance t ∧ (¬ a.twin.resetHeld ∧ a.since a.twin.resetLow (a.nat 0x1210 1 0 *
      msTicks))) ∧
    (∃ (s a : State) (t : Tick), s.awake ∧ a = s.advance t ∧ (a.twinState = .active ∧ a.cfg 0x1230 1 0 = 1 ∧ a.cfg 0x1230 5 0
      = 0 ∧ a.twin.drillSince.isNone ∧ a.cfg 0x1230 6 0 ≤ a.freeTime)) ∧
    (∃ (s a : State) (t : Tick), s.awake ∧ a = s.advance t ∧ (a.since a.twin.drillSince (600 * secTicks) = true)) :=
  ⟨⟨State.reset, _, 0, 0, ⟨rfl, rfl⟩, rfl, ⟨⟨by decide, by decide⟩, Or.inl rfl, by decide⟩⟩,
    ⟨State.reset, _, 0, 0, ⟨rfl, rfl⟩, rfl, ⟨⟨by decide, by decide⟩, Or.inl rfl, by decide⟩⟩,
    ⟨{ State.reset with twinState := .active, obj := [(⟨0x1200, 3, 0⟩, 2)] }, _, 0, 0, _, ⟨rfl, rfl⟩, rfl, ⟨⟨by decide, by decide⟩, Or.inl rfl, by decide⟩, by decide, by decide, rfl⟩,
    ⟨{ State.reset with twinState := .inStep }, _, 0, 0, ⟨rfl, rfl⟩, rfl, ⟨⟨by decide, by decide⟩, Or.inr rfl, by decide⟩, by decide⟩,
    ⟨{ State.reset with twinState := .active, twin := { resetHeld := true, resetLow := some 0 } }, _, 0, 0, ⟨rfl, rfl⟩, rfl, ⟨⟨by decide, by decide⟩, Or.inl rfl, by decide⟩, by decide⟩,
    ⟨{ State.reset with twinState := .active }, _, 0, 0, ⟨rfl, rfl⟩, rfl, ⟨⟨by decide, by decide⟩, Or.inl rfl, by decide⟩, by decide⟩,
    ⟨State.reset, _, 0, 0, ⟨rfl, rfl⟩, rfl, ⟨⟨by decide, by decide⟩, Or.inl rfl, by decide⟩, by decide⟩,
    ⟨{ State.reset with twinState := .active, obj := [(⟨0x1200, 3, 0⟩, 2), (⟨0x1200, 2, 0⟩, 5), (⟨0x1230, 5, 0⟩, 1)] }, _, 0, 0, ⟨rfl, rfl⟩, rfl, ⟨⟨by decide, by decide⟩, Or.inl rfl, by decide⟩, by decide⟩,
    ⟨{ State.reset with twinState := .active }, _, 0, ⟨rfl, rfl⟩, rfl, by decide⟩,
    ⟨{ State.reset with twinState := .inStep, obj := [(⟨0x1200, 3, 0⟩, 2)] }, _, 0, 0, 750, true, ⟨rfl, rfl⟩, rfl, by decide⟩,
    ⟨{ State.reset with twinState := .inStep }, _, 51200, true, ⟨rfl, rfl⟩, rfl, by decide⟩,
    ⟨{ State.reset with twinState := .inStep, twin := { silentAt := some 0 } }, _, 204800, _, ⟨rfl, rfl⟩, rfl, by decide, rfl, by decide, by decide⟩,
    ⟨{ State.reset with twinState := .suspect, twin := { silentAt := some 0 } }, _, 204800, _, ⟨rfl, rfl⟩, rfl, by decide, rfl⟩,
    ⟨{ State.reset with twinState := .suspect, twin := { idleSince := some 0 } }, _, 256000000, _, _, ⟨rfl, rfl⟩, rfl, by decide, rfl, rfl⟩,
    ⟨{ State.reset with twinState := .active, twin := { resetLow := some 0 } }, _, 25600000000, ⟨rfl, rfl⟩, rfl, by decide⟩,
    ⟨{ State.reset with twinState := .active, obj := [(⟨0x1230, 1, 0⟩, 1), (⟨0x1230, 5, 0⟩, 0), (⟨0x1230, 6, 0⟩, 0)] }, _, 0, ⟨rfl, rfl⟩, rfl, by decide⟩,
    ⟨{ State.reset with twinState := .active, twin := { drillSince := some 0 } }, _, 15360000000000, ⟨rfl, rfl⟩, rfl, by decide⟩⟩

theorem test_hyp_StartAndPinsComplete :
    (∃ (s a : State) (t : Tick) (u : State), s.awake ∧ a = s.advance t ∧ (u = a.loseAlwaysOn)) ∧
    (∃ (s a : State) (t : Tick) (x : Supply) (mv : Nat), s.awake ∧ a = s.advance t) ∧
    (∃ (s a : State) (t : Tick) (ns : Nat) (still : Bool), s.awake ∧ a = s.advance t ∧ (220 ≤ ns)) ∧
    (∃ (s a : State) (t : Tick) (ns : Nat) (still : Bool), s.awake ∧ a = s.advance t ∧ (ns < 180)) ∧
    (∃ (s a : State) (t : Tick) (ns : Nat) (still : Bool) (u : State), s.awake ∧ a = s.advance t ∧ (20 ≤ ns) ∧ (u =
      a.enterReset 4 0)) ∧
    (∃ (s a : State) (t : Tick) (ns : Nat) (still : Bool), s.awake ∧ a = s.advance t ∧ (ns < 20)) ∧
    (∃ (s a : State) (t : Tick) (x : StartInputs), s.awake ∧ a = s.advance t) ∧
    (∃ (s a : State) (t : Tick) (u : State), s.awake ∧ a = s.advance t ∧ (a.run.started ∧ ¬ a.run.ringReady) ∧ (u =
      { a.setRun { a.run with ringReady := true, joined := a.nodeValid } with ring := { a.ring with cycleAt := some a.now, cycleLength := a.nat 0x1101 1 0 } })) ∧
    (∃ (s a : State) (t : Tick) (l : List Sample) (u v : State), s.awake ∧ a = s.advance t ∧ (a.turnDone ≠ some (a.now /
      usTicks)) ∧ (u = (({ a with turnDone := some (a.now / usTicks) }.turnTwinCrc).applySamples l).turnCaptures l) ∧ (v =
      { u with progSlots := u.progSlots.map fun (p : Nat × SlotT) => (p.1, { p.2 with steps := 0 }) }.turnChannels.turnInjections.turnMoves.applyImages)) ∧
    (∃ (s a : State) (t : Tick) (l : List Sample), s.awake ∧ a = s.advance t ∧ (a.turnDone = some (a.now / usTicks))) :=
  ⟨⟨State.reset, _, 0, _, ⟨rfl, rfl⟩, rfl, rfl⟩,
    ⟨State.reset, _, 0, .vaux, 0, ⟨rfl, rfl⟩, rfl⟩,
    ⟨State.reset, _, 0, 220, false, ⟨rfl, rfl⟩, rfl, by decide⟩,
    ⟨State.reset, _, 0, 179, false, ⟨rfl, rfl⟩, rfl, by decide⟩,
    ⟨State.reset, _, 0, 20, false, _, ⟨rfl, rfl⟩, rfl, by decide, rfl⟩,
    ⟨State.reset, _, 0, 19, false, ⟨rfl, rfl⟩, rfl, by decide⟩,
    ⟨State.reset, _, 0, ⟨true, [], true, true, true, true, true, [], false, false, false, []⟩, ⟨rfl, rfl⟩, rfl⟩,
    ⟨{ State.reset with run := { started := true } }, _, 0, _, ⟨rfl, rfl⟩, rfl, by decide, rfl⟩,
    ⟨State.reset, _, 0, [], _, _, ⟨rfl, rfl⟩, rfl, by decide, rfl, rfl⟩,
    ⟨{ State.reset with turnDone := some 0 }, _, 0, [], ⟨rfl, rfl⟩, rfl, by decide⟩⟩

theorem test_hyp_AuthorityAndRequestsComplete :
    (∃ (s a : State) (t : Tick) (src : NodeId) (key : List Nat), s.awake ∧ a = s.advance t ∧ (a.accepts src 0 false)) ∧
    (∃ (s a : State) (t : Tick) (src : NodeId) (key : List Nat), s.awake ∧ a = s.advance t ∧ (a.accepts src 2 false) ∧
      (key.length = 8)) ∧
    (∃ (s a : State) (t : Tick) (src : NodeId) (key : List Nat), s.awake ∧ a = s.advance t ∧ (a.accepts src 2 false) ∧
      (key.length ≠ 8)) ∧
    (∃ (s a : State) (t : Tick) (src node : NodeId) (m : Nat) (ok : Bool), s.awake ∧ a = s.advance t ∧ (a.accepts src 0
      false)) ∧
    (∃ (s a : State) (t : Tick) (src : NodeId), s.awake ∧ a = s.advance t ∧ (a.accepts src 0 false)) ∧
    (∃ (s a : State) (t : Tick) (src : NodeId), s.awake ∧ a = s.advance t ∧ ((a.authRec src).raised.isSome = true) ∧
      ((a.authRec src).lastRequest + a.nat 0x1101 4 0 * secTicks ≤ a.now ∨ ((a.authRec src).raised = some 3 ∧ (a.authRec
      src).expiry ≤ a.freeTime / 60000000))) ∧
    (∃ (s a : State) (t : Tick) (src : NodeId) (i sub inst : Nat) (v : Int) (len : Nat), s.awake ∧ a = s.advance t ∧
      (a.reaches src)) ∧
    (∃ (s a : State) (t : Tick) (due : List Staged) (u : State), s.awake ∧ a = s.advance t ∧ (a.access.commitTurn ≠ some
      (a.now / usTicks)) ∧ (a.turnDone = some (a.now / usTicks)) ∧ (due = (a.access.staged.takeWhile fun x => decide (x.due ≤
      a.now)).take 4) ∧ (due.isEmpty = false) ∧ (u = a.setAccess
      { a.access with staged := a.access.staged.drop due.length, commitTurn := some (a.now / usTicks) })) ∧
    (∃ (s a : State) (t : Tick) (n : NodeId) (q fl : Nat) (mask : List NodeId) (ok : Bool) (l : List Entry), s.awake ∧ a =
      s.advance t ∧ (a.sawCopy n q = true)) ∧
    (∃ (s a : State) (t : Tick) (n : NodeId) (q fl : Nat) (mask : List NodeId) (ok : Bool) (l : List Entry), s.awake ∧ a =
      s.advance t ∧ (n.val = 0 ∨ a.ringCode ≠ 0) ∧ (a.sawCopy n q = false) ∧ (fl.testBit 1 = false ∨ (mask.any fun m => decide
      (m.val = a.nat 0x2011 1 0)) = true)) ∧
    (∃ (s a : State) (t : Tick) (n : NodeId) (q fl : Nat) (mask : List NodeId) (ok : Bool) (l : List Entry), s.awake ∧ a =
      s.advance t ∧ (fl.testBit 1 = true) ∧ ((mask.any fun m => decide (m.val = a.nat 0x2011 1 0)) = false)) ∧
    (∃ (s a : State) (t : Tick) (src : NodeId) (l : List Entry) (tr : Bool), s.awake ∧ a = s.advance t ∧ (a.standby = true) ∧
      (a.chipTakes 12 = true)) :=
  ⟨⟨State.reset, _, 0, 1, [], ⟨rfl, rfl⟩, rfl, ⟨⟨by decide, by decide⟩, Or.inl rfl, by decide⟩⟩,
    ⟨State.reset, _, 0, 0, [1,2,3,4,5,6,7,8], ⟨rfl, rfl⟩, rfl, ⟨⟨by decide, by decide⟩, Or.inl rfl, by decide⟩, by decide⟩,
    ⟨State.reset, _, 0, 0, [], ⟨rfl, rfl⟩, rfl, ⟨⟨by decide, by decide⟩, Or.inl rfl, by decide⟩, by decide⟩,
    ⟨State.reset, _, 0, 1, 0, 0, true, ⟨rfl, rfl⟩, rfl, ⟨⟨by decide, by decide⟩, Or.inl rfl, by decide⟩⟩,
    ⟨State.reset, _, 0, 1, ⟨rfl, rfl⟩, rfl, ⟨⟨by decide, by decide⟩, Or.inl rfl, by decide⟩⟩,
    ⟨{ State.reset with auth := [(1, { raised := some 2 })] }, _, 2560000000000000, 1, ⟨rfl, rfl⟩, rfl, by decide, by decide⟩,
    ⟨State.reset, _, 0, 0, 0, 0, 0, 0, 0, ⟨rfl, rfl⟩, rfl, ⟨by decide, by decide⟩⟩,
    ⟨{ State.reset with turnDone := some 0, access := { staged := [⟨0, 1, false, [], 0, false⟩] } }, _, 0, [⟨0, 1, false, [], 0, false⟩], _, ⟨rfl, rfl⟩, rfl, by decide, by decide, rfl, by decide, rfl⟩,
    ⟨{ State.reset with ring := { taken := [(3, 9, 0)] } }, _, 0, 3, 9, 0, [], true, [], ⟨rfl, rfl⟩, rfl, by decide⟩,
    ⟨State.reset, _, 0, 0, 0, 0, [], true, [], ⟨rfl, rfl⟩, rfl, by decide, by decide, by decide⟩,
    ⟨State.reset, _, 0, 0, 0, 2, [], true, [], ⟨rfl, rfl⟩, rfl, by decide, by decide⟩,
    ⟨{ State.reset with twinState := .inStep }, _, 0, 0, [], false, ⟨rfl, rfl⟩, rfl, by decide, by decide⟩⟩

theorem test_hyp_TransfersAndFanOutsComplete :
    (∃ (s a : State) (t : Tick) (n : NodeId) (q o : Nat) (l : List Nat) (x : Transfer), s.awake ∧ a = s.advance t ∧
      (a.transfer n q = some x) ∧ (x.write ∧ o = x.next ∧ x.next + l.length ≤ x.length ∧ l ≠ [] ∧ l.length ≤ 1016)) ∧
    (∃ (s a : State) (t : Tick) (n : NodeId) (q o : Nat) (l : List Nat) (x : Transfer), s.awake ∧ a = s.advance t ∧
      (a.transfer n q = some x) ∧ (¬ (x.write ∧ o = x.next ∧ x.next + l.length ≤ x.length ∧ l ≠ [] ∧ l.length ≤ 1016))) ∧
    (∃ (s a : State) (t : Tick) (n : NodeId) (q o : Nat) (l : List Nat), s.awake ∧ a = s.advance t ∧ (a.transfer n q = none)) ∧
    (∃ (s a : State) (t : Tick) (n : NodeId) (q m : Nat) (x : Transfer), s.awake ∧ a = s.advance t ∧ (a.transfer n q = some x)
      ∧ (¬ (x.write ∨ m < x.next ∨ x.sent < m)) ∧ (m = x.length)) ∧
    (∃ (s a : State) (t : Tick) (n : NodeId) (q m : Nat) (x : Transfer), s.awake ∧ a = s.advance t ∧ (a.transfer n q = some x)
      ∧ (¬ (x.write ∨ m < x.next ∨ x.sent < m)) ∧ (m ≠ x.length) ∧ (m ≠ x.next)) ∧
    (∃ (s a : State) (t : Tick) (n : NodeId) (q c : Nat) (x : Transfer), s.awake ∧ a = s.advance t ∧ (a.transfer n q = some x)
      ∧ (¬ (x.write ∧ x.next = x.length))) ∧
    (∃ (s a : State) (t : Tick) (n : NodeId) (q c : Nat) (x : Transfer), s.awake ∧ a = s.advance t ∧ (a.transfer n q = some x)
      ∧ (x.write ∧ x.next = x.length)) ∧
    (∃ (s a : State) (t : Tick) (n : NodeId) (q : Nat) (x : Transfer), s.awake ∧ a = s.advance t ∧ (a.transfer n q = some x) ∧
      (¬ x.write ∧ x.lastAt + 20 * msTicks ≤ a.now) ∧ (x.resends < 3)) ∧
    (∃ (s a : State) (t : Tick) (n : NodeId) (q : Nat) (x : Transfer), s.awake ∧ a = s.advance t ∧ (a.transfer n q = some x) ∧
      (¬ x.write ∧ x.lastAt + 20 * msTicks ≤ a.now) ∧ (3 ≤ x.resends)) ∧
    (∃ (s a : State) (t : Tick) (src : NodeId), s.awake ∧ a = s.advance t ∧ (a.accepts src 1 false) ∧ ((a.noted
      src).access.fanOut.isSome = false)) ∧
    (∃ (s a : State) (t : Tick) (src : NodeId) (v : Nat), s.awake ∧ a = s.advance t ∧ (a.accepts src 1 false) ∧ (v ≠ 1 ∨
      (a.noted src).access.fanOut.isSome = true)) ∧
    (∃ (s a : State) (t : Tick) (n : NodeId) (q r : Nat) (f : FanOut), s.awake ∧ a = s.advance t ∧ (a.access.fanOut = some f)
      ∧ (f.sequence = q ∧ f.waiting.any (fun p => decide (p.1 = n.val)))) ∧
    (∃ (s a : State) (t : Tick) (n : NodeId) (f : FanOut) (m sends : Nat) (last : Tick), s.awake ∧ a = s.advance t ∧
      (a.access.fanOut = some f) ∧ ((f.waiting.find? fun p => decide (p.1 = n.val)) = some (m, sends, last)) ∧ (last + a.nat
      0x1101 3 0 * msTicks ≤ a.now) ∧ (3 ≤ sends)) ∧
    (∃ (s a : State) (t : Tick) (n : NodeId) (f : FanOut) (m sends : Nat) (last : Tick), s.awake ∧ a = s.advance t ∧
      (a.access.fanOut = some f) ∧ ((f.waiting.find? fun p => decide (p.1 = n.val)) = some (m, sends, last)) ∧ (last + a.nat
      0x1101 3 0 * msTicks ≤ a.now) ∧ (sends < 3)) :=
  ⟨⟨{ State.reset with access := { transfers := [⟨1, 7, true, ⟨0x9010, 1, 0⟩, 4, 0, 0, [], 0, 0, []⟩] } }, _, 0, 1, 7, 0, [1], ⟨1, 7, true, ⟨0x9010, 1, 0⟩, 4, 0, 0, [], 0, 0, []⟩, ⟨rfl, rfl⟩, rfl, by decide, by decide⟩,
    ⟨{ State.reset with access := { transfers := [⟨1, 7, true, ⟨0x9010, 1, 0⟩, 4, 0, 0, [], 0, 0, []⟩] } }, _, 0, 1, 7, 1, [1], ⟨1, 7, true, ⟨0x9010, 1, 0⟩, 4, 0, 0, [], 0, 0, []⟩, ⟨rfl, rfl⟩, rfl, by decide, by decide⟩,
    ⟨State.reset, _, 0, 0, 0, 0, [], ⟨rfl, rfl⟩, rfl, by decide⟩,
    ⟨{ State.reset with access := { transfers := [⟨1, 7, false, ⟨0x9010, 1, 0⟩, 4, 0, 4, [], 0, 0, []⟩] } }, _, 0, 1, 7, 4, ⟨1, 7, false, ⟨0x9010, 1, 0⟩, 4, 0, 4, [], 0, 0, []⟩, ⟨rfl, rfl⟩, rfl, by decide, by decide, by decide⟩,
    ⟨{ State.reset with access := { transfers := [⟨1, 7, false, ⟨0x9010, 1, 0⟩, 4, 0, 4, [], 0, 0, []⟩] } }, _, 0, 1, 7, 1, ⟨1, 7, false, ⟨0x9010, 1, 0⟩, 4, 0, 4, [], 0, 0, []⟩, ⟨rfl, rfl⟩, rfl, by decide, by decide, by decide, by decide⟩,
    ⟨{ State.reset with access := { transfers := [⟨1, 7, false, ⟨0x9010, 1, 0⟩, 4, 0, 4, [], 0, 0, []⟩] } }, _, 0, 1, 7, 0, ⟨1, 7, false, ⟨0x9010, 1, 0⟩, 4, 0, 4, [], 0, 0, []⟩, ⟨rfl, rfl⟩, rfl, by decide, by decide⟩,
    ⟨{ State.reset with access := { transfers := [⟨1, 7, true, ⟨0x9010, 1, 0⟩, 4, 4, 4, [], 0, 0, []⟩] } }, _, 0, 1, 7, 0, ⟨1, 7, true, ⟨0x9010, 1, 0⟩, 4, 4, 4, [], 0, 0, []⟩, ⟨rfl, rfl⟩, rfl, by decide, by decide⟩,
    ⟨{ State.reset with access := { transfers := [⟨1, 7, false, ⟨0x9010, 1, 0⟩, 4, 0, 4, [], 0, 0, []⟩] } }, _, 512000000, 1, 7, ⟨1, 7, false, ⟨0x9010, 1, 0⟩, 4, 0, 4, [], 0, 0, []⟩, ⟨rfl, rfl⟩, rfl, by decide, by decide, by decide⟩,
    ⟨{ State.reset with access := { transfers := [⟨1, 7, false, ⟨0x9010, 1, 0⟩, 4, 0, 4, [], 3, 0, []⟩] } }, _, 512000000, 1, 7, ⟨1, 7, false, ⟨0x9010, 1, 0⟩, 4, 0, 4, [], 3, 0, []⟩, ⟨rfl, rfl⟩, rfl, by decide, by decide, by decide⟩,
    ⟨State.reset, _, 0, 0, ⟨rfl, rfl⟩, rfl, ⟨⟨by decide, by decide⟩, Or.inl rfl, by decide⟩, by decide⟩,
    ⟨State.reset, _, 0, 0, 0, ⟨rfl, rfl⟩, rfl, ⟨⟨by decide, by decide⟩, Or.inl rfl, by decide⟩, by decide⟩,
    ⟨{ State.reset with access := { fanOut := some ⟨7, ⟨true, 0x1101, 1, 0, 1, 0, []⟩, [(1, 1, 0)]⟩ } }, _, 0, 1, 7, 0, ⟨7, ⟨true, 0x1101, 1, 0, 1, 0, []⟩, [(1, 1, 0)]⟩, ⟨rfl, rfl⟩, rfl, by decide, by decide⟩,
    ⟨{ State.reset with access := { fanOut := some ⟨7, ⟨true, 0x1101, 1, 0, 1, 0, []⟩, [(1, 3, 0)]⟩ } }, _, 256000000000, 1, ⟨7, ⟨true, 0x1101, 1, 0, 1, 0, []⟩, [(1, 3, 0)]⟩, 1, 3, 0, ⟨rfl, rfl⟩, rfl, by decide, by decide, by decide, by decide⟩,
    ⟨{ State.reset with access := { fanOut := some ⟨7, ⟨true, 0x1101, 1, 0, 1, 0, []⟩, [(1, 1, 0)]⟩ } }, _, 256000000000, 1, ⟨7, ⟨true, 0x1101, 1, 0, 1, 0, []⟩, [(1, 1, 0)]⟩, 1, 1, 0, ⟨rfl, rfl⟩, rfl, by decide, by decide, by decide, by decide⟩⟩

theorem test_hyp_RingCommandsComplete :
    (∃ (s a : State) (t : Tick) (p : Port) (u : State), s.awake ∧ a = s.advance t ∧ (u = a.setLink p false) ∧ (u.run.joined =
      true) ∧ (u.portUp (portOther p) = true)) ∧
    (∃ (s a : State) (t : Tick) (p : Port) (u : State), s.awake ∧ a = s.advance t ∧ (u = a.setLink p false) ∧ (u.run.joined =
      true) ∧ (u.portUp (portOther p) = false) ∧ (u.ring.bothDown = none)) ∧
    (∃ (s a : State) (t : Tick) (p : Port) (u : State), s.awake ∧ a = s.advance t ∧ (u = (a.setLink p true).setRing
      { (a.setLink p true).ring with bothDown := none, isolated := false }) ∧ (u.run.joined = true) ∧ (u.ring.wrapped = some
      p) ∧ (u.ring.goodSince = none)) ∧
    (∃ (s a : State) (t : Tick) (p : Port) (u : State), s.awake ∧ a = s.advance t ∧ (u = (a.setLink p true).setRing
      { (a.setLink p true).ring with bothDown := none, isolated := false }) ∧ (u.run.joined = true) ∧ (u.ring.wrapped ≠ some
      p) ∧ (u.portUp (portOther p) = false)) ∧
    (∃ (s a : State) (t : Tick), s.awake ∧ a = s.advance t ∧ (a.ring.wrapped.isSome ∧ a.ring.checkBack ∧ a.since
      a.ring.goodSince secTicks)) ∧
    (∃ (s a : State) (t : Tick) (u : State), s.awake ∧ a = s.advance t ∧ (a.run.joined ∧ ¬ a.ring.isolated ∧ a.since
      a.ring.bothDown (3 * a.ring.cycleLength * usTicks)) ∧ (u = (a.setRing { a.ring with isolated := true }).raise (ev 0x7103
      0))) ∧
    (∃ (s a : State) (t : Tick) (n : NodeId) (c len : Nat) (turned : Bool) (u v : State), s.awake ∧ a = s.advance t ∧
      (a.ringCode ≠ 0) ∧ (u = a.setRing { a.ring with wrappedElsewhere := turned }) ∧ (¬ (u.ring.master ∧ a.nat 0x2011 1 0 ≤
      n.val)) ∧ (v = (if n.val = a.nat 0x2011 1 0 then u.markDuplicate else u))) ∧
    (∃ (s a : State) (t : Tick) (n : NodeId) (c len : Nat) (turned : Bool) (u : State), s.awake ∧ a = s.advance t ∧
      (a.ringCode ≠ 0) ∧ (u = a.setRing { a.ring with wrappedElsewhere := turned }) ∧ (u.ring.master ∧ a.nat 0x2011 1 0 ≤
      n.val)) ∧
    (∃ (s a : State) (t : Tick), s.awake ∧ a = s.advance t ∧ (a.ringCode ≠ 0 ∧ a.ring.master ∧ a.since a.ring.cycleAt
      (a.ring.cycleLength * usTicks)) ∧ (a.cfg 0x1101 2 0 = 1)) ∧
    (∃ (s a : State) (t : Tick), s.awake ∧ a = s.advance t ∧ (a.ringCode ≠ 0 ∧ a.ring.master ∧ a.since a.ring.cycleAt
      (a.ring.cycleLength * usTicks)) ∧ (a.cfg 0x1101 2 0 ≠ 1)) ∧
    (∃ (s a : State) (t : Tick), s.awake ∧ a = s.advance t ∧ (a.ringCode ≠ 0 ∧ a.cfg 0x1101 2 0 = 1 ∧ ¬ a.ring.master ∧
      a.since a.ring.cycleAt ((3 * a.ring.cycleLength + 10 * a.nat 0x2011 1 0) * usTicks))) ∧
    (∃ (s a : State) (t : Tick) (n : NodeId) (l : List Nat), s.awake ∧ a = s.advance t ∧ (a.ringCode ≠ 0) ∧
      (a.imageSources.contains n.val = true)) ∧
    (∃ (s a : State) (t : Tick) (n : NodeId) (x : ImageSrc), s.awake ∧ a = s.advance t ∧ (x = bget {} a.ring.images n.val) ∧
      (3 ≤ x.missed ∧ ¬ x.raised ∧ a.imageSources.contains n.val)) ∧
    (∃ (s a : State) (t : Tick) (n : NodeId) (c : Nat), s.awake ∧ a = s.advance t ∧ (a.ringCode ≠ 0) ∧ (n.val = a.nat 0x2011 1
      0 ∧ ¬ a.ring.master)) ∧
    (∃ (s a : State) (t : Tick) (n : NodeId) (c : Nat), s.awake ∧ a = s.advance t ∧ (a.ringCode ≠ 0) ∧ (¬ (n.val = a.nat
      0x2011 1 0 ∧ ¬ a.ring.master)) ∧ (a.ring.wrapped.isSome = true)) ∧
    (∃ (s a : State) (t : Tick) (u : State), s.awake ∧ a = s.advance t ∧ (u = (a.bump 0x1100 (portFails .east) 0).setRing
      { (a.bump 0x1100 (portFails .east) 0).ring with eastFails := a.now :: (a.ring.eastFails.filter fun b => decide (a.now < b + secTicks)).take 31 })) ∧
    (∃ (s a : State) (t : Tick) (u : State), s.awake ∧ a = s.advance t ∧ (u = (a.bump 0x1100 (portFails .west) 0).setRing
      { (a.bump 0x1100 (portFails .west) 0).ring with westFails := a.now :: (a.ring.westFails.filter fun b => decide (a.now < b + secTicks)).take 31 })) :=
  ⟨⟨{ State.reset with ring := {  }, run := { started := true, joined := true }, obj := [(⟨0x1100, 3, 0⟩, 1)] }, _, 0, .east, _, ⟨rfl, rfl⟩, rfl, rfl, by decide, by decide⟩,
    ⟨{ State.reset with ring := {  }, run := { started := true, joined := true }, obj := [(⟨0x1100, 3, 0⟩, 0)] }, _, 0, .east, _, ⟨rfl, rfl⟩, rfl, rfl, by decide, by decide, by decide⟩,
    ⟨{ State.reset with ring := { wrapped := some .east }, run := { started := true, joined := true } }, _, 0, .east, _, ⟨rfl, rfl⟩, rfl, rfl, by decide, by decide, by decide⟩,
    ⟨{ State.reset with ring := {  }, run := { started := true, joined := true }, obj := [(⟨0x1100, 3, 0⟩, 0)] }, _, 0, .east, _, ⟨rfl, rfl⟩, rfl, rfl, by decide, by decide, by decide⟩,
    ⟨{ State.reset with ring := { wrapped := some .east, checkBack := true, goodSince := some 0 }, run := { started := true, joined := true } }, _, 25600000000, ⟨rfl, rfl⟩, rfl, by decide⟩,
    ⟨{ State.reset with ring := { bothDown := some 0 }, run := { started := true, joined := true } }, _, 76800000, _, ⟨rfl, rfl⟩, rfl, by decide, rfl⟩,
    ⟨{ State.reset with ring := {  }, run := { started := true, joined := true }, obj := [(⟨0x2011, 1, 0⟩, 3)] }, _, 0, 1, 0, 0, false, _, _, ⟨rfl, rfl⟩, rfl, by decide, rfl, by decide, rfl⟩,
    ⟨{ State.reset with ring := { master := true }, run := { started := true, joined := true }, obj := [(⟨0x2011, 1, 0⟩, 3)] }, _, 0, 3, 0, 0, false, _, ⟨rfl, rfl⟩, rfl, by decide, rfl, by decide⟩,
    ⟨{ State.reset with ring := { master := true, cycleAt := some 0, cycleLength := 1000 }, run := { started := true, joined := true }, obj := [(⟨0x2011, 1, 0⟩, 3), (⟨0x1101, 2, 0⟩, 1)] }, _, 25600000, ⟨rfl, rfl⟩, rfl, by decide, by decide⟩,
    ⟨{ State.reset with ring := { master := true, cycleAt := some 0, cycleLength := 1000 }, run := { started := true, joined := true }, obj := [(⟨0x2011, 1, 0⟩, 3), (⟨0x1101, 2, 0⟩, 0)] }, _, 25600000, ⟨rfl, rfl⟩, rfl, by decide, by decide⟩,
    ⟨{ State.reset with ring := { cycleAt := some 0, cycleLength := 1000 }, run := { started := true, joined := true }, obj := [(⟨0x2011, 1, 0⟩, 3), (⟨0x1101, 2, 0⟩, 1)] }, _, 256000000, ⟨rfl, rfl⟩, rfl, by decide⟩,
    ⟨{ State.reset with ring := { maps := [(⟨0x1600, 1, 0⟩, 1), (⟨0x1602, 1, 0⟩, 0x10000)] }, run := { started := true, joined := true }, obj := [(⟨0x2011, 1, 0⟩, 3)] }, _, 0, 1, [], ⟨rfl, rfl⟩, rfl, by decide, by decide⟩,
    ⟨{ State.reset with ring := { images := [(1, { missed := 3 })], maps := [(⟨0x1600, 1, 0⟩, 1), (⟨0x1602, 1, 0⟩, 0x10000)] }, run := { started := true, joined := true }, obj := [(⟨0x2011, 1, 0⟩, 3)] }, _, 0, 1, _, ⟨rfl, rfl⟩, rfl, rfl, by decide⟩,
    ⟨{ State.reset with ring := {  }, run := { started := true, joined := true }, obj := [(⟨0x2011, 1, 0⟩, 3)] }, _, 0, 3, 0, ⟨rfl, rfl⟩, rfl, by decide, by decide⟩,
    ⟨{ State.reset with ring := { wrapped := some .east }, run := { started := true, joined := true }, obj := [(⟨0x2011, 1, 0⟩, 3)] }, _, 0, 1, 0, ⟨rfl, rfl⟩, rfl, by decide, by decide, by decide⟩,
    ⟨State.reset, _, 0, _, ⟨rfl, rfl⟩, rfl, rfl⟩,
    ⟨State.reset, _, 0, _, ⟨rfl, rfl⟩, rfl, rfl⟩⟩

theorem test_hyp_StepTakesTheFront : State.reset.pending = [] := rfl

theorem test_hyp_EveryCommandAnswersNext :
    (∃ c : Instr, ∃ t line call, c = .sramRepair t line call ∧ 196608 ≤ line) ∧
    ∃ c : Instr, ∀ t line call, c = .sramRepair t line call → line < 196608 :=
  ⟨⟨.sramRepair 0 196608 ⟨.read, .good⟩, 0, 196608, ⟨.read, .good⟩, rfl, by decide⟩, .powerOn 0, fun _ _ _ h => Instr.noConfusion h⟩

theorem test_hyp_QueueOrderIsKept :
    ∃ s u : State, s.queueOrdered ∧ step s = .next u :=
  ⟨{ State.reset with pending := [.powerOn 1, .rstNLow 2 ⟨300, false⟩] }, _, ⟨by decide, by decide⟩, rfl⟩

theorem test_hyp_ResetHoldsTheOutputs :
    ∃ s u : State, s.inReset = true ∧ (∀ t inputs rest, s.pending ≠ .chipStart t inputs :: rest) ∧ step s = .next u :=
  ⟨{ State.reset with inReset := true, pending := [.rstNLow 1 ⟨300, false⟩] }, _, rfl, fun _ _ _ h => (List.cons.inj h).1 |> Instr.noConfusion, rfl⟩

theorem test_hyp_ResetTakesOnlyTime :
    ∃ (s : State) (c : Instr), s.inReset = true ∧ c.actsInReset = false ∧ c.sideband = false ∧
      ∀ t line call, c = .sramRepair t line call → line < 196608 :=
  ⟨{ State.reset with inReset := true }, .autoRestart 0, rfl, rfl, rfl, fun _ _ _ h => Instr.noConfusion h⟩

/-- A chip that hears the ring: its straps gave a node ID. -/
def Tests.onRing : State := { State.reset with obj := [(⟨0x2011, 1, 0⟩, 9)] }

theorem test_hyp_DictionaryIsJudged :
    (∃ (s a : State) (c : Instr) (src : NodeId) (need : Nat) (own : Bool), s.awake ∧ a = s.advance c.time ∧
      c.dictionary = some (src, need, own) ∧ a.hears src = false) ∧
    (∃ (s a : State) (c : Instr) (src : NodeId) (need : Nat) (own : Bool) (u : State), s.awake ∧ a = s.advance c.time ∧
      c.dictionary = some (src, need, own) ∧ a.hears src = true ∧ a.chipTakes 12 = false ∧ u = a.received src) ∧
    (∃ (s a : State) (c : Instr) (src : NodeId) (need : Nat) (own : Bool), s.awake ∧ a = s.advance c.time ∧
      c.dictionary = some (src, need, own) ∧ a.reaches src ∧ s.standby = true ∧ own = false) ∧
    ∃ (s a : State) (c : Instr) (src : NodeId) (need : Nat) (own : Bool), s.awake ∧ a = s.advance c.time ∧
      c.dictionary = some (src, need, own) ∧ a.reaches src ∧ (s.standby = false ∨ own = true) ∧ s.authorityOf src < need :=
  ⟨⟨{ State.reset with obj := [(⟨0x2011, 9, 0⟩, 1)] }, _, .groupStart 0 3 0, 3, 1, false, ⟨rfl, rfl⟩, rfl, rfl, by decide⟩,
    ⟨{ State.reset with acceptAt := [((3, 0), 0)] }, _, .groupStart 63 0 0, 0, 1, false, _, ⟨rfl, rfl⟩, rfl, rfl, by decide,
      by decide, rfl⟩,
    ⟨{ State.reset with twinState := .inStep }, _, .groupStart 0 0 0, 0, 1, false, ⟨rfl, rfl⟩, rfl, rfl, ⟨by decide, by decide⟩,
      by decide, rfl⟩,
    ⟨Tests.onRing, _, .store 0 3 0, 3, 2, false, ⟨rfl, rfl⟩, rfl, rfl, ⟨by decide, by decide⟩, Or.inl (by decide), by decide⟩⟩

theorem test_hyp_TrackersTouchTheirObjects : ∃ (s u : State) (c : Instr), c.tracks = true ∧ exec c s = .next u :=
  ⟨State.reset, _, .ppsEdge 0, rfl, rfl⟩

theorem test_hyp_StepsTouchTheirProgram : ∃ (s u : State) (c : Instr), c.runsStep = true ∧ exec c s = .next u :=
  ⟨State.reset, _, .stepEnd 0 0, rfl, rfl⟩

theorem test_hyp_ChannelsTouchThemselves : ∃ (s u : State) (c : Instr) (f : FeedId), c.ownFeed = some f ∧ exec c s = .next u :=
  ⟨State.reset, _, .gateFail 0 0, 0, rfl, rfl⟩

theorem test_hyp_SelectorTouchesTheFeeds : ∃ (s u : State) (c : Instr), c.selects = true ∧ exec c s = .next u :=
  ⟨State.reset, _, .transferBlocked 0, rfl, rfl⟩

theorem test_hyp_EstimatorTouchesTheStrings : ∃ (s u : State) (c : Instr), c.estimates = true ∧ exec c s = .next u :=
  ⟨State.reset, _, .restPoint 0 0, rfl, rfl⟩

theorem test_hyp_RecordingTouchesNoOutput : ∃ (s u : State) (c : Instr), c.records = true ∧ exec c s = .next u :=
  ⟨State.reset, _, .journalPageWrite 0, rfl, rfl⟩

theorem test_hyp_PairingTouchesTheTwinSide : ∃ (s u : State) (c : Instr), c.pairs = true ∧ exec c s = .next u :=
  ⟨State.reset, _, .heartbeat 0 1, rfl, rfl⟩

theorem test_hyp_RingTouchesTheRingSide : ∃ (s u : State) (c : Instr), c.rings = true ∧ exec c s = .next u :=
  ⟨State.reset, _, .ringUnwrap 0, rfl, rfl⟩

theorem test_hyp_StoresTouchTheFlash : ∃ (s u : State) (c : Instr), c.stores = true ∧ exec c s = .next u :=
  ⟨State.reset, _, .compactionStep ⟨0, []⟩, rfl, rfl⟩

theorem test_hyp_PhaseJudgementsWriteNoObject : ∃ (s u : State) (c : Instr), c.judgesPhases = true ∧ exec c s = .next u :=
  ⟨State.reset, _, .groupPowerGoodLoss 0 0, rfl, rfl⟩

theorem test_hyp_HeatJudgementsTouchTheirInputs : ∃ (s u : State) (c : Instr), c.judgesHeat = true ∧ exec c s = .next u :=
  ⟨State.reset, _, .pgFlagSet 0 0, rfl, rfl⟩

theorem test_hyp_DoublesResetTogether :
    ∃ (s a : State) (t : Tick) (src : NodeId) (b c : BlockId), s.awake ∧ a = s.advance t ∧ b.val % 2 = 0 ∧ c.val = b.val + 1 ∧
      (a.noted src).doubles b = true ∧ a.accepts src 1 false ∧ (a.noted src).inFault (.region (b / 4)) = false ∧
      (a.noted src).inFault .chip = false ∧ (a.noted src).cfg 0x4030 1 b ≠ 1 ∧ (a.noted src).cfg 0x4030 1 c ≠ 1 :=
  ⟨{ State.reset with obj := [(⟨0x6000, 3, 0⟩, 1)] }, _, 0, 0, 0, 1, ⟨rfl, rfl⟩, rfl, rfl, rfl, by decide,
    ⟨⟨by decide, by decide⟩, Or.inl rfl, by decide⟩, rfl, rfl, by decide, by decide⟩

theorem test_hyp_RetriesAreCounted :
    (∃ (s a : State) (t : Tick) (f : FeedId), s.awake ∧ a = s.advance t ∧ (a.feed f).state = .cooldown ∧
      (a.feed f).entered + a.nat 0x6800 0x15 f * msTicks ≤ a.now ∧ (a.feed f).tj ≤ a.cfg 0x6810 0xC f * 100000) ∧
    (∃ (s a : State) (t : Tick) (f : FeedId), s.awake ∧ a = s.advance t ∧ (a.feed f).powerGood = true ∧
      a.since (a.feed f).goodSince (a.nat 0x6800 0x16 f * secTicks) = true) ∧
    (∃ (s a : State) (t : Tick) (src : NodeId), s.awake ∧ a = s.advance t ∧ a.accepts src 1 false ∧ a.selector.transfer = none) ∧
    ∃ (s a : State) (t : Tick) (f : FeedId), s.awake ∧ a = s.advance t ∧ a.nat 0x6800 0x14 f = 0 ∧ (a.feed f).state ≠ .cooldown ∧ a.feedLive f = true ∧
      a.cfg 0x6810 0xB f * 100000 ≤ (a.feed f).tj :=
  ⟨⟨{ State.reset with feeds := [(0, { state := .cooldown })] }, _, 2560000000000, 0, ⟨rfl, rfl⟩, rfl, by decide, by decide, by decide⟩,
    ⟨{ State.reset with feeds := [(0, { state := .on, powerGood := true, goodSince := some 0 })] }, _, 2560000000000, 0, ⟨rfl, rfl⟩,
      rfl, by decide, by decide⟩,
    ⟨State.reset, _, 0, 0, ⟨rfl, rfl⟩, rfl, ⟨⟨by decide, by decide⟩, Or.inl rfl, by decide⟩, rfl⟩,
    ⟨{ State.reset with feeds := [(0, { state := .on, tj := 100000000000 })], obj := [(⟨0x6800, 0x14, 0⟩, 0)] }, _, 0, 0, ⟨rfl, rfl⟩, rfl,
      by decide, by decide, by decide, by decide⟩⟩

theorem test_hyp_EventsReachTheirArbiter :
    (∃ (s : State) (e : Event), s.repeats e = true) ∧
    (∃ (s : State) (e : Event), s.repeats e = false ∧ pipOf e.code < 3) ∧
    (∃ (s : State) (e : Event) (o : Elem), s.repeats e = false ∧ o ∈ e.faultOwners) ∧
    (∃ (e : Event) (o : Elem), o ∉ e.faultOwners) ∧
    (∃ (s : State) (i : ArbInput) (p : Payload), 32 ≤ (s.input i).items.length ∧ (∀ c : Cmd, p ≠ .command c) ∧ p.pip ≤ 2) ∧
    (∃ (s : State) (i : ArbInput) (p : Payload), (s.input i).items.length < 32 ∨ (∃ c : Cmd, p = .command c) ∨ 3 ≤ p.pip) ∧
    ∃ i j : ArbInput, j ≠ i :=
  ⟨⟨{ State.reset with faults := [(.cell 0, { inFault := true, raised := [(0x1101, 0)] })] }, ev 0x1101 0, by decide⟩,
    ⟨State.reset, ev 0x1102 0, by decide, by decide⟩, ⟨State.reset, ev 0x1101 0, .cell 0, by decide, by decide⟩,
    ⟨ev 0x1101 0, .cell 1, by decide⟩,
    ⟨{ State.reset with inputs := [(.chip 4, { items := List.replicate 32 ⟨0, .command (.move 0 false)⟩ })] }, .chip 4, .event (ev 0x1102 0),
      by decide, fun _ h => Payload.noConfusion h, by decide⟩,
    ⟨State.reset, .chip 4, .command (.move 0 false), Or.inr (Or.inl ⟨_, rfl⟩)⟩, .chip 4, .chip 5, by decide⟩

theorem test_hyp_ArbitersCountAndPassOne :
    (∃ (s a : State) (t at0 : Tick) (r : RegionId) (b : BlockId), s.awake ∧ a = s.advance t ∧ a.now / cycleTicks ≤ at0 / cycleTicks ∧
      bget none (s.acceptAt.map fun p => (p.1, some p.2)) (3, 0) = some at0 ∧
      bget none (s.acceptAt.map fun p => (p.1, some p.2)) (2, r.val) = some at0 ∧
      bget none (s.acceptAt.map fun p => (p.1, some p.2)) (1, b.val) = some at0) ∧
    ∃ (s u : State) (t : Tick) (b : BlockId) (r : RegionId) (i : ArbInput) (c : Instr),
      (c = .blockArbiterAccept t b ∨ c = .regionArbiterAccept t r ∨ c = .eventsMerged t i) ∧ exec c s = .next u :=
  ⟨⟨{ State.reset with acceptAt := [((3, 0), 5), ((2, 0), 5), ((1, 0), 5)] }, _, 5, 5, 0, 0, ⟨rfl, rfl⟩, rfl, by decide, by decide, by decide,
    by decide⟩, ⟨State.reset, _, 0, 0, 0, .chip 4, .blockArbiterAccept 0 0, Or.inl rfl, rfl⟩⟩

theorem test_hyp_OutputsNeverOverlap :
    ∃ (s u : State) (i : Instr) (c : CellId), i.cellEdge = some c ∧ exec i s = .next u ∧ (s.cell c).noOverlap = true ∧
      (s.cell c).levelA = false ∧ (u.cell c).levelA = true ∧ (s.cell c).levelB = false :=
  ⟨{ State.reset with cells := [(0, { waitA := .delayed })] }, _, .deadTimeEnd 0 0 .a, 0, rfl, rfl, by decide, by decide, by decide,
    by decide⟩

theorem test_hyp_EvaluationStaysInItsLimits :
    ∃ (x u : Ctx) (y r : Int) (n : Nat), -8388608 ≤ x.active.uMin ∧ x.active.uMin ≤ x.active.uMax ∧ x.active.uMax ≤ 8388607 ∧
      x.evaluate y r = (u, n) ∧ x.active.integrator = true ∧ x.active.kb = 268435456 ∧ x.preset = false :=
  ⟨{ active := { form := 3, b0 := 1048576, kb := 268435456, uMin := 0, uMax := 8388607 } }, _, 0, 100, _, by decide, by decide,
    by decide, rfl, by decide, by decide, rfl⟩

theorem test_hyp_FailedTransactionChangesNothing :
    (∃ (s s' : State) (src : NodeId) (es : List Entry) (codes : List Nat), s.tryAll src es = (s', codes, true)) ∧
    ∃ (s s' : State) (src : NodeId) (es : List Entry) (codes : List Nat), s.tryAll src es = (s', codes, false) :=
  ⟨⟨State.reset, _, 0, [], _, rfl⟩,
    ⟨State.reset, (State.reset.applyEntry 0 { write := false, index := 0, sub := 0, inst := 0, length := 0, value := 0, octets := [] }).1, 0,
      [{ write := false, index := 0, sub := 0, inst := 0, length := 0, value := 0, octets := [] }], [0x10], rfl⟩⟩

theorem test_hyp_AuthorityRisesByKeyOrToken :
    (∃ (s u : State) (t : Tick) (src : NodeId) (k : List Nat), exec (.integratorLogin t src k) s = .next u ∧
      s.authorityOf src < u.authorityOf src ∧ ∃ n : Nat, n ≠ src.val) ∧
    (∃ (s u : State) (t : Tick) (src : NodeId) (expiry : Nat) (node : NodeId) (valid : Bool),
      exec (.vendorToken t src expiry node valid) s = .next u ∧ s.authorityOf src < u.authorityOf src) ∧
    ∃ (s a : State) (t : Tick) (src : NodeId) (k key : List Nat) (x y : Tick), s.awake ∧ a = s.advance t ∧ a.reaches src ∧
      s.standby = false ∧ k.length = 8 ∧ s.access.key = some key ∧ k ≠ key ∧ (s.authRec src).lockedUntil ≤ a.now ∧ (s.authRec src).wrongKeys = [x, y] ∧
      a.now < x + 60 * secTicks ∧ a.now < y + 60 * secTicks :=
  ⟨⟨{ Tests.onRing with access := { key := some [1, 2, 3, 4, 5, 6, 7, 8] } }, _, 0, 3, [1, 2, 3, 4, 5, 6, 7, 8], rfl, by decide, 0, by decide⟩,
    ⟨Tests.onRing, _, 0, 3, 100, 3, true, rfl, by decide⟩,
    ⟨{ Tests.onRing with access := { key := some [1, 2, 3, 4, 5, 6, 7, 8] }, auth := [(3, { wrongKeys := [5, 5] })] }, _, 6, 3,
      [0, 0, 0, 0, 0, 0, 0, 0], [1, 2, 3, 4, 5, 6, 7, 8], 5, 5, ⟨rfl, rfl⟩, rfl, ⟨by decide, by decide⟩, rfl, rfl, rfl, by decide, by decide, by decide, by decide,
      by decide⟩⟩

theorem test_hyp_ResetLeavesEverythingAtRest : ∃ n : NodeId, n.val ≠ 0 := ⟨1, by decide⟩

theorem test_hyp_PeriodWritesAreJudged :
    (∃ (s a : State) (t : Tick) (src : NodeId) (c : CellId) (v : Int), s.awake ∧ a = s.advance t ∧ a.standby = false ∧
      a.reaches src ∧ 2 ≤ a.authorityOf src ∧ 0 ≤ v ∧ v < 4294967296 ∧ v < 12800) ∧
    (∃ (s a : State) (t : Tick) (src : NodeId) (c : CellId) (v : Int), s.awake ∧ a = s.advance t ∧ a.standby = false ∧
      a.reaches src ∧ 2 ≤ a.authorityOf src ∧ 0 ≤ v ∧ v < 4294967296 ∧ 1280000 < v) ∧
    (∃ (s a : State) (t : Tick) (src : NodeId) (c : CellId) (v : Int), s.awake ∧ a = s.advance t ∧ a.standby = false ∧
      a.reaches src ∧ 2 ≤ a.authorityOf src ∧ 0 ≤ v ∧ v < 4294967296 ∧ (a.cell c).state ≠ .idle ∧ (a.cell c).state ≠ .fault) ∧
    ∃ (s a : State) (t : Tick) (src : NodeId) (c : CellId) (v : Int), s.awake ∧ a = s.advance t ∧ a.standby = false ∧
      a.reaches src ∧ 2 ≤ a.authorityOf src ∧ 0 ≤ v ∧ v < 4294967296 ∧ 12800 ≤ v ∧ v ≤ 1280000 ∧
      ((a.cell c).state = .idle ∨ (a.cell c).state = .fault) ∧ a.cfg 0x5010 3 c < v ∧
      (a.noted src).budgetBroken c v = false :=
  ⟨⟨State.reset, _, 0, 0, 0, 12799, ⟨rfl, rfl⟩, rfl, rfl, ⟨by decide, by decide⟩, by decide, by decide, by decide, by decide⟩,
    ⟨State.reset, _, 0, 0, 0, 1280001, ⟨rfl, rfl⟩, rfl, rfl, ⟨by decide, by decide⟩, by decide, by decide, by decide, by decide⟩,
    ⟨{ State.reset with cells := [(0, { state := .run })] }, _, 0, 0, 0, 256000, ⟨rfl, rfl⟩, rfl, rfl, ⟨by decide, by decide⟩, by decide, by decide, by decide,
      by decide, by decide⟩,
    State.reset, _, 0, 0, 0, 12800, ⟨rfl, rfl⟩, rfl, rfl, ⟨by decide, by decide⟩, by decide, by decide, by decide, by decide, by decide, Or.inl rfl, by decide,
    by decide⟩

theorem test_hyp_ServiceResetEndsItsFault :
    (∃ (s a : State) (t : Tick) (src : NodeId) (svc : SvcId), s.awake ∧ a = s.advance t ∧ a.accepts src 1 false ∧
      a.inFault .chip = false ∧ a.justFaulted (.service svc) = false ∧ svc.val = 2 ∧ (a.fault (.service 2)).raised.contains (0x8101, 0) = true ∧ a.cfg 0x1200 3 0 ≠ 2) ∧
    (∃ (s a : State) (t : Tick) (src : NodeId) (svc : SvcId) (e : Event), s.awake ∧ a = s.advance t ∧ a.accepts src 1 false ∧
      a.inFault .chip = false ∧ a.justFaulted (.service svc) = false ∧ e ∈ a.serviceCauses svc) ∧
    (∃ (s a : State) (t : Tick) (src : NodeId) (svc : SvcId), s.awake ∧ a = s.advance t ∧ a.accepts src 1 false ∧
      a.inFault .chip = false ∧ a.justFaulted (.service svc) = true) ∧
    ∃ (s a : State) (t : Tick) (src : NodeId) (svc : SvcId) (e : Elem), s.awake ∧ a = s.advance t ∧ a.accepts src 1 false ∧
      a.inFault .chip = false ∧ a.justFaulted (.service svc) = false ∧ a.serviceCauses svc = [] ∧ e ≠ .service svc :=
  ⟨⟨{ State.reset with faults := [(.service 2, { inFault := true, raised := [(0x8101, 0)] })] }, _, 0, 0, 2, ⟨rfl, rfl⟩, rfl,
      ⟨⟨by decide, by decide⟩, Or.inl rfl, by decide⟩, rfl, rfl, rfl, rfl, by decide⟩,
    ⟨{ State.reset with ring := { State.reset.ring with isolated := true } }, _, 0, 0, 1, _, ⟨rfl, rfl⟩, rfl,
      ⟨⟨by decide, by decide⟩, Or.inl rfl, by decide⟩, rfl, rfl, List.Mem.head _⟩,
    ⟨{ State.reset with faults := [(.service 2, { inFault := true, raised := [(0x8101, 0)], fresh := [(0x8101, 0)] })] }, _, 0, 0, 2,
      ⟨rfl, rfl⟩, rfl, ⟨⟨by decide, by decide⟩, Or.inl rfl, by decide⟩, rfl, rfl⟩,
    State.reset, _, 0, 0, 1, .chip, ⟨rfl, rfl⟩, rfl, ⟨⟨by decide, by decide⟩, Or.inl rfl, by decide⟩, rfl, rfl, rfl, by decide⟩
end

section
/-! PROOFS. The hierarchy and the order of events and commands: resets, the dictionary server, doubles, fault states, the
arbiters, and the commands that the block arbiter orders. -/

namespace Sys2Proof.Machine

variable (s : State)

/-! ### Ways into a command -/

/-- The source that a dictionary row names is the source that it is judged by. -/
@[simp] theorem nodeOf_val (src : NodeId) : nodeOf src.val = src := Fin.ofNat_val_eq_self src

@[simp] theorem State.keep_self : s.keep s = s := rfl

/-- A dictionary command that its source may give, on a chip out of reset, has its effect on the state with the request noted. -/
theorem State.live_dict_accepted (t : Tick) (c : Instr) (src need : Nat) (own : Bool) (f : State → State) (hs : s.awake)
    (ha : (s.advance t).accepts src need own) :
    s.live t (fun s => s.dict c src need own f) = .next ((s.advance t).keep (f ((s.advance t).noted src))) := by
  rw [s.live_awake t _ hs, State.dict_accepted _ _ _ _ _ _ ha]

/-- An accepted reset command with the right key, which nothing refuses, has its effect and answers 0 (R44, R46). -/
theorem State.live_reset_accepted (t : Tick) (c : Instr) (src need : Nat) (own : Bool) (refused : State → Bool)
    (f : State → State) (hs : s.awake) (ha : (s.advance t).accepts src need own)
    (hr : refused ((s.advance t).noted src) = false) :
    s.live t (fun s => s.dict c src need own fun s => s.keyed resetKey (refused s) f) =
      .next ((s.advance t).keep ((f ((s.advance t).noted src)).result 0)) := by
  rw [s.live_dict_accepted t c src need own _ hs ha, hr, State.keyed_right]

/-- So has one that a chip in recovery mode serves too (R432). -/
theorem State.boot_reset_accepted (t : Tick) (c : Instr) (src need : Nat) (own : Bool) (f : State → State) (hs : s.awake)
    (ha : (s.advance t).accepts src need own) :
    s.boot t src (fun s => s.dict c src need own fun s => s.keyed resetKey false f) =
      .next ((s.advance t).keep ((f ((s.advance t).noted src)).result 0)) := by
  rw [s.boot_awake t src _ hs, State.dict_accepted _ _ _ _ _ _ ha, State.keyed_right]

/-! ### Resets -/

/-- Settles O2: each reset is a row of the dictionary with its effect behind the key, and the conditions of a clause choose the
branch of that effect. -/
theorem resetsActOnTheirElement : Obligations.ResetsActOnTheirElement := by
  intro s a b t src hs ha hb
  subst ha hb
  refine ⟨fun c h hblock hregion hchip => ?_, fun k h hregion hchip hlatch => ?_, fun r h hchip hrest => ?_,
    fun r h hchip hrest => ?_, fun h hsingle => ?_, fun h hactive hpartner hfree => ?_, fun f h hfree => ?_, fun n h => ?_,
    fun svc h hchip => ?_, fun h hchip hraised hlink => ?_⟩
  · exact s.live_reset_accepted t _ _ _ _ _ _ hs h (by simp [hblock, hregion, hchip])
  · refine (s.live_dict_accepted t _ _ _ _ _ hs h).trans ?_
    simp [hregion, hchip, hlatch, State.keyed_right]
  · refine (s.live_reset_accepted t _ _ _ _ _ _ hs h hchip).trans ?_
    dsimp only
    rw [if_pos hrest]
  · refine (s.live_reset_accepted t _ _ _ _ _ _ hs h hchip).trans ?_
    dsimp only
    rw [if_neg (by rw [hrest]; exact Bool.false_ne_true)]
  · refine (s.boot_reset_accepted t _ _ _ _ _ hs h).trans ?_
    rw [if_neg hsingle]
  · refine (s.boot_reset_accepted t _ _ _ _ _ hs h).trans ?_
    rw [if_pos ⟨hactive, hpartner⟩]
    simp [hfree]
  · refine (s.live_dict_accepted t _ _ _ _ _ hs h).trans ?_
    rw [if_neg (by simp [hfree])]
  · exact s.live_reset_accepted t _ _ _ _ (fun _ => false) _ hs h rfl
  · exact s.live_reset_accepted t _ _ _ _ _ _ hs h hchip
  · refine (s.live_reset_accepted t _ _ _ _ _ _ hs h hchip).trans ?_
    have hcause : ((s.advance t).noted src).serviceCauses (2 : SvcId) = [ev 0x8101 0] := if_pos ⟨hraised, hlink⟩
    rw [hcause]
    rfl

/-! ### The dictionary server -/

/-- Every command of the dictionary is a row that the dictionary server judges by its source, its object's authority and its
reach. -/
theorem exec_dictionary {c : Instr} {src : NodeId} {need : Nat} {own : Bool} (hs : s.awake)
    (hc : c.dictionary = some (src, need, own)) :
    ∃ f : State → State, exec c s = .next ((s.advance c.time).keep ((s.advance c.time).dict c src need own f)) := by
  unfold Instr.dictionary at hc
  split at hc
  case h_56 => cases hc
  -- the rows that a chip in recovery mode serves too (R432): `chipReset`, `imageTransfer`, `installAbort`
  case h_35 | h_42 | h_43 =>
    cases hc
    exact ⟨_, (s.boot_awake _ _ _ hs).trans (by simp only [nodeOf_val]; rfl)⟩
  all_goals
    cases hc
    exact ⟨_, (s.live_awake _ _ hs).trans (by simp only [nodeOf_val, State.dictGroup]; rfl)⟩

/-- A row of a node is refused for want of authority with 0x7302, at most once per second for each source. -/
theorem State.refuseAuthority_node (src : NodeId) :
    s.refuseAuthority src = (s.raiseLimited src (ev 0x7302 0)).result 0x30 := by
  rw [State.refuseAuthority, if_neg (by omega)]

/-- Settles O38: `exec_dictionary` says that each row goes through `State.dict`, and the rules of `State.dict` say what it
answers. -/
theorem dictionaryIsJudged : Obligations.DictionaryIsJudged := by
  intro s a c src need own hs ha hc
  subst ha
  obtain ⟨f, hf⟩ := exec_dictionary s hs hc
  rw [hf]
  refine ⟨fun hears => ?_, fun u hears htakes hu => ?_, fun hreach hstandby hown => ?_, fun hreach hserves hneed => ?_⟩
  · rw [State.dict_unheard _ _ _ _ _ _ hears, State.keep_self]
  · subst hu
    rw [State.dict, if_pos hears, State.place_waits _ _ _ _ (by simpa using htakes)]
  · subst hown
    rw [State.dict_standby _ _ _ _ _ hreach hstandby src.isLt]
  · rw [State.dict_refused _ _ _ _ _ _ hreach hserves hneed, State.refuseAuthority_node]

/-! ### Doubles -/

/-- Two rows of one source and one effect do the same where neither waits: which row came matters only to one that waits. -/
theorem State.dict_congr (c d : Instr) (src need : Nat) (own : Bool) (f g : State → State)
    (htakes : s.hears src = true → s.chipTakes 12 = true) (hfg : f (s.noted src) = g (s.noted src)) :
    s.dict c src need own f = s.dict d src need own g := by
  by_cases hears : s.hears src = true
  · rw [State.dict_reaches _ _ _ _ _ _ ⟨hears, htakes hears⟩, State.dict_reaches _ _ _ _ _ _ ⟨hears, htakes hears⟩]
    have hnoted : (s.admitted src).result 0 = s.noted src := rfl
    simp only [State.judge, hnoted, hfg]
  · simp [State.dict, hears]

/-- The effect of an accepted BLOCK_RESET (R45, R47, R48). -/
def State.blockResetEffect (key b : Nat) (s : State) : State :=
  s.keyed key (s.inFault (.region (b / 4)) || s.inFault .chip || (s.resetBlocks b).any fun i => decide (s.cfg 0x4030 1 i = 1))
    fun u => (s.resetBlocks b).foldl State.resetBlock u

/-- The lower block of a doubles group and the upper one name the same two blocks. -/
theorem State.resetBlocks_doubles {b c : Nat} (heven : b % 2 = 0) (hnext : c = b + 1) (hd : s.doubles b = true) :
    s.resetBlocks b = [b, b + 1] ∧ s.resetBlocks c = [b, b + 1] := by
  have hc : c - c % 2 = b := by omega
  simp [State.resetBlocks, heven, hc, hd]

/-- The two blocks of a doubles group lie in one region and reset alike. -/
theorem State.blockResetEffect_doubles (key : Nat) {b c : Nat} (heven : b % 2 = 0) (hnext : c = b + 1) (hd : s.doubles b = true) :
    s.blockResetEffect key b = s.blockResetEffect key c := by
  obtain ⟨hb, hc⟩ := s.resetBlocks_doubles heven hnext hd
  have hregion : c / 4 = b / 4 := by omega
  simp only [State.blockResetEffect, hb, hc, hregion]

/-- Whether a block is the lower one of a doubles group is an object's value. -/
theorem State.doubles_of_obj {s u : State} (h : s.obj = u.obj) (b : Nat) : s.doubles b = u.doubles b := by
  unfold State.doubles
  rw [State.cfg_of_obj h]

@[simp] theorem State.noted_obj (src : Nat) : (s.noted src).obj = s.obj := by
  unfold State.noted State.admitted State.received State.noteRequest
  split
  · rfl
  · split <;> rfl

/-- BLOCK_RESET on a chip out of reset is a row of the dictionary with that effect. -/
theorem execBlockReset_awake {t : Tick} {src : NodeId} {b : BlockId} {key : Nat} (hs : s.awake) :
    execBlockReset t src b key s = .next ((s.advance t).keep
      ((s.advance t).dict (.blockReset t src b key) src 1 false (State.blockResetEffect key b))) :=
  (s.live_awake _ _ hs).trans (by rw [nodeOf_val]; rfl)

/-- A BLOCK_RESET that does not wait does the same whichever of the two blocks it names. -/
theorem execBlockReset_doubles {t : Tick} {src : NodeId} {b c : BlockId} {key : Nat} (hs : s.awake) (heven : b.val % 2 = 0)
    (hnext : c.val = b.val + 1) (hd : (s.advance t).doubles b = true)
    (htakes : (s.advance t).hears src = true → (s.advance t).chipTakes 12 = true) :
    execBlockReset t src b key s = execBlockReset t src c key s := by
  have hn : ((s.advance t).noted src).doubles b = true := by rw [State.doubles_of_obj (State.noted_obj _ _), hd]
  rw [execBlockReset_awake s hs, execBlockReset_awake s hs,
    State.dict_congr _ _ _ _ _ _ _ _ htakes (State.blockResetEffect_doubles _ key heven hnext hn)]

/-- Settles O50: both rows name the blocks b and b + 1, one region and one effect. -/
theorem doublesResetTogether : Obligations.DoublesResetTogether := by
  intro s a t src b c key hs ha heven hnext hd
  subst ha
  have hd' : (s.advance t).doubles b = true := by rw [← State.doubles_of_obj (State.noted_obj _ src), hd]
  refine ⟨fun hreach => ?_, ?_, fun haccepts hregion hchip hb hc => ?_⟩
  · exact execBlockReset_doubles s hs heven hnext hd' fun _ => hreach.2
  · have h : execBlockReset t src b key { s.advance t with accepting := true } =
        execBlockReset t src c key { s.advance t with accepting := true } :=
      execBlockReset_doubles _ hs heven hnext ((State.doubles_of_obj rfl _).trans hd') fun _ => rfl
    exact congrArg (fun o => { outcomeState { s.advance t with accepting := true } o with accepting := s.accepting }) h
  · have hblocks : ((s.advance t).noted src).resetBlocks b = [b.val, c.val] := by
      rw [hnext]; exact (State.resetBlocks_doubles _ heven hnext hd).1
    refine (execBlockReset_awake s hs).trans ?_
    rw [State.dict_accepted _ _ _ _ _ _ haccepts]
    simp [State.blockResetEffect, hblocks, hregion, hchip, hb, hc, State.keyed_right]

/-! ### Fault states -/

/-- A mark sets the fault state of its element, with the code (R41). -/
theorem State.markFault_marks (code inst : Nat) (o : Elem) :
    (s.markFault code inst o).inFault o = true ∧ ((s.markFault code inst o).fault o).raised.contains (code, inst) = true := by
  have hrec := s.fault_setFault o
  unfold State.inFault State.markFault
  dsimp only
  rw [hrec]
  refine ⟨rfl, ?_⟩
  dsimp only
  split
  · assumption
  · simp

/-- It leaves every other element. -/
theorem State.fault_markFault_ne (code inst : Nat) {o d : Elem} (h : d ≠ o) : (s.markFault code inst o).fault d = s.fault d :=
  s.fault_setFault_ne _ h

/-- Marks leave every element that is no owner. -/
theorem State.fault_markFaults_of_notMem (code inst : Nat) {d : Elem} (l : List Elem) (h : d ∉ l) :
    (l.foldl (fun s o => s.markFault code inst o) s).fault d = s.fault d := by
  induction l generalizing s with
  | nil => rfl
  | cons o r ih =>
    obtain ⟨hne, hr⟩ : d ≠ o ∧ d ∉ r := by simpa using h
    exact (ih (s.markFault code inst o) hr).trans (s.fault_markFault_ne code inst hne)

/-- Marks set the fault state of every owner: the last mark of it does, and those after it leave it. -/
theorem State.markFaults_marks (code inst : Nat) {d : Elem} (l : List Elem) (h : d ∈ l) :
    (l.foldl (fun s o => s.markFault code inst o) s).inFault d = true ∧
      ((l.foldl (fun s o => s.markFault code inst o) s).fault d).raised.contains (code, inst) = true := by
  induction l generalizing s with
  | nil => cases h
  | cons o r ih =>
    by_cases hr : d ∈ r
    · exact ih (s.markFault code inst o) hr
    · obtain rfl : d = o := (List.mem_cons.mp h).resolve_right hr
      rw [List.foldl_cons, State.inFault, State.fault_markFaults_of_notMem _ code inst r hr]
      exact s.markFault_marks code inst d

@[simp] theorem State.faults_offer (i : ArbInput) (p : Payload) : (s.offer i p).faults = s.faults := by
  obtain ⟨q, h⟩ := s.offer_changes i p
  rw [h]

@[simp] theorem State.faults_noteLocal (e : Event) : (s.noteLocal e).faults = s.faults := by
  obtain ⟨l, h⟩ := s.noteLocal_changes e
  rw [h]

/-- What an event that is no repeat does to the fault states: its owners are marked. -/
theorem State.faults_raise_new (e : Event) (h : s.repeats e = false) :
    (s.raise e).faults = (e.faultOwners.foldl (fun s o => s.markFault e.code e.raisedAs o) (s.noteLocal e)).faults := by
  simp [State.raise, h]

/-- A fault state is read from the bank of fault states alone. -/
theorem State.fault_of_faults {s u : State} (h : s.faults = u.faults) (o : Elem) : s.fault o = u.fault o := by
  unfold State.fault
  rw [h]

/-- An event of pip 1 or 2 owns no fault state (Table 13-2). -/
theorem Event.faultOwners_low (e : Event) (h : pipOf e.code < 3) : e.faultOwners = [] := if_pos h

/-! ### Arbiter inputs -/

/-- A full input discards and counts an event of pip 1 or 2 (R40). -/
theorem State.offer_discards (i : ArbInput) (p : Payload) (hfull : 32 ≤ (s.input i).items.length) (hevent : p.isCommand = false)
    (hpip : p.pip ≤ 2) :
    (s.offer i p).input i = { s.input i with
      discarded := min 65535 ((s.input i).discarded + 1)
      firstDiscarded := if (s.input i).discarded = 0 then p.code else (s.input i).firstDiscarded } := by
  simp [State.offer, hfull, hevent, hpip]

/-- An input takes everything else (R40, R474). -/
theorem State.offer_takes (i : ArbInput) (p : Payload)
    (h : (s.input i).items.length < 32 ∨ p.isCommand = true ∨ 3 ≤ p.pip) :
    (s.offer i p).input i = { s.input i with items := (s.input i).items ++ [⟨s.now, p⟩] } := by
  have hno : ¬ (32 ≤ (s.input i).items.length ∧ (!p.isCommand) = true ∧ p.pip ≤ 2) := by
    rintro ⟨hfull, hevent, hpip⟩
    rcases h with h | h | h
    · omega
    · simp [h] at hevent
    · omega
  unfold State.offer
  dsimp only
  rw [if_neg hno, State.input_setInput]

/-- An item that is offered reaches one input and no other. -/
theorem State.offer_input_ne {i j : ArbInput} (p : Payload) (h : j ≠ i) : (s.offer i p).input j = s.input j := by
  unfold State.offer
  dsimp only
  split <;> exact s.input_setInput_ne _ h

/-- Settles O52: the fault states follow the marks of the owners, and the inputs follow `State.offer`. -/
theorem eventsReachTheirArbiter : Obligations.EventsReachTheirArbiter := by
  intro s
  refine ⟨s.raise_repeat, fun e hnew hpip => ?_, fun e o hnew ho => ?_, fun e o ho => ?_, fun i p hfull hevent hpip => ?_,
    fun i p hroom => ?_, fun i j p hne => s.offer_input_ne p hne⟩
  · rw [s.faults_raise_new e hnew, e.faultOwners_low hpip]
    exact s.faults_noteLocal e
  · obtain ⟨hin, hraised⟩ := (s.noteLocal e).markFaults_marks e.code e.raisedAs e.faultOwners ho
    rw [State.inFault, State.fault_of_faults (s.faults_raise_new e hnew)]
    exact ⟨hin, hraised⟩
  · cases hnew : s.repeats e with
    | true => rw [s.raise_repeat e hnew]; rfl
    | false =>
      rw [State.fault_of_faults (s.faults_raise_new e hnew), State.fault_markFaults_of_notMem _ _ _ _ ho]
      exact State.fault_of_faults (s.faults_noteLocal e) o
  · have hcmd : p.isCommand = false := by
      cases p with
      | event e => rfl
      | command c => exact absurd rfl (hevent c)
    rw [s.offer_discards i p hfull hcmd hpip]
    exact ⟨rfl, rfl⟩
  · refine s.offer_takes i p (hroom.imp_right (Or.imp_left ?_))
    rintro ⟨c, rfl⟩
    rfl

/-! ### The chip's own numbers -/

/-- The chip's sequence numbers in a state: the last one issued, and what the always-on domain keeps of it (R38, R452). -/
def State.numbers (s : State) : Nat × AlwaysOn := (s.chipSeq, s.always)

/-- A walk over a list keeps what each of its steps keeps. -/
theorem foldl_keeps {α β γ : Type} (m : α → γ) (f : α → β → α) (h : ∀ x y, m (f x y) = m x) (l : List β) (x : α) :
    m (l.foldl f x) = m x :=
  (List.foldl_hom m (g₂ := fun z _ => z) fun x y => (h x y).symm).symm.trans (List.foldl_fixed l)

@[simp] theorem State.numbers_appendRecord (b : RecBody) : (s.appendRecord b).numbers = s.numbers := by
  unfold State.appendRecord
  split <;> rfl

/-- A new floor touches the record area and the floor alone (R39). -/
theorem State.numbers_withFloor (b : RecBody) (f : Nat) : { s.appendRecord b with seqFloor := f }.numbers = s.numbers :=
  s.numbers_appendRecord b

@[simp] theorem State.numbers_keepFloor : s.keepFloor.numbers = s.numbers := by
  unfold State.keepFloor
  rw [apply_ite State.numbers]
  exact ite_eq_right_iff.mpr fun _ => s.numbers_withFloor _ _

@[simp] theorem State.numbers_latchFirst (e : Event) (o : Elem) : (s.latchFirst e o).numbers = s.numbers := by
  unfold State.latchFirst
  dsimp only
  split <;> rfl

@[simp] theorem State.numbers_advise (code : Nat) : (s.advise code).numbers = s.numbers := by
  unfold State.advise
  split
  · simp [State.numbers, State.bump]
  · rfl

@[simp] theorem State.numbers_headerAccepted (e : Event) : (s.headerAccepted e).numbers = s.numbers := by
  unfold State.headerAccepted
  split <;> rfl

@[simp] theorem State.numbers_fireCapture (x cause seq : Nat) (at? : Tick) :
    (s.fireCapture x cause seq at?).numbers = s.numbers := by
  unfold State.fireCapture
  dsimp only
  split
  · rfl
  · simp [State.numbers, State.bump]

@[simp] theorem State.numbers_eventFires (code pip seq : Nat) (at? : Tick) :
    (s.eventFires code pip seq at?).numbers = s.numbers := by
  refine foldl_keeps State.numbers _ (fun u x => ?_) _ s
  dsimp only
  split
  · exact u.numbers_fireCapture _ _ _ _
  · rfl

@[simp] theorem State.numbers_enqueue (r : JRec) : (s.enqueue r).numbers = s.numbers := by
  unfold State.enqueue
  dsimp only
  split <;> rfl

/-- An accepted event takes the next sequence number, and the always-on domain keeps it (R37, R38). -/
theorem State.numbers_acceptEvent (e : Event) :
    (s.acceptEvent e).numbers = (nextSeq s.chipSeq, { s.always with lastSeq := nextSeq s.chipSeq }) := by
  have hlatch : ∀ u : State, (e.owners.foldl (fun s o => s.latchFirst e o) u).numbers = u.numbers :=
    foldl_keeps State.numbers _ (fun u o => u.numbers_latchFirst e o) _
  unfold State.acceptEvent
  dsimp only
  split <;> simp [hlatch] <;> rfl

/-- The chip sequence numbers run through 1 to 0xFFFF_FFFF (R38). -/
theorem nextSeq_of_lt {n : Nat} (h : n < 0xFFFFFFFF) : nextSeq n = n + 1 := by
  unfold nextSeq
  rw [if_neg] <;> omega

/-- No issued number is 0, and each fits 32 bits (R38). -/
theorem nextSeq_range (n : Nat) : nextSeq n ≠ 0 ∧ nextSeq n < 0x100000000 := by
  unfold nextSeq
  split <;> omega

/-! ### What the arbiters may change -/

/-- Nothing but the time, the arbiter inputs, the acceptances and the region numbers differs between two states. -/
def State.arbiterStep (s u : State) : Prop :=
  u = { s with now := u.now, inputs := u.inputs, acceptAt := u.acceptAt, regionSeq := u.regionSeq }

/-- All that an acceptance can do: nothing, or the winner leaves its input and is handed on. -/
theorem State.arbitrate_cases (level num : Nat) (inputs : List ArbInput) (commandsOnly : Bool) (f : State → Payload → State) :
    s.arbitrate level num inputs commandsOnly f = s ∨
      ∃ i n p, s.arbitrate level num inputs commandsOnly f = f (s.taken level num i n) p := by
  unfold State.arbitrate
  split
  · split
    · exact .inr ⟨_, _, _, rfl⟩
    · exact .inl rfl
  · exact .inl rfl

theorem State.arbiterStep_trans {s u v : State} (h : s.arbiterStep u) (h' : u.arbiterStep v) : s.arbiterStep v :=
  h'.trans (by rw [h])

theorem State.arbiterStep_offer (i : ArbInput) (p : Payload) : s.arbiterStep (s.offer i p) := by
  obtain ⟨q, h⟩ := s.offer_changes i p
  rw [h]; rfl

/-- An arbiter that hands its winner on with such a step makes such a step. -/
theorem State.arbiterStep_arbitrate (level num : Nat) (inputs : List ArbInput) (commandsOnly : Bool)
    (f : State → Payload → State) (hf : ∀ (u : State) (p : Payload), u.arbiterStep (f u p)) :
    s.arbiterStep (s.arbitrate level num inputs commandsOnly f) := by
  rcases s.arbitrate_cases level num inputs commandsOnly f with h | ⟨i, n, p, h⟩
  · rw [h]; rfl
  · rw [h]
    have htaken : s.arbiterStep (s.taken level num i n) := rfl
    exact State.arbiterStep_trans htaken (hf _ p)

/-- A command whose effect is such a step makes one, or only passes the time. -/
theorem State.arbiterStep_live (t : Tick) (f : State → State) (hf : ∀ a : State, a.arbiterStep (f a)) {u : State}
    (h : s.live t f = .next u) : s.arbiterStep u := by
  have hadvance : s.arbiterStep (s.advance t) := rfl
  unfold State.live at h
  split at h
  · cases h
    exact hadvance
  · cases h
    have hkeep : (f (s.advance t)).arbiterStep ((s.advance t).keep (f (s.advance t))) := by
      rw [State.arbiterStep, State.keep, hf (s.advance t)]
    exact State.arbiterStep_trans hadvance (State.arbiterStep_trans (hf _) hkeep)

/-- The block arbiter passes an item on to its region (R35). -/
theorem State.arbiterStep_block {t : Tick} {b : BlockId} {u : State} (h : execBlockArbiterAccept t b s = .next u) :
    s.arbiterStep u :=
  s.arbiterStep_live t _ (fun a => a.arbiterStep_arbitrate _ _ _ _ _ fun v p => v.arbiterStep_offer _ p) h

/-- The region arbiter numbers an event and passes it on (R36). -/
theorem State.arbiterStep_region {t : Tick} {r : RegionId} {u : State} (h : execRegionArbiterAccept t r s = .next u) :
    s.arbiterStep u := by
  refine s.arbiterStep_live t _ (fun a => a.arbiterStep_arbitrate _ _ _ _ _ fun v p => ?_) h
  cases p with
  | event e =>
    have hnumber : v.arbiterStep { v with regionSeq := bset v.regionSeq r.val ((bget 0 v.regionSeq r.val + 1) % 65536) } := rfl
    exact State.arbiterStep_trans hnumber (State.arbiterStep_offer _ _ _)
  | command c => exact v.arbiterStep_offer _ _

/-- The merged note goes into the input whose events were discarded (R40). -/
theorem State.arbiterStep_merged {t : Tick} {i : ArbInput} {u : State} (h : execEventsMerged t i s = .next u) :
    s.arbiterStep u := by
  refine s.arbiterStep_live t _ (fun a => ?_) h
  dsimp only
  split
  · have hcleared : a.arbiterStep (a.setInput i { a.input i with discarded := 0, firstDiscarded := 0 }) := rfl
    exact State.arbiterStep_trans hcleared (State.arbiterStep_offer _ _ _)
  · rfl

/-- An arbiter whose latest acceptance lies in this SYS cycle leaves the state as it is. -/
theorem State.live_arbitrate_once (t at0 : Tick) (level num : Nat) (inputs : List ArbInput) (commandsOnly : State → Bool)
    (f : State → Payload → State) (hs : s.awake) (hcycle : (s.advance t).now / cycleTicks ≤ at0 / cycleTicks)
    (hat : bget none (s.acceptAt.map fun p => (p.1, some p.2)) (level, num) = some at0) :
    s.live t (fun a => a.arbitrate level num inputs (commandsOnly a) f) = .next (s.advance t) := by
  rw [s.live_awake t _ hs, (s.advance t).arbitrate_once _ _ _ _ _ at0 hat hcycle, State.keep_self]

/-- Settles O53: the counts are `State.numbers_acceptEvent` and `nextSeq`, an arbiter that has accepted is
`State.live_arbitrate_once`, and the frame is `State.arbiterStep`. -/
theorem arbitersCountAndPassOne : Obligations.ArbitersCountAndPassOne := by
  refine ⟨fun n h => nextSeq_of_lt h, rfl, nextSeq_range, fun s e => ?_, fun s a t at0 hs ha hcycle => ?_,
    fun s u t b r i c hc hu => ?_⟩
  · have h := s.numbers_acceptEvent e
    exact ⟨congrArg Prod.fst h, congrArg (fun p => p.2.lastSeq) h⟩
  · subst ha
    exact ⟨s.live_arbitrate_once t at0 3 0 chipInputs State.journalFull _ hs hcycle,
      fun r => s.live_arbitrate_once t at0 2 r (regionInputs r) (fun _ => false) _ hs hcycle,
      fun b => s.live_arbitrate_once t at0 1 b (blockInputs b) (fun _ => false) _ hs hcycle⟩
  · rcases hc with rfl | rfl | rfl
    · exact s.arbiterStep_block hu
    · exact s.arbiterStep_region hu
    · exact s.arbiterStep_merged hu

/-! ### What a winning item does -/

/-- An arbiter that is free hands on the item that wins (R35 to R37). -/
theorem State.live_arbitrate_wins (t : Tick) (level num : Nat) (inputs : List ArbInput) (commandsOnly : State → Bool)
    (f : State → Payload → State) (i : ArbInput) (n : Nat) (x : Item) (hs : s.awake)
    (hwin : (s.advance t).wins level num inputs (commandsOnly (s.advance t)) i n x) :
    s.live t (fun a => a.arbitrate level num inputs (commandsOnly a) f) =
      .next ((s.advance t).keep (f ((s.advance t).taken level num i n) x.payload)) := by
  rw [s.live_awake t _ hs, State.arbitrate_wins _ _ _ _ _ _ _ _ _ hwin]

/-- Settles O1: `State.live_arbitrate_wins` says that the winner is handed on, and what it is handed to is the arbiter's own
branch for an event or a command. -/
theorem arbitersAccept : Obligations.ArbitersAccept := by
  intro s a t hs ha
  subst ha
  refine ⟨fun b i n x hwin => ?_, fun r i n at? e hwin => ?_, fun r i n at? c hwin => ?_, fun i n at? e hwin => ?_,
    fun i n at? c hwin => ?_, fun i hdiscarded hroom => ?_⟩
  · exact s.live_arbitrate_wins t 1 b _ (fun _ => false) _ i n x hs hwin
  · exact s.live_arbitrate_wins t 2 r _ (fun _ => false) _ i n _ hs hwin
  · exact s.live_arbitrate_wins t 2 r _ (fun _ => false) _ i n _ hs hwin
  · exact s.live_arbitrate_wins t 3 0 _ State.journalFull _ i n _ hs hwin
  · exact s.live_arbitrate_wins t 3 0 _ State.journalFull _ i n _ hs hwin
  · refine (s.live_awake t _ hs).trans ?_
    dsimp only
    rw [if_pos ⟨hdiscarded, hroom⟩]

/-! ### Group commands -/

/-- A group command that the dictionary server takes, for a group of no upper copy and with no command of this SYS cycle, acts as
the block arbiter's command of its rank (R31, R34). -/
theorem State.live_groupRow_free (t : Tick) (c : Instr) (src g rank : Nat) (start : Bool) (f : State → State) (hs : s.awake)
    (ha : (s.advance t).accepts src 1 false) (hcopy : ((s.advance t).noted src).upperCopy (g / 4) = false)
    (hfree : ((s.advance t).noted src).groupFree g = true) :
    s.live t (fun s => s.dictGroup c src g fun s => s.groupAccept g rank start f) =
      .next ((s.advance t).keep (f (((s.advance t).noted src).ranked g rank))) := by
  refine (s.live_dict_accepted t c src 1 false _ hs ha).trans ?_
  rw [hcopy, if_neg Bool.false_ne_true]
  dsimp only
  rw [State.groupAccept_free _ _ _ _ _ hfree]

/-- A group whose latest command is of this SYS cycle is not free. -/
theorem State.groupFree_of_cmdAt {g rank : Nat} (h : (s.group g).cmdAt = some (s.now / cycleTicks, rank)) :
    s.groupFree g = false := by
  simp [State.groupFree, h]

/-- A group command other than a start that meets a stop for a fault in its SYS cycle is discarded (Table 02-3). -/
theorem State.live_groupRow_stopped (t : Tick) (c : Instr) (src g rank : Nat) (f : State → State) (hs : s.awake)
    (hrank : rank ≠ 1) (ha : (s.advance t).accepts src 1 false) (hcopy : ((s.advance t).noted src).upperCopy (g / 4) = false)
    (hstop : (((s.advance t).noted src).group g).cmdAt = some (((s.advance t).noted src).now / cycleTicks, 1)) :
    s.live t (fun s => s.dictGroup c src g fun s => s.groupAccept g rank false f) =
      .next ((s.advance t).keep ((s.advance t).noted src)) := by
  refine (s.live_dict_accepted t c src 1 false _ hs ha).trans ?_
  rw [hcopy, if_neg Bool.false_ne_true]
  dsimp only
  rw [State.groupAccept_stopped _ _ _ _ hrank hstop (State.groupFree_of_cmdAt _ hstop)]

/-- A start that is refused answers 0x23 with its result code and 0x2402 (R129, R130). -/
theorem State.startGroup_refused (g : Nat) (h : s.startResult g ≠ 0) :
    s.startGroup g = ((s.put (0x6200 + g % 4) 0xC (g / 4) (s.startResult g)).raise
      { ev 0x2402 (g / 4) with value := s.startResult g, stateCode := (s.group g).state.code, second := g }).result 0x23 := by
  rw [State.startGroup]
  exact if_neg h

/-- One that nothing refuses begins, with the result code 0 (R130). -/
theorem State.startGroup_accepted (g : Nat) (h : s.startResult g = 0) :
    s.startGroup g = ((s.put (0x6200 + g % 4) 0xC (g / 4) 0).beginStart g).result 0 := by
  rw [State.startGroup, h]
  exact if_pos rfl

theorem State.runGroupCommand_start (g : Nat) : s.runGroupCommand g 1 = s.startGroup g := rfl

/-- A target inside its window is stored as written (R125). -/
theorem State.writeTarget_inside (g : Nat) (v : Int) (hlo : s.cfg (0x6200 + g % 4) 6 (g / 4) ≤ v)
    (hhi : v ≤ s.cfg (0x6200 + g % 4) 7 (g / 4)) :
    s.writeTarget g v = (s.put (0x6200 + g % 4) 3 (g / 4) v).result 0 := by
  have hw : limitInt v (s.cfg (0x6200 + g % 4) 6 (g / 4)) (s.cfg (0x6200 + g % 4) 7 (g / 4)) = v := by
    rw [limitInt, if_neg (by omega), if_neg (by omega)]
  rw [State.writeTarget, hw]
  exact if_pos rfl

/-- A target above its window is stored as the upper end, with the clamp flag, 0x2401 and the clamp result (R125). -/
theorem State.writeTarget_above (g : Nat) (v : Int)
    (hwin : s.cfg (0x6200 + g % 4) 6 (g / 4) ≤ s.cfg (0x6200 + g % 4) 7 (g / 4)) (hhi : s.cfg (0x6200 + g % 4) 7 (g / 4) < v) :
    s.writeTarget g v = (((s.put (0x6200 + g % 4) 3 (g / 4) (s.cfg (0x6200 + g % 4) 7 (g / 4))).put
      (0x6200 + g % 4) 8 (g / 4) 1).raise
      { ev 0x2401 (g / 4) with
        value := v, limit := s.cfg (0x6200 + g % 4) 7 (g / 4), stateCode := (s.group g).state.code, second := g }).result 1 := by
  have hw : limitInt v (s.cfg (0x6200 + g % 4) 6 (g / 4)) (s.cfg (0x6200 + g % 4) 7 (g / 4)) =
      s.cfg (0x6200 + g % 4) 7 (g / 4) := by
    rw [limitInt, if_neg (by omega), if_pos hhi]
  rw [State.writeTarget, hw]
  exact if_neg (by omega)

/-- Settles O7: a row reaches the block arbiter, and there acts at once or meets the stop of its SYS cycle. -/
theorem groupCommandsComplete : Obligations.GroupCommandsComplete := by
  intro s a b t src hs ha hb
  subst ha hb
  refine ⟨fun g c h hcopy hfree hc hres => ?_, fun g c h hcopy hfree hc hres => ?_, fun g c h hcopy hfree hc => ?_,
    fun g c h hcopy hfree hc => ?_, fun g v c h hcopy hfree hc hlo hhi => ?_, fun g v c h hcopy hfree hc hwin hhi => ?_,
    fun g at? h hcopy hat hstop v => ?_⟩
  · subst hc
    refine (s.live_groupRow_free t _ src g 3 true _ hs h hcopy hfree).trans ?_
    rw [State.runGroupCommand_start, State.startGroup_refused _ _ hres]
  · subst hc
    refine (s.live_groupRow_free t _ src g 3 true _ hs h hcopy hfree).trans ?_
    rw [State.runGroupCommand_start, State.startGroup_accepted _ _ hres]
  · subst hc
    exact s.live_groupRow_free t _ src g 3 false _ hs h hcopy hfree
  · subst hc
    exact s.live_groupRow_free t _ src g 3 false _ hs h hcopy hfree
  · subst hc
    refine (s.live_groupRow_free t _ src g 3 false _ hs h hcopy hfree).trans ?_
    rw [State.writeTarget_inside _ _ _ hlo hhi]
  · subst hc
    refine (s.live_groupRow_free t _ src g 3 false _ hs h hcopy hfree).trans ?_
    rw [State.writeTarget_above _ _ _ hwin hhi]
  · subst hat
    have hdiscarded := fun c f => s.live_groupRow_stopped t c src g 3 f hs (by decide) h hcopy hstop
    exact ⟨hdiscarded _ _, hdiscarded _ _, hdiscarded _ _⟩

/-! ### Engine commands -/

/-- A count of skips leaves the parameters of the contexts. -/
theorem State.nat_bump_skips (k i n : Nat) : (s.bump 0x6120 6 k).nat 0x6100 i n = s.nat 0x6100 i n :=
  congrArg Int.toNat (s.cfg_put_ne 0x6120 6 k _ (by decide) (by decide) (by simp))

/-- Settles O3: the conditions of each clause choose the branch of its command; in the skip, the limit is read after the skip has
been counted and reported, which leaves it. -/
theorem engineCommandsComplete : Obligations.EngineCommandsComplete := by
  intro s a t hs ha
  subst ha
  refine ⟨fun k c hc hrun hnew hready hdiv hslot => ?_, fun k c x u hc hen hnew hready hdiv hslot hu => ?_,
    fun k c hc hen hnew hready hdiv => ?_, fun e k r hfree hchoice => ?_, fun k r hrun hsample hlate hprio hlimit => ?_,
    fun k d hd hdue => ?_, fun k hheld hfirst hlimit hcycle => ?_⟩
  · subst hc
    refine (s.live_awake t _ hs).trans ?_
    dsimp only
    rw [if_pos ⟨by simp [hrun], hnew, hready⟩, if_pos hdiv, State.rechoose_none _ _ _ hslot, if_pos hrun]
  · subst hc hu
    refine (s.live_awake t _ hs).trans ?_
    dsimp only
    rw [if_pos ⟨hen, hnew, hready⟩, if_pos hdiv, State.rechoose_some _ _ _ x hslot]
  · subst hc
    refine (s.live_awake t _ hs).trans ?_
    dsimp only
    rw [if_pos ⟨hen, hnew, hready⟩, if_neg (by omega)]
  · refine (s.live_awake t _ hs).trans ?_
    rw [if_pos hfree, State.startSlot, hchoice]
  · refine (s.live_awake t _ hs).trans ?_
    dsimp only
    rw [hrun, hsample]
    dsimp only
    rw [if_pos hlate, if_neg hprio, State.raiseLimited_nat _ _ _ (by decide)]
    have hlimit' : ¬ ((s.advance t).ctx k).skipRun + 1 = ((s.advance t).bump 0x6120 6 k).nat 0x6100 0xB k := by
      rwa [State.nat_bump_skips]
    exact congrArg _ (congrArg _ (if_neg hlimit'))
  · refine (s.live_awake t _ hs).trans ?_
    dsimp only
    rw [hd]
    dsimp only
    rw [if_pos hdue]
  · refine (s.live_awake t _ hs).trans ?_
    have hexpired : (s.advance t).holdExpired k = true :=
      Bool.and_eq_true_iff.mpr ⟨decide_eq_true hlimit, decide_eq_true hcycle⟩
    rw [if_pos ⟨hheld, by simp [hfirst], hexpired⟩]

/-! ### Phases and pools -/

/-- Whether a group is free depends on its latest command alone. -/
theorem State.groupFree_setGroup {g : Nat} {x : Group} (h : x.cmdAt = (s.group g).cmdAt) :
    (s.setGroup g x).groupFree g = s.groupFree g := by
  unfold State.groupFree
  rw [State.group_setGroup, h]
  rfl

/-- A shed that meets a stop for a fault or a load step of its SYS cycle is discarded (Table 02-3). -/
theorem State.groupAccept_shed_discarded (g : Nat) (f : State → State)
    (h : (s.group g).cmdAt = some (s.now / cycleTicks, 1) ∨ (s.group g).cmdAt = some (s.now / cycleTicks, 2)) :
    s.groupAccept g 5 false f = s := by
  rcases h with hstop | hstep
  · exact s.groupAccept_stopped g 5 f (by decide) hstop (s.groupFree_of_cmdAt hstop)
  · simp [State.groupAccept, s.groupFree_of_cmdAt hstep, hstep]

/-- A load step of a group outside the pools is the group's own (R156). -/
theorem State.runLoadStep_alone (g : Nat) (own : Bool) (h : s.poolOf g = none) : s.runLoadStep g own = s.loadStep g := by
  rw [State.runLoadStep, h]

/-- One of a pool member in RUN is a pool load step first (R156, R162). -/
theorem State.runLoadStep_member (g p : Nat) (hrun : (s.group g).state = .run) (h : s.poolOf g = some p) :
    s.runLoadStep g true =
      ((s.poolLoadStep p).setGroup g { (s.poolLoadStep p).group g with stepOffered := 0 }).loadStep g := by
  rw [State.runLoadStep, h]
  exact if_pos ⟨rfl, hrun⟩

/-- The load step that waits for a free group is taken at rank 2 (R34, R156). -/
theorem execLoadStep_free {t : Tick} {g : GroupId} (hs : s.awake) (hoffer : ((s.advance t).group g).stepOffered ≠ 0)
    (hfree : (s.advance t).groupFree g = true) :
    execLoadStep t g s = .next ((s.advance t).keep
      ((((s.advance t).setGroup g { (s.advance t).group g with stepOffered := 0 }).ranked g 2).runLoadStep g
        (decide (((s.advance t).group g).stepOffered = 1)))) := by
  refine (s.live_awake t _ hs).trans ?_
  dsimp only
  have hfree' := ((s.advance t).groupFree_setGroup (x := { (s.advance t).group g with stepOffered := 0 }) rfl).trans hfree
  rw [if_neg hoffer, State.groupAccept_free _ _ _ _ _ hfree']

/-- Settles O9: the conditions of each clause choose the branch of its command, and a group that is free takes the command at
once (R34). -/
theorem phaseAndPoolCommandsComplete : Obligations.PhaseAndPoolCommandsComplete := by
  intro s a t hs ha
  subst ha
  refine ⟨fun g c hdue hfree hc => ?_, fun g c hdue hfree hc => ?_, fun g at? hdue hat hmet => ?_, fun g hlast hfirst => ?_,
    fun g c hoffer hfree hc hpool => ?_, fun g p c u hoffer hfree hc hrun hpool hu => ?_,
    fun g code m hsense hrun hramp hripple hload hsum hm => ?_, fun c code g k u v hgroup hclass hcell hleft hu hopen hv => ?_,
    fun g hlimited => ?_, fun p hon hdue hidle => ?_, fun p hon hdue hidle => ?_, fun p hon hhours hdue hidle hnone => ?_,
    fun p g u hon hhours hdue hidle hu hworn hfree => ?_, fun p g u hrot hon hfull hidle hu => ?_, fun src k value h => ?_,
    fun hdue => ?_⟩
  · subst hc
    refine (s.live_awake t _ hs).trans ?_
    dsimp only
    rw [if_pos (by simp [hdue]), State.groupAccept_free _ _ _ _ _ hfree]
  · subst hc
    refine (s.live_awake t _ hs).trans ?_
    rw [if_pos hdue, State.groupAccept_free _ _ _ _ _ hfree]
  · subst hat
    refine (s.live_awake t _ hs).trans ?_
    rw [if_pos hdue, State.groupAccept_shed_discarded _ _ _ hmet]
  · refine (s.live_awake t _ hs).trans ?_
    dsimp only
    rw [if_pos ⟨hlast, by simp [hfirst]⟩]
  · subst hc
    refine (execLoadStep_free s hs hoffer hfree).trans ?_
    rw [State.runLoadStep_alone _ _ _ hpool]
  · subst hc
    refine (execLoadStep_free s hs (by simp [hoffer]) hfree).trans ?_
    rw [hu, hoffer, decide_eq_true rfl, State.runLoadStep_member _ _ _ hrun hpool]
  · refine (s.live_awake t _ hs).trans ?_
    dsimp only
    rw [if_pos ⟨hsense, hrun, by simp [hramp], by simp [hripple], hload, hsum⟩, hm]
  · refine (s.live_awake t _ hs).trans ?_
    dsimp only
    rw [hu, hv, hgroup]
    dsimp only
    rw [hclass]
    dsimp only
    rw [if_pos ⟨hcell, hleft⟩, hopen]
    rfl
  · refine (s.live_awake t _ hs).trans ?_
    rw [if_pos hlimited]
  · refine (s.live_awake t _ hs).trans ?_
    rw [if_pos ⟨hon, hdue, by simp [hidle]⟩]
  · refine (s.live_awake t _ hs).trans ?_
    rw [if_pos ⟨hon, hdue, by simp [hidle]⟩]
  · refine (s.live_awake t _ hs).trans ?_
    dsimp only
    rw [if_pos ⟨hon, hhours, hdue, by simp [hidle]⟩, hnone]
  · subst hu
    refine (s.live_awake t _ hs).trans ?_
    dsimp only
    rw [if_pos ⟨hon, hhours, hdue, by simp [hidle]⟩, hworn]
    dsimp only
    rw [State.groupAccept_free _ _ _ _ _ hfree]
  · refine (s.live_awake t _ hs).trans ?_
    dsimp only
    rw [hu, hrot]
    dsimp only
    rw [if_pos ⟨hon, hfull, by simp [hidle]⟩]
  · exact s.live_dict_accepted t _ _ _ _ _ hs h
  · refine (s.live_awake t _ hs).trans ?_
    rw [if_pos hdue]

end Sys2Proof.Machine
end

section
/-! PROOFS. The switching cells and the queue: one step of the queue, the clock of a cell, its edges, and the write of its
period. -/

namespace Sys2Proof.Machine

variable (s : State)

/-! ### The queue -/

/-- Settles O33: the two branches of `step`. -/
theorem stepTakesTheFront : Obligations.StepTakesTheFront := by
  refine ⟨fun s c rest => rfl, fun s h => ?_⟩
  unfold step
  rw [h]

/-- A repair of a line that the SRAM does not have stops the machine (R416). -/
theorem execSramRepair_noSuchLine {t : Tick} {line : Nat} {call : LineCall} (h : 196608 ≤ line) :
    execSramRepair t line call s = .fault .noSuchSramLine :=
  if_pos h

/-- Every other command answers a next state, with the queue as it was and at its own time. -/
theorem exec_next (c : Instr) (h : ∀ t line call, c = .sramRepair t line call → line < 196608) :
    ∃ u, exec c s = .next u ∧ u.pending = s.pending ∧ u.now = max s.now c.time := by
  cases c
  case sramRepair t line call =>
    have hline : ¬ 196608 ≤ line := Nat.not_le.mpr (h t line call rfl)
    obtain ⟨u, hu, hq⟩ := s.live_next t _
    exact ⟨u, (if_neg hline).trans hu, hq⟩
  case registerWrite | chipReset | imageTransfer | installComplete | installAbort | installFlashWriteFailed | transactionCommit
      | requestFrame | segmentFrame | segmentAcknowledgement | transferAbort | segmentResendTimeout =>
    exact s.boot_next _ _ _
  case referenceLost | pllUnlock | powerOn | supplyOutOfRange | rstNLow | partnerResetIn | chipStart =>
    exact ⟨_, rfl, rfl, rfl⟩
  -- the two whose level reaches the pins before the chip acts (R331)
  case twinPresenceFall tokenHigh => exact (s.seePins true tokenHigh.brings).live_next _ _
  case tokenStateRise => exact State.live_next _ _ _
  all_goals exact s.live_next _ _

/-- So every step that answers a next state leaves the queue's rest, at the time of the command. -/
theorem exec_keeps_queue {c : Instr} {u : State} (hu : exec c s = .next u) :
    u.pending = s.pending ∧ u.now = max s.now c.time := by
  have hline : ∀ t line call, c = .sramRepair t line call → line < 196608 := by
    rintro t line call rfl
    by_contra hno
    cases (execSramRepair_noSuchLine s (Nat.le_of_not_lt hno)).symm.trans hu
  obtain ⟨v, hv, hq⟩ := exec_next s c hline
  obtain rfl : v = u := Host.Outcome.next.inj (hv.symm.trans hu)
  exact hq

/-- Settles O35: the command taken is the earliest of the queue, so the new time is its own, and no later command is before it. -/
theorem queueOrderIsKept : Obligations.QueueOrderIsKept := by
  rintro s u ⟨hrising, hwf⟩ hstep
  unfold step at hstep
  cases hp : s.pending with
  | nil =>
    rw [hp] at hstep
    cases hstep
    exact ⟨⟨hrising, hwf⟩, le_rfl⟩
  | cons c rest =>
    rw [hp] at hstep hrising hwf
    obtain ⟨hfirst, hrest⟩ := List.pairwise_cons.mp hrising
    obtain ⟨hpending, hnow⟩ : u.pending = rest ∧ u.now = max s.now c.time := exec_keeps_queue _ hstep
    have hc : s.now ≤ c.time := (hwf c List.mem_cons_self).1
    have htime : u.now = c.time := hnow.trans (max_eq_right hc)
    rw [State.queueOrdered, hpending, htime]
    exact ⟨⟨hrest, fun d hd => ⟨hfirst d hd, (hwf d (List.mem_cons_of_mem c hd)).2⟩⟩, hc⟩

/-! ### Outputs -/

/-- No output rises from `x` to `y`. -/
def Cell.noRise (x y : Cell) : Prop := (y.levelA = true → x.levelA = true) ∧ (y.levelB = true → x.levelB = true)

/-- From `x` to `y` an output rises only as R57 and R58 allow at a time: the outputs do not come to overlap, and the dead time of
one that rises has passed since the fall of the other. -/
def Cell.risesSafely (x y : Cell) (dta dtb : Nat) (t : Tick) : Prop :=
  (x.noOverlap = true → y.noOverlap = true) ∧
  (x.levelA = false → y.levelA = true → ∀ f ∈ y.fallB, f + dta ≤ t) ∧
  (x.levelB = false → y.levelB = true → ∀ f ∈ y.fallA, f + dtb ≤ t)

section
variable {x y z : Cell} {dta dtb : Nat} {t : Tick}

@[simp] theorem Cell.noOverlap_iff (x : Cell) : x.noOverlap = true ↔ ¬ (x.levelA = true ∧ x.levelB = true) := by
  simp [Cell.noOverlap, imp_iff_not_or]

theorem Cell.noRise.trans (h : x.noRise y) (h' : y.noRise z) : x.noRise z :=
  ⟨h.1 ∘ h'.1, h.2 ∘ h'.2⟩

theorem Cell.noRise.noOverlap (h : x.noRise y) (hx : x.noOverlap = true) : y.noOverlap = true := by
  rw [Cell.noOverlap_iff] at hx ⊢
  exact mt (And.imp h.1 h.2) hx

/-- Outputs that do not rise rise safely. -/
theorem Cell.noRise.risesSafely (h : x.noRise y) : x.risesSafely y dta dtb t :=
  ⟨h.noOverlap, fun hx hy => absurd (h.1 hy) (by simp [hx]), fun hx hy => absurd (h.2 hy) (by simp [hx])⟩

/-- Falls before a safe rise. -/
theorem Cell.risesSafely.after_falls (h : y.risesSafely z dta dtb t) (h' : x.noRise y) : x.risesSafely z dta dtb t := by
  obtain ⟨hover, ha, hb⟩ := h
  refine ⟨hover ∘ h'.noOverlap, fun hx => ha ?_, fun hx => hb ?_⟩
  · exact Bool.eq_false_iff.mpr fun hy => by simp [h'.1 hy] at hx
  · exact Bool.eq_false_iff.mpr fun hy => by simp [h'.2 hy] at hx

/-- A second safe rise that leaves the times of the falls. -/
theorem Cell.risesSafely.trans (h : x.risesSafely y dta dtb t) (h' : y.risesSafely z dta dtb t) (hfa : z.fallA = y.fallA)
    (hfb : z.fallB = y.fallB) : x.risesSafely z dta dtb t := by
  obtain ⟨hover, ha, hb⟩ := h
  obtain ⟨hover', ha', hb'⟩ := h'
  refine ⟨hover' ∘ hover, fun hx hz => ?_, fun hx hz => ?_⟩
  · cases hy : y.levelA with
    | false => exact ha' hy hz
    | true => rw [hfb]; exact ha hx hy
  · cases hy : y.levelB with
    | false => exact hb' hy hz
    | true => rw [hfa]; exact hb hx hy

end

@[simp] theorem Cell.fall_levelA (x : Cell) (t : Tick) : (x.fall .a t).levelA = false := by
  unfold Cell.fall
  dsimp only
  split
  · rfl
  · next h => exact Bool.eq_false_iff.mpr h

@[simp] theorem Cell.fall_levelB (x : Cell) (t : Tick) : (x.fall .b t).levelB = false := by
  unfold Cell.fall
  dsimp only
  split
  · rfl
  · next h => exact Bool.eq_false_iff.mpr h

/-- A fall of one output leaves the other. -/
@[simp] theorem Cell.fall_a_levelB (x : Cell) (t : Tick) : (x.fall .a t).levelB = x.levelB := by
  unfold Cell.fall
  dsimp only
  split <;> rfl

@[simp] theorem Cell.fall_b_levelA (x : Cell) (t : Tick) : (x.fall .b t).levelA = x.levelA := by
  unfold Cell.fall
  dsimp only
  split <;> rfl

theorem Cell.noRise_fall (x : Cell) (n : Net) (t : Tick) : x.noRise (x.fall n t) := by
  cases n with
  | a => exact ⟨fun h => by simp at h, (x.fall_a_levelB t).symm.trans⟩
  | b => exact ⟨(x.fall_b_levelA t).symm.trans, fun h => by simp at h⟩

theorem Cell.noRise_programFall (x : Cell) (n : Net) (t : Tick) : x.noRise (x.programFall n t) := by
  cases n <;> exact x.noRise_fall _ t

/-- Both outputs fall. -/
theorem Cell.noRise_rest (x : Cell) (t : Tick) : x.noRise ((x.fall .a t).fall .b t) :=
  (x.noRise_fall .a t).trans (Cell.noRise_fall _ .b t)

/-- R58, as `Cell.mayRise` judges it for PWMA. -/
theorem Cell.mayRise_a {x : Cell} {dta dtb : Nat} {t : Tick} :
    x.mayRise .a dta dtb t = true ↔ x.levelB = false ∧ ∀ f ∈ x.fallB, f + dta ≤ t := by
  unfold Cell.mayRise
  cases x.fallB <;> simp

theorem Cell.mayRise_b {x : Cell} {dta dtb : Nat} {t : Tick} :
    x.mayRise .b dta dtb t = true ↔ x.levelA = false ∧ ∀ f ∈ x.fallA, f + dtb ≤ t := by
  unfold Cell.mayRise
  cases x.fallA <;> simp

/-- An output that may rise rises safely. -/
theorem Cell.risesSafely_goHigh {x : Cell} {n : Net} {dta dtb : Nat} {t : Tick} (h : x.mayRise n dta dtb t = true) :
    x.risesSafely (x.goHigh n t) dta dtb t := by
  cases n with
  | a =>
    obtain ⟨hlow, hdead⟩ := Cell.mayRise_a.mp h
    exact ⟨by simp [Cell.goHigh, hlow], fun _ _ => hdead, fun hx hy => absurd (hx.symm.trans hy) Bool.false_ne_true⟩
  | b =>
    obtain ⟨hlow, hdead⟩ := Cell.mayRise_b.mp h
    exact ⟨by simp [Cell.goHigh, hlow], fun hx hy => absurd (hx.symm.trans hy) Bool.false_ne_true, fun _ _ => hdead⟩

/-- The interval that a rise starts moves no output. -/
theorem Cell.risesSafely_raiseNet {x : Cell} {n : Net} {dta dtb : Nat} {t : Tick} (mode : Nat) (valley : Bool)
    (h : x.mayRise n dta dtb t = true) : x.risesSafely (x.raiseNet mode valley n t) dta dtb t := by
  unfold Cell.raiseNet
  dsimp only
  split <;> exact Cell.risesSafely_goHigh h

/-- Outputs of a cell rise safely at the present time, by its dead times 0x5010.04 and .05. -/
abbrev State.safeRise (s : State) (c : Nat) (x y : Cell) : Prop := x.risesSafely y (s.nat 0x5010 4 c) (s.nat 0x5010 5 c) s.now

/-- A rise that waits (R58). -/
def Cell.waits (x : Cell) (w : Rise) : Net → Cell
  | .a => { x with waitA := w }
  | .b => { x with waitB := w }

/-- All that a programmed rise can do: nothing in the safe state or on an output that is high, else it happens where R58 allows
it, else it waits, and is counted (0x5003.04) where the mode asks for no dead time. -/
theorem State.programRise_cases (c : Nat) (n : Net) (own : Bool) (x : Cell) :
    s.programRise c n own x = (s, x) ∨
      (x.mayRise n (s.nat 0x5010 4 c) (s.nat 0x5010 5 c) s.now = true ∧
        s.programRise c n own x = (s, x.raiseNet (s.nat 0x5010 1 c) (s.valley c x) n s.now)) ∨
      s.programRise c n own x =
        (if own then s else s.bump 0x5003 4 c, x.waits (if own then .programmed else .delayed) n) := by
  unfold State.programRise
  cases n
  all_goals
    dsimp only
    split
    · exact .inl rfl
    · split
      · next h => exact .inr (.inl ⟨h, rfl⟩)
      · exact .inr (.inr rfl)

theorem Cell.raiseNet_falls (x : Cell) (mode : Nat) (valley : Bool) (n : Net) (t : Tick) :
    (x.raiseNet mode valley n t).fallA = x.fallA ∧ (x.raiseNet mode valley n t).fallB = x.fallB := by
  unfold Cell.raiseNet
  dsimp only
  split <;> cases n <;> exact ⟨rfl, rfl⟩

/-- A programmed rise is safe, and leaves the times of the falls. -/
theorem State.programRise_safe (c : Nat) (n : Net) (own : Bool) (x : Cell) :
    s.safeRise c x (s.programRise c n own x).2 ∧ (s.programRise c n own x).2.fallA = x.fallA ∧
      (s.programRise c n own x).2.fallB = x.fallB := by
  have hstays : x.noRise x := ⟨id, id⟩
  rcases s.programRise_cases c n own x with h | ⟨hmay, h⟩ | h
  · rw [h]; exact ⟨hstays.risesSafely, rfl, rfl⟩
  · rw [h]; exact ⟨Cell.risesSafely_raiseNet _ _ hmay, x.raiseNet_falls _ _ _ _⟩
  · rw [h]; cases n <;> exact ⟨hstays.risesSafely, rfl, rfl⟩

/-! ### The frame of an edge -/

/-- From `s` to `u` nothing but the counters of 0x5003 differs. -/
def State.counts (s u : State) : Prop := u = { s with obj := u.obj } ∧ s.objectsKept u [0x5003]

theorem State.counts_refl : s.counts s := ⟨rfl, fun _ _ _ => rfl⟩

theorem State.counts_put (k c : Nat) (v : Int) : s.counts (s.put 0x5003 k c v) :=
  ⟨rfl, fun _ x hx => bget_bset_ne _ _ _ (by rintro rfl; exact hx List.mem_cons_self)⟩

theorem State.counts.trans {s u v : State} (h : s.counts u) (h' : u.counts v) : s.counts v :=
  ⟨h'.1.trans (by rw [h.1]), fun d x hx => (h'.2 d x hx).trans (h.2 d x hx)⟩

theorem State.counts_programRise (c : Nat) (n : Net) (own : Bool) (x : Cell) : s.counts (s.programRise c n own x).1 := by
  rcases s.programRise_cases c n own x with h | ⟨_, h⟩ | h
  · rw [h]; exact s.counts_refl
  · rw [h]; exact s.counts_refl
  · rw [h]
    cases own
    · exact s.counts_put _ _ _
    · exact s.counts_refl

/-- A counter of 0x5003 is no object of another index. -/
theorem State.nat_put_counter (k c : Nat) (v : Int) {i u n : Nat} (h : i ≠ 0x5003) :
    (s.put 0x5003 k c v).nat i u n = s.nat i u n :=
  congrArg Int.toNat (s.cfg_put_ne 0x5003 k c v (by decide) (by decide) (by simp [h]))

theorem State.nat_bump_counter (k c : Nat) {i u n : Nat} (h : i ≠ 0x5003) : (s.bump 0x5003 k c).nat i u n = s.nat i u n :=
  s.nat_put_counter k c _ h

/-- Such a counter is no dead time, so a count leaves which rises are safe. -/
theorem State.safeRise_bump (k c : Nat) (x y : Cell) : (s.bump 0x5003 k c).safeRise c x y = s.safeRise c x y := by
  rw [State.safeRise, s.nat_bump_counter k c (by decide), s.nat_bump_counter k c (by decide)]
  rfl

/-- The end of an interval: falls, then at most a programmed rise (R55, R59). -/
theorem State.endInterval_safe (c : Nat) (x : Cell) :
    s.counts (s.endInterval c x).1 ∧ s.safeRise c x (s.endInterval c x).2 := by
  have hrise : ∀ m n, s.counts (s.programRise c n true (Cell.programFall { x with interval := false } m s.now)).1 ∧
      s.safeRise c x (s.programRise c n true (Cell.programFall { x with interval := false } m s.now)).2 := fun m n =>
    ⟨s.counts_programRise _ _ _ _,
      (s.programRise_safe _ _ _ _).1.after_falls (Cell.noRise_programFall { x with interval := false } m s.now)⟩
  unfold State.endInterval
  dsimp only
  split
  · split <;> exact hrise _ _
  · split <;> exact hrise _ _
  · exact ⟨s.counts_refl, (Cell.noRise_fall { x with interval := false } .a s.now).risesSafely⟩

/-- What a command of an edge may do to the state: its cell's outputs rise safely, and the other cells and everything else but
the counters of 0x5003 stay. -/
def State.edgeStep (s u : State) (c : Nat) : Prop :=
  (s.safeRise c (s.cell c) (u.cell c) ∧ ∀ k : Nat, k ≠ c → u.cell k = s.cell k) ∧
    u = { s with cells := u.cells, obj := u.obj } ∧ s.objectsKept u [0x5003]

theorem State.edgeStep_refl (c : Nat) : s.edgeStep s c :=
  ⟨⟨Cell.noRise.risesSafely ⟨id, id⟩, fun _ _ => rfl⟩, rfl, fun _ _ _ => rfl⟩

/-- The cell is written after the counts. -/
theorem State.counts.edgeStep_setCell {s u : State} {c : Nat} {y : Cell} (h : s.counts u) (hy : s.safeRise c (s.cell c) y) :
    s.edgeStep (u.setCell c y) c := by
  obtain ⟨hu, hkept⟩ := h
  have hcells : u.cells = s.cells := by rw [hu]
  refine ⟨⟨by rwa [State.cell_setCell], fun k hk => ?_⟩, ?_, hkept⟩
  · rw [State.cell_setCell_ne _ _ hk, State.cell, hcells]; rfl
  · rw [State.setCell, hu]

/-- What O54 says of a command of an edge: that step, with the time that has passed. -/
def State.edgeDone (s u : State) (c : Nat) : Prop :=
  ((s.cell c).risesSafely (u.cell c) (s.nat 0x5010 4 c) (s.nat 0x5010 5 c) u.now ∧
      ∀ k : Nat, k ≠ c → u.cell k = s.cell k) ∧
    u = { s with now := u.now, cells := u.cells, obj := u.obj } ∧ s.objectsKept u [0x5003]

/-- A command whose effect is such a step does it at its time, or only passes the time. -/
theorem State.edgeDone_live {t : Tick} {f : State → State} {c : Nat} {u : State} (h : s.live t f = .next u)
    (hf : ∀ a : State, a.edgeStep (f a) c) : s.edgeDone u c := by
  unfold State.live at h
  split at h
  · cases h
    exact ⟨⟨Cell.noRise.risesSafely ⟨id, id⟩, fun _ _ => rfl⟩, rfl, fun _ _ _ => rfl⟩
  · cases h
    obtain ⟨hcells, hframe, hkept⟩ := hf (s.advance t)
    refine ⟨hcells, ?_, hkept⟩
    rw [State.keep, hframe]
    rfl

/-! ### The commands of the edges -/

theorem State.trip_edgeStep (c code : Nat) : s.edgeStep (s.trip c code) c := by
  obtain ⟨hcounts, hsafe⟩ := s.endInterval_safe c (s.cell c)
  have hstays : s.safeRise c (s.cell c) { s.cell c with maxEnd := none } := Cell.noRise.risesSafely ⟨id, id⟩
  unfold State.trip
  dsimp only
  split
  · split
    · exact hcounts.edgeStep_setCell hsafe
    · split
      · exact (s.counts_put _ _ _).edgeStep_setCell hstays
      · exact s.edgeStep_refl c
  · exact s.edgeStep_refl c

/-- The maximum on-time is counted, and the interval ends. -/
theorem State.maximumOnTime_edgeStep (c : Nat) :
    s.edgeStep (((s.bump 0x5003 2 c).endInterval c (s.cell c)).1.setCell c
      { ((s.bump 0x5003 2 c).endInterval c (s.cell c)).2 with
        maxEnd := some ((s.bump 0x5003 2 c).endInterval c (s.cell c)).1.now }) c := by
  obtain ⟨hcounts, hsafe⟩ := (s.bump 0x5003 2 c).endInterval_safe c (s.cell c)
  refine ((s.counts_put _ _ _).trans hcounts).edgeStep_setCell ?_
  rwa [State.safeRise_bump] at hsafe

/-- A programmed rise after falls. -/
theorem State.programRise_after (c : Nat) (n : Net) (own : Bool) {x y : Cell} (h : x.noRise y) :
    s.safeRise c x (s.programRise c n own y).2 :=
  (s.programRise_safe c n own y).1.after_falls h

/-- Such a rise, written to its cell. -/
theorem State.programRise_edgeStep (c : Nat) (n : Net) (own : Bool) {x : Cell} (h : (s.cell c).noRise x) :
    s.edgeStep ((s.programRise c n own x).1.setCell c (s.programRise c n own x).2) c :=
  (s.counts_programRise c n own x).edgeStep_setCell (s.programRise_after c n own h)

/-- Falls alone. -/
theorem State.noRise_edgeStep (c : Nat) {x : Cell} (h : (s.cell c).noRise x) : s.edgeStep (s.setCell c x) c :=
  s.counts_refl.edgeStep_setCell h.risesSafely

section
variable {s} {t : Tick} {c : CellId} {u : State}

theorem execTrip_edgeDone {v : Int} (h : execPeakComparatorTrip t c v s = .next u) : s.edgeDone u c :=
  s.edgeDone_live h fun a => a.trip_edgeStep c _

theorem execMaximumOnTimeEnd_edgeDone (h : execMaximumOnTimeEnd t c s = .next u) : s.edgeDone u c := by
  refine s.edgeDone_live h fun a => ?_
  dsimp only
  split
  · exact a.maximumOnTime_edgeStep c
  · exact a.edgeStep_refl c

theorem execHalfPeriodStart_edgeDone (h : execHalfPeriodStart t c s = .next u) : s.edgeDone u c := by
  refine s.edgeDone_live h fun a => ?_
  dsimp only
  split
  · generalize hx : ({ a.cell c with secondHalf := true, ceilingForced := false } : Cell) = x
    have hsame : (a.cell c).noRise x := by rw [← hx]; exact ⟨id, id⟩
    split
    · exact a.programRise_edgeStep c .b true (hsame.trans (x.noRise_programFall .a a.now))
    · split
      · split
        · exact (a.counts_programRise c .a true _).edgeStep_setCell
            (a.programRise_after c .a true (hsame.trans (x.noRise_fall .b a.now)))
        · exact a.noRise_edgeStep c hsame
      · exact a.noRise_edgeStep c (hsame.trans (x.noRise_rest a.now))
  · exact a.edgeStep_refl c

theorem execDeadTimeEnd_edgeDone {n : Net} (h : execDeadTimeEnd t c n s = .next u) : s.edgeDone u c := by
  refine s.edgeDone_live h fun a => ?_
  have hrises : (a.cell c).mayRise n (a.nat 0x5010 4 c) (a.nat 0x5010 5 c) a.now = true →
      a.edgeStep (a.setCell c (if (a.cell c).ceilingForced then (a.cell c).goHigh n a.now
        else (a.cell c).raiseNet (a.nat 0x5010 1 c) (a.valley c (a.cell c)) n a.now)) c := fun hmay => by
    refine a.counts_refl.edgeStep_setCell ?_
    split
    · exact Cell.risesSafely_goHigh hmay
    · exact Cell.risesSafely_raiseNet _ _ hmay
  cases n
  all_goals
    dsimp only
    split
    · next h => exact hrises h.2
    · exact a.edgeStep_refl c

theorem execPwmbProgrammedEdge_edgeDone {rise : Bool} (h : execPwmbProgrammedEdge t c rise s = .next u) : s.edgeDone u c := by
  refine s.edgeDone_live h fun a => ?_
  dsimp only
  generalize a.nat 0x5010 (if rise = true then 9 else 0xA) c = at0
  split
  · split
    · exact a.programRise_edgeStep c .b false ⟨id, id⟩
    · split
      · exact a.edgeStep_refl c
      · exact a.noRise_edgeStep c ((a.cell c).noRise_fall .b a.now)
  · exact a.edgeStep_refl c

/-- The commands of the edges of a cell, each by its own rule. -/
theorem exec_cellEdge {i : Instr} (hi : i.cellEdge = some c) (h : exec i s = .next u) : s.edgeDone u c := by
  unfold Instr.cellEdge at hi
  split at hi
  all_goals cases hi
  · exact execHalfPeriodStart_edgeDone h
  · exact execDeadTimeEnd_edgeDone h
  · exact execPwmbProgrammedEdge_edgeDone h
  · exact execTrip_edgeDone h
  · exact execTrip_edgeDone h
  · exact execMaximumOnTimeEnd_edgeDone h

end

/-! ### The edges at a period start, and the safe state -/

/-- A programmed rise leaves the dead times. -/
theorem State.safeRise_programRise (c : Nat) (n : Net) (own : Bool) (w x y : Cell) :
    (s.programRise c n own w).1.safeRise c x y = s.safeRise c x y := by
  rcases s.programRise_cases c n own w with h | ⟨_, h⟩ | h
  · rw [h]
  · rw [h]
  · rw [h]
    cases own
    · exact s.safeRise_bump 4 c x y
    · rfl

/-- Two programmed rises in turn: the second leaves the times of the falls. -/
theorem State.programRise_twice (c : Nat) (n m : Net) (own own' : Bool) {x y : Cell} (h : x.noRise y) :
    s.safeRise c x ((s.programRise c n own y).1.programRise c m own' (s.programRise c n own y).2).2 := by
  obtain ⟨hsafe, hfa, hfb⟩ := (s.programRise c n own y).1.programRise_safe c m own' (s.programRise c n own y).2
  rw [State.safeRise_programRise] at hsafe
  exact (s.programRise_after c n own h).trans hsafe hfa hfb

/-- In every mode the edges at a period start are falls, then programmed rises (Table 03-1). -/
theorem State.periodEdges_safe (c : Nat) (x : Cell) (forced : Bool) : s.safeRise c x (s.periodEdges c x forced).2 := by
  have hboth : ∀ m n, x.noRise ((x.programFall m s.now).fall n s.now) := fun m n =>
    (x.noRise_programFall m s.now).trans (Cell.noRise_fall _ n s.now)
  unfold State.periodEdges
  dsimp only
  generalize (x.hasInterval (s.nat 0x5010 1 c) && !x.skipped) = live
  split
  · -- COMP: falls, then the rise that bears the interval or follows it
    split
    · cases live
      · exact (hboth .a .b).risesSafely
      · exact s.programRise_after c .b true (hboth .a .b)
    · cases live
      · exact (hboth .b .a).risesSafely
      · exact s.programRise_after c .a true (hboth .b .a)
  · -- INDEP: a pulse of PWMB may go on across the start
    generalize (decide (s.nat 0x5010 0xA c < s.nat 0x5010 9 c) && !(x.fall .a s.now).firstPeriod &&
      (x.fall .a s.now).pulses) = across
    have hfalls : x.noRise (if (!across) = true then (x.fall .a s.now).fall .b s.now else x.fall .a s.now) := by
      cases across
      · exact x.noRise_rest s.now
      · exact x.noRise_fall .a s.now
    cases across && forced
    · cases live
      · exact hfalls.risesSafely
      · exact s.programRise_after c .a false hfalls
    · cases live
      · exact s.programRise_after c .b false hfalls
      · exact s.programRise_twice c .b .a false false hfalls
  · split
    · exact s.programRise_after c .a true (x.noRise_programFall .b s.now)
    · exact ((x.noRise_programFall .b s.now).trans (Cell.noRise_fall _ .a s.now)).risesSafely
  · split
    · split
      · exact s.programRise_after c .b true (x.noRise_fall .a s.now)
      · exact Cell.noRise.risesSafely ⟨id, id⟩
    · exact (x.noRise_rest s.now).risesSafely
  · cases live
    · exact (x.noRise_rest s.now).risesSafely
    · exact s.programRise_after c .a false (x.noRise_rest s.now)

/-- The levels of the safe state, in which PWMB waits for its dead time where it is to go high (R58, R74). -/
theorem Cell.forceSafe_levels (x : Cell) (bHigh : Bool) (dtb : Nat) (t : Tick) :
    (x.forceSafe bHigh dtb t).levelA = false ∧ (bHigh = false → (x.forceSafe bHigh dtb t).levelB = false) ∧
      (bHigh = true → (x.forceSafe bHigh dtb t).levelB = true ∨ (x.forceSafe bHigh dtb t).waitB = .programmed) ∧
      (x.levelB = false → (x.forceSafe bHigh dtb t).levelB = true →
        ∀ f ∈ (x.forceSafe bHigh dtb t).fallA, f + dtb ≤ t) := by
  have hlow := x.fall_levelA t
  have hkept := x.fall_a_levelB t
  unfold Cell.forceSafe
  generalize x.fall .a t = w at hlow hkept
  cases bHigh with
  | false => simp [hlow]
  | true =>
    dsimp only
    rw [if_neg (by decide)]
    split
    · next hhigh => exact ⟨hlow, by simp, fun _ => .inl hhigh, fun hx => by simp [hkept, hx] at hhigh⟩
    · split
      · next hmay => exact ⟨hlow, by simp, fun _ => .inl rfl, fun _ _ => (Cell.mayRise_b.mp hmay).2⟩
      · next hhigh _ => exact ⟨hlow, by simp, fun _ => .inr rfl, fun _ hy => absurd hy hhigh⟩

/-- Settles O54: each command of an edge lets outputs fall, then rise where `Cell.mayRise` holds; so do the edges at a period
start; and in the safe state PWMA is low. -/
theorem outputsNeverOverlap : Obligations.OutputsNeverOverlap := by
  refine ⟨fun s u i c hi h => ?_, fun s c x y forced hy => hy ▸ s.periodEdges_safe c x forced, fun x y bHigh dtb t hy => ?_⟩
  · obtain ⟨⟨⟨hover, ha, hb⟩, hothers⟩, hframe⟩ := exec_cellEdge hi h
    exact ⟨hover, ha, hb, hothers, hframe⟩
  · subst hy
    obtain ⟨ha, hb⟩ := x.forceSafe_levels bHigh dtb t
    exact ⟨by simp [ha], ha, hb⟩

/-! ### The clock of a cell -/

/-- Settles O5: the conditions of each clause choose the branch of its command. -/
theorem cellClockCompletes : Obligations.CellClockCompletes := by
  intro s a t hs ha
  subst ha
  refine ⟨fun c l u hu hstate hdue => ?_, fun c l u hu hstate hpassed hdue => ?_, fun c v code u x hcode hu hx hrange => ?_,
    fun c v code u x hcode hu hx hrange => ?_, fun c g at? hstate hopen hcount htime hlimit hgroup hreference => ?_,
    fun c hstate hopen hcount htime hlimit => ?_⟩
  · subst hu
    refine (s.live_awake t _ hs).trans ?_
    dsimp only
    rcases hstate with h | h | h <;> rw [h, if_pos (by simpa using hdue)]
  · subst hu
    refine (s.live_awake t _ hs).trans ?_
    dsimp only
    rw [hstate, if_pos (by simpa [hpassed] using hdue)]
  · subst hcode hu hx
    refine (s.live_awake t _ hs).trans ?_
    exact congrArg _ (congrArg _ (if_neg (Nat.not_le.mpr hrange)))
  · subst hcode hu hx
    refine (s.live_awake t _ hs).trans ?_
    exact congrArg _ (congrArg _ (if_pos hrange))
  · refine (s.live_awake t _ hs).trans ?_
    dsimp only
    rw [if_pos ⟨hstate, by simp [hopen], hcount, htime⟩, if_pos hlimit, State.joinSchedule, hgroup]
    dsimp only
    rw [hreference]
    rfl
  · refine (s.live_awake t _ hs).trans ?_
    dsimp only
    rw [if_pos ⟨hstate, by simp [hopen], hcount, htime⟩, if_neg (Nat.not_le.mpr hlimit)]

/-! ### The comparators and the edges of a cell -/

/-- A current beyond the threshold outside blanking ends the interval (R67). -/
theorem State.trip_ends (c code : Nat) (hinterval : (s.cell c).interval = true)
    (hblank : s.peakBlankingOver c (s.cell c) = true) (hbeyond : s.beyond c (s.cell c) code = true) :
    s.trip c code = (s.endInterval c (s.cell c)).1.setCell c (s.endInterval c (s.cell c)).2 := by
  rw [State.trip]
  dsimp only
  rw [if_pos ⟨hblank, hbeyond⟩, if_pos hinterval]

/-- Where the maximum on-time ended it in the same PWM clock cycle, it takes that count back (R59). -/
theorem State.trip_countsBack (c code : Nat) (m : Tick) (hinterval : (s.cell c).interval = false)
    (hblank : s.peakBlankingOver c (s.cell c) = true) (hbeyond : s.beyond c (s.cell c) code = true)
    (hend : (s.cell c).maxEnd = some m) (hcycle : m / 16 = s.now / 16) :
    s.trip c code = (s.put 0x5003 2 c (s.nat 0x5003 2 c - 1 : Nat)).setCell c { s.cell c with maxEnd := none } := by
  have hnow : (s.cell c).endedNow s.now = true := by
    rw [Cell.endedNow, hend]
    exact decide_eq_true hcycle
  rw [State.trip]
  dsimp only
  rw [if_pos ⟨hblank, hbeyond⟩, if_neg (by simp [hinterval]), if_pos hnow]

section
variable {s} {t : Tick} {c : CellId}

/-- A crossing of the upper ceiling in RUN forces the safe state and is counted; then the run of such periods decides between the
stop and the note (R73 to R75). -/
theorem execCeilingTrip_high {a : State} {v : Int} {x : Cell} (hs : s.awake) (ha : a = s.advance t)
    (hstate : (a.cell c).state = .run)
    (hopen : ceilingOpen (blankTicks (a.nat 0x5012 5 c)) (a.cell c).riseA (a.cell c).riseB a.now = true)
    (hforced : (a.cell c).ceilingForced = false) (hhigh : a.nat 0x5012 3 c < a.senseCode c v)
    (hx : x = (a.cell c).forceSafe (decide (a.nat 0x5010 8 c = 1)) (a.nat 0x5010 5 c) a.now) :
    execCeilingTrip t c v s = .next (a.keep
      (if a.nat 0x5012 6 c ≤ x.ceilingRun then
        ((a.bump 0x5003 1 c).setCell c { x with ceilingRun := 0 }).cellTrip
          { ev 0x1101 c with value := a.senseCode c v, limit := a.nat 0x5012 3 c, stateCode := x.state.code }
      else ((a.bump 0x5003 1 c).setCell c x).raiseLimited c
          { ev 0x1102 c with value := a.senseCode c v, limit := a.nat 0x5012 3 c, stateCode := x.state.code })) := by
  subst ha hx
  have hsettings := fun {i u : Nat} (h : i ≠ 0x5003) => (s.advance t).nat_bump_counter 1 c (u := u) (n := c) h
  refine (s.live_awake t _ hs).trans ?_
  dsimp only
  rw [if_pos ⟨.inr (.inl hstate), hopen, by simp [hforced], .inl hhigh⟩, if_pos hhigh, hsettings (by decide),
    hsettings (by decide), hsettings (by decide)]
  rfl

end

/-- Settles O6: the conditions of each clause choose the branch of its command. -/
theorem cellEdgesComplete : Obligations.CellEdgesComplete := by
  intro s a t hs ha
  subst ha
  refine ⟨fun c v hinterval hblank hbeyond => ?_, fun c v hinterval hblank hbeyond => ?_,
    fun c v m hinterval hblank hbeyond hend hcycle => ?_, fun c u hinterval hdue hu => ?_,
    fun c v code x hcode hstate hopen hforced hhigh hx hrun => ?_, fun c v code x hcode hstate hopen hforced hhigh hx hrun => ?_,
    fun c htoken => ?_, fun c htoken => ?_, fun c net htoken => ?_, fun c x hswitch hmode hhalf hdue hx => ?_,
    fun c x hswitch hmode hhalf hforced hdue hx hhas => ?_, fun c hwait hforced hmay => ?_, fun c hwait hforced hmay => ?_,
    fun c hwait hforced hmay => ?_, fun c hswitch hmode hpulse hdue hstate => ?_,
    fun c hswitch hmode hpulse hdue hstate hforced => ?_⟩
  · refine (s.live_awake t _ hs).trans ?_
    rw [State.trip_ends _ _ _ hinterval hblank hbeyond]
  · refine (s.live_awake t _ hs).trans ?_
    rw [State.trip_ends _ _ _ hinterval hblank hbeyond]
  · refine (s.live_awake t _ hs).trans ?_
    rw [State.trip_countsBack _ _ _ _ hinterval hblank hbeyond hend hcycle]
  · subst hu
    refine (s.live_awake t _ hs).trans ?_
    dsimp only
    rw [if_pos ⟨hinterval, hdue⟩]
  · subst hcode
    exact (execCeilingTrip_high hs rfl hstate hopen hforced hhigh hx).trans (by rw [if_pos hrun])
  · subst hcode
    exact (execCeilingTrip_high hs rfl hstate hopen hforced hhigh hx).trans (by rw [if_neg (Nat.not_le.mpr hrun)])
  · refine (s.live_awake t _ hs).trans ?_
    rw [if_pos htoken]
  · refine (s.live_awake t _ hs).trans ?_
    rw [if_pos htoken]
  · refine (s.live_awake t _ hs).trans ?_
    rw [if_neg (by simp [htoken])]
  · subst hx
    refine (s.live_awake t _ hs).trans ?_
    dsimp only
    rw [if_pos ⟨hswitch, .inl hmode, by simp [hhalf], hdue⟩, if_pos hmode]
  · subst hx
    refine (s.live_awake t _ hs).trans ?_
    dsimp only
    rw [if_pos ⟨hswitch, .inr hmode, by simp [hhalf], hdue⟩, hmode, if_neg (by decide), if_pos hhas, hforced,
      if_neg Bool.false_ne_true]
  · refine (s.live_awake t _ hs).trans ?_
    dsimp only
    rw [if_pos ⟨by simp [hwait], hmay⟩, if_pos hforced]
  · refine (s.live_awake t _ hs).trans ?_
    dsimp only
    rw [if_pos ⟨by simp [hwait], hmay⟩, if_neg (by simp [hforced])]
  · refine (s.live_awake t _ hs).trans ?_
    dsimp only
    rw [if_pos ⟨by simp [hwait], hmay⟩, if_neg (by simp [hforced])]
  · have hpulses : ((s.advance t).cell c).pulses = true := by simp [Cell.pulses, hswitch, hstate]
    refine (s.live_awake t _ hs).trans ?_
    dsimp only
    rw [if_pos ⟨hswitch, hmode, hpulse, hdue, hpulses⟩, if_pos rfl]
  · have hpulses : ((s.advance t).cell c).pulses = true := by simp [Cell.pulses, hswitch, hstate]
    refine (s.live_awake t _ hs).trans ?_
    dsimp only
    rw [if_pos ⟨hswitch, hmode, hpulse, hdue, hpulses⟩, if_neg Bool.false_ne_true, if_neg (by simp [hforced])]

/-! ### Writes of the period -/

/-- The row of the period 0x5010.02 (Table 03-6). -/
def periodRow : ObjRow := row 0x5010 1 0x02 0x02 .u32 .rws .cell 256000 (some (12800, 1280000)) 2

theorem State.locate_period (c : CellId) : s.locate ⟨0x5010, 2, c⟩ = .ok periodRow := by
  have hrow : findRow 0 0x5010 2 = some periodRow := by decide
  have hrole : s.addrRole ⟨0x5010, 2, c⟩ = 0 := rfl
  have hexists : indexExists 0x5010 = true := by decide
  unfold State.locate
  rw [hrole, if_neg (by simp [hexists])]
  dsimp only
  rw [if_neg (by decide), hrow]
  exact if_pos c.isLt

/-- A write that reaches the dictionary server of a chip out of reset is a write of its object on the admitted state (R377). -/
theorem execRegisterWrite_reaches {t : Tick} {src : NodeId} {index sub inst length : Nat} {v : Int} (hs : s.awake)
    (h : (s.advance t).reaches src) :
    execRegisterWrite t src index sub inst v length s =
      .next ((s.advance t).keep (((s.advance t).admitted src).writeObj src ⟨index, sub, inst⟩ v [] length)) := by
  obtain ⟨hears, htakes⟩ := h
  refine (s.boot_awake t src _ hs).trans ?_
  rw [if_neg (by simp [hs.2, hears]), State.place_taken _ _ _ _ (by simpa using htakes)]
  rfl

/-- A period is no command. -/
theorem State.writeLocated_period (src : Nat) (c : CellId) {v : Int} (hholds : periodRow.type.holds v = true) :
    s.writeLocated src periodRow ⟨0x5010, 2, c⟩ v [] 4 = s.writeConfig periodRow ⟨0x5010, 2, c⟩ v := by
  have hlength : periodRow.length ⟨0x5010, 2, c⟩ = 4 := rfl
  have hoctets : periodRow.type ≠ .octets := by decide
  have htele : isTelemetry 0x5010 = false := by decide
  have hcontrol : s.writeControl src ⟨0x5010, 2, c⟩ v.toNat = none := rfl
  have hservice : s.writeService src ⟨0x5010, 2, c⟩ v.toNat = none := rfl
  simp [State.writeLocated, hlength, hoctets, hholds, htele, hcontrol, hservice]

/-- The checks before the own rule of a period: it is there, it is of class RWS at integrator authority, it has 4 octets, and it
is no command. -/
theorem State.writeObj_period {src : NodeId} (c : CellId) {v : Int} (hstandby : s.standby = false)
    (hauth : 2 ≤ s.authorityOf src) (hlo : 0 ≤ v) (hhi : v < 4294967296) :
    (s.admitted src).writeObj src ⟨0x5010, 2, c⟩ v [] 4 = (s.noted src).writeConfig periodRow ⟨0x5010, 2, c⟩ v := by
  have hnoted : ((s.admitted src).received src).result 0 = s.noted src := rfl
  have hhome : (s.noted src).homeAddr ⟨0x5010, 2, c⟩ = ⟨0x5010, 2, c⟩ :=
    if_neg fun h => absurd h.1 (by decide : ¬ (0x5010 / 0x10 = 0x600 ∨ 0x5010 / 0x10 = 0x620 ∨ 0x5010 / 0x10 = 0x621 ∨
      0x5010 / 0x10 = 0x630 ∨ 0x5010 / 0x10 = 0x631))
  have hstandby' : (s.noted src).standby = false := (s.standby_admitted src).trans hstandby
  have hauth' : ¬ (s.noted src).authorityOf src < periodRow.need := by
    have hsame : (s.noted src).authorityOf src = s.authorityOf src := s.authorityOf_admitted src src
    rw [hsame]
    exact Nat.not_lt.mpr hauth
  have hholds : periodRow.type.holds v = true := decide_eq_true ⟨hlo, hhi⟩
  unfold State.writeObj
  dsimp only
  rw [hnoted, State.locate_period]
  dsimp only
  rw [hhome, if_neg (by decide), if_neg (by simp [hstandby']), if_neg hauth', if_neg (by simp), if_neg (by simp [periodRow, row])]
  exact State.writeLocated_period _ src c hholds

/-- The own rule of a period: its range, and that of a cell's object (R52, R53, R87, R107). -/
theorem State.ownRule_period (c : CellId) (v : Int) :
    s.ownRule periodRow ⟨0x5010, 2, c⟩ v = (!decide (12800 ≤ v ∧ v ≤ 1280000) || s.refuseCell c 0x5010 2 v) := by
  simp [State.ownRule, periodRow, row]

/-- Withdrawn permissions change no object. -/
theorem State.relayRules_obj (u : State) : (State.relayRules s u).obj = u.obj := by
  refine foldl_keeps State.obj _ (fun v r => ?_) _ u
  dsimp only
  split
  · refine foldl_keeps State.obj _ (fun _ _ => ?_) _ _
    rfl
  · rfl

/-- A period that its own rule takes is held. -/
theorem State.writeConfig_period (c : CellId) (v : Int) :
    (s.ownRule periodRow ⟨0x5010, 2, c⟩ v = true → s.writeConfig periodRow ⟨0x5010, 2, c⟩ v = s.result 0x23) ∧
    (s.ownRule periodRow ⟨0x5010, 2, c⟩ v = false →
      (s.writeConfig periodRow ⟨0x5010, 2, c⟩ v).lastResult = 0 ∧
        (s.writeConfig periodRow ⟨0x5010, 2, c⟩ v).obj = (s.put 0x5010 2 c v).obj) := by
  have hrule : s.writeConfig periodRow ⟨0x5010, 2, c⟩ v =
      if s.ownRule periodRow ⟨0x5010, 2, c⟩ v then s.result 0x23 else (s.holdValue ⟨0x5010, 2, c⟩ v).result 0 := by
    simp [State.writeConfig]
  have hheld : s.holdValue ⟨0x5010, 2, c⟩ v = State.relayRules s (s.put 0x5010 2 c v) := by
    simp [State.holdValue, State.writeEffect]
  rw [hrule, hheld]
  refine ⟨fun h => if_pos h, fun h => ?_⟩
  rw [h]
  exact ⟨rfl, s.relayRules_obj _⟩

/-- The rule of a cell's period refuses while the cell is not at rest, a value up to the phase offset, and one that breaks a budget
(R53, R87, R107). -/
theorem State.refuseCell_period (c : Nat) (v : Int) :
    s.refuseCell c 0x5010 2 v =
      (decide ((s.cell c).state ≠ .idle ∧ (s.cell c).state ≠ .fault) ||
        (decide (v ≤ s.cfg 0x5010 3 c) || s.budgetBroken c v)) := by
  unfold State.refuseCell
  dsimp only
  rw [if_neg (by decide)]
  cases (s.cell c).state <;> rfl

/-- Accepting a request moves no cell. -/
@[simp] theorem State.noted_cells (src : Nat) : (s.noted src).cells = s.cells := by
  unfold State.noted State.admitted State.received State.noteRequest
  split
  · rfl
  · split <;> rfl

@[simp] theorem State.cell_noted (src c : Nat) : (s.noted src).cell c = s.cell c := by
  rw [State.cell, State.noted_cells]
  rfl

/-- Settles O59: a write of a period comes to its own rule, and that refuses it or holds it. -/
theorem periodWritesAreJudged : Obligations.PeriodWritesAreJudged := by
  intro s a t src c v hs ha hstandby hreach hauth hlo hhi
  subst ha
  have hexec := execRegisterWrite_reaches s (index := 0x5010) (sub := 2) (inst := c) (length := 4) (v := v) hs hreach
  rw [State.writeObj_period _ c hstandby hauth hlo hhi] at hexec
  obtain ⟨hrefused, htaken⟩ := ((s.advance t).noted src).writeConfig_period c v
  have hcell : ((s.advance t).noted src).cell c = (s.advance t).cell c := State.cell_noted _ src c
  have hoffset : ((s.advance t).noted src).cfg 0x5010 3 c = (s.advance t).cfg 0x5010 3 c :=
    State.cfg_of_obj (State.noted_obj _ src) _ _ _
  rw [State.ownRule_period, State.refuseCell_period, hcell, hoffset] at hrefused htaken
  refine ⟨fun hbad => ⟨_, hexec, ?_⟩, fun hmin hmax hrest hover hbudget => ⟨_, hexec, ?_⟩⟩
  · have hrule := hrefused (by
      rcases hbad with hlow | hhigh | hruns
      · simp [Int.not_le.mpr hlow]
      · simp [Int.not_le.mpr hhigh]
      · simp [hruns])
    rw [hrule]
    exact ⟨rfl, State.noted_obj _ src⟩
  · have hidle : ¬ ((s.advance t).cell c).state ≠ .idle ∨ ¬ ((s.advance t).cell c).state ≠ .fault := by simpa using hrest
    obtain ⟨hresult, hobj⟩ := htaken (by simp [hmin, hmax, hbudget, Int.not_le.mpr hover, not_and_or.mpr hidle])
    exact ⟨hresult, (State.cfg_of_obj hobj _ _ _).trans (State.cfg_put _ _ _ _ _)⟩

end Sys2Proof.Machine
end

section
/-! PROOFS. The control engines: the formats and limits of an evaluation, and the commands of a context. -/

namespace Sys2Proof.Machine

/-! ### Formats (R99) -/

/-- What `sat23` answers is in Q0.23. -/
theorem sat23_range (v : Int) : -8388608 ≤ (sat23 v).1 ∧ (sat23 v).1 ≤ 8388607 := by
  unfold sat23
  split
  · decide
  · split
    · decide
    · dsimp only; omega

/-- A value of Q0.23 is left as it is. -/
theorem sat23_of_range {v : Int} (hlo : -8388608 ≤ v) (hhi : v ≤ 8388607) : (sat23 v).1 = v := by
  rw [sat23, if_neg (by omega), if_neg (by omega)]

/-- What `sat40` answers is in its format of 40 bits. -/
theorem sat40_range (v : Int) : -549755813888 ≤ (sat40 v).1 ∧ (sat40 v).1 ≤ 549755813887 := by
  unfold sat40
  split
  · decide
  · split
    · decide
    · dsimp only; omega

/-- A value of 40 bits is left as it is. -/
theorem sat40_of_range {v : Int} (hlo : -549755813888 ≤ v) (hhi : v ≤ 549755813887) : (sat40 v).1 = v := by
  rw [sat40, if_neg (by omega), if_neg (by omega)]

/-- Rounding to Q0.23 keeps a value between two values of Q0.23. -/
theorem rnd23_range {v lo hi : Int} (hlo : lo * 256 ≤ v) (hhi : v ≤ hi * 256) : lo ≤ rnd23 v ∧ rnd23 v ≤ hi := by
  unfold rnd23
  omega

/-- Limits in order hold the value between them. -/
theorem limitInt_range (v : Int) {lo hi : Int} (h : lo ≤ hi) : lo ≤ limitInt v lo hi ∧ limitInt v lo hi ≤ hi := by
  unfold limitInt
  split
  · exact ⟨le_refl lo, h⟩
  · split
    · exact ⟨h, le_refl hi⟩
    · omega

/-! ### The output and the integrator (R101, R102) -/

/-- The limits of a bank are in order and in Q0.23 (R98, R100). -/
def Coeffs.limitsFit (c : Coeffs) : Prop := -8388608 ≤ c.uMin ∧ c.uMin ≤ c.uMax ∧ c.uMax ≤ 8388607

/-- u_sat of R101: the raw output within the limits of the bank. -/
def Coeffs.limited (c : Coeffs) (raw : Int) : Int := limitInt raw (c.uMin * 256) (c.uMax * 256)

/-- The integrator that an evaluation leaves (R101): u_raw, bled by kb towards u_sat. -/
def Coeffs.bled (c : Coeffs) (raw : Int) : Int × Nat := sat40 (raw + (c.kb * (c.limited raw - raw) + 134217728) / 268435456)

section

variable {c : Coeffs} (hfit : c.limitsFit) (raw : Int)
include hfit

theorem Coeffs.limited_range : c.uMin * 256 ≤ c.limited raw ∧ c.limited raw ≤ c.uMax * 256 :=
  limitInt_range raw (by obtain ⟨-, horder, -⟩ := hfit; omega)

/-- The output of an evaluation is its limited raw output, rounded: it never saturates. -/
theorem Coeffs.output_eq : (sat23 (rnd23 (c.limited raw))).1 = rnd23 (c.limited raw) := by
  have ⟨hmin, _, hmax⟩ := hfit
  obtain ⟨hlo, hhi⟩ := Coeffs.limited_range hfit raw
  obtain ⟨hlo, hhi⟩ := rnd23_range hlo hhi
  exact sat23_of_range (hmin.trans hlo) (hhi.trans hmax)

/-- A limited output is far within 40 bits. -/
theorem Coeffs.sat40_limited : (sat40 (c.limited raw)).1 = c.limited raw := by
  have ⟨hmin, _, hmax⟩ := hfit
  obtain ⟨hlo, hhi⟩ := Coeffs.limited_range hfit raw
  exact sat40_of_range (by omega) (by omega)

/-- With kb = 1.0 the whole excess is bled (R102). -/
theorem Coeffs.bled_full (hkb : c.kb = 268435456) : (c.bled raw).1 = c.limited raw := by
  have hall : raw + (c.kb * (c.limited raw - raw) + 134217728) / 268435456 = c.limited raw := by rw [hkb]; omega
  rw [Coeffs.bled, hall, Coeffs.sat40_limited hfit]

/-- With kb = 0 nothing is bled, so an output that is not clamped is the integrator (R102). -/
theorem Coeffs.bled_none (hkb : c.kb = 0) (hfree : raw = c.limited raw) : (c.bled raw).1 = c.limited raw := by
  have hnone : raw + (c.kb * (c.limited raw - raw) + 134217728) / 268435456 = c.limited raw := by rw [hkb]; omega
  rw [Coeffs.bled, hnone, Coeffs.sat40_limited hfit]

end

/-! ### One evaluation -/

/-- The context that an evaluation of error e starts from: preset where a release asked for it (R113, R114). -/
def Ctx.presetFor (x : Ctx) (e : Int) : Ctx := (if x.preset then x.applyPreset e else (x, 0)).1

/-- A preset leaves both banks. -/
theorem Ctx.presetFor_banks (x : Ctx) (e : Int) :
    (x.presetFor e).active = x.active ∧ (x.presetFor e).staging = x.staging := by
  unfold Ctx.presetFor Ctx.applyPreset
  split
  · split <;> exact ⟨rfl, rfl⟩
  · exact ⟨rfl, rfl⟩

theorem Ctx.presetFor_none {x : Ctx} (e : Int) (h : x.preset = false) : x.presetFor e = x := by
  rw [Ctx.presetFor, h]
  rfl

/-- What an evaluation leaves of a context p, from its accumulator and its raw output (R101). -/
def Ctx.evaluated (p : Ctx) (y r acc raw : Int) : Ctx :=
  { p with
    integ := (if p.active.integrator then p.active.bled raw else (p.integ, 0)).1
    h3 := p.h2, h2 := p.h1
    h1 := (if p.active.integrator then sat23 (rnd23 acc) else sat23 (rnd23 (p.active.limited raw))).1
    e3 := p.e2, e2 := p.e1, e1 := (sat23 (r - y)).1
    computed := (sat23 (rnd23 (p.active.limited raw))).1
    err := (sat23 (r - y)).1, setpoint := r, y := y, clamp := decide (raw ≠ p.active.limited raw), ready := none, skipRun := 0 }

theorem Ctx.evaluated_h1_range (p : Ctx) (y r acc raw : Int) :
    -8388608 ≤ (p.evaluated y r acc raw).h1 ∧ (p.evaluated y r acc raw).h1 ≤ 8388607 := by
  unfold Ctx.evaluated
  dsimp only
  split <;> exact sat23_range _

/-- An integrator form leaves the bled integrator. -/
theorem Ctx.evaluated_integ {p : Ctx} (y r acc raw : Int) (h : p.active.integrator = true) :
    (p.evaluated y r acc raw).integ = (p.active.bled raw).1 := by
  rw [Ctx.evaluated, h]
  rfl

/-- An evaluation presets where asked, then forms an accumulator and a raw output, and all else follows from these two. -/
theorem Ctx.evaluate_eq (x : Ctx) (y r : Int) :
    ∃ acc raw : Int, (x.evaluate y r).1 = (x.presetFor (sat23 (r - y)).1).evaluated y r acc raw :=
  ⟨_, _, rfl⟩

/-- Settles O55: all fields follow from a raw output (`Ctx.evaluate_eq`), which the limits hold in Q0.23 (`Coeffs.output_eq`), and
the integrator is that limited output where kb bleeds the whole excess or there is none (`Coeffs.bled_full`, `Coeffs.bled_none`). -/
theorem evaluationStaysInItsLimits : Obligations.EvaluationStaysInItsLimits := by
  intro x u y r n hmin horder hmax heval
  have hfit : x.active.limitsFit := ⟨hmin, horder, hmax⟩
  obtain ⟨acc, raw, hu⟩ := x.evaluate_eq y r
  replace hu : u = (x.presetFor (sat23 (r - y)).1).evaluated y r acc raw := by rw [← hu, heval]
  obtain ⟨hactive, hstaging⟩ := x.presetFor_banks (sat23 (r - y)).1
  have hlimited := Coeffs.limited_range hfit raw
  have hcomputed : u.computed = rnd23 (x.active.limited raw) := by
    rw [hu, ← Coeffs.output_eq hfit raw, ← hactive]
    rfl
  have hinteg (hform : x.active.integrator = true) : u.integ = (x.active.bled raw).1 := by
    rw [hu, Ctx.evaluated_integ y r acc raw (by rw [hactive, hform]), hactive]
  have herr : u.err = (sat23 (r - y)).1 := by rw [hu]; rfl
  have hhist : -8388608 ≤ u.h1 ∧ u.h1 ≤ 8388607 := hu ▸ Ctx.evaluated_h1_range _ y r acc raw
  obtain ⟨hlo, hhi⟩ := rnd23_range hlimited.1 hlimited.2
  refine ⟨hcomputed ▸ hlo, hcomputed ▸ hhi, herr ▸ (sat23_range _).1, herr ▸ (sat23_range _).2, hhist.1, hhist.2, ?_, herr,
    fun hform => ?_, fun hpreset => ?_, fun hform hkb => ?_, fun hform hkb hclamp => ?_, ?_, ?_⟩
  · rw [hu]; rfl
  · rw [hinteg hform]; exact sat40_range _
  · rw [hu, Ctx.presetFor_none _ hpreset]; exact ⟨rfl, rfl, rfl, rfl⟩
  · rw [hinteg hform, Coeffs.bled_full hfit raw hkb, hcomputed]
    exact ⟨hlimited.1, hlimited.2, rfl⟩
  · have hfree : raw = x.active.limited raw := by
      rw [hu, Ctx.evaluated, hactive] at hclamp
      simpa using hclamp
    rw [hinteg hform, Coeffs.bled_none hfit raw hkb hfree]
    exact hlimited
  · rw [hu]; exact hactive
  · rw [hu]; exact hstaging

/-! ### Context commands -/

variable (s : State)

/-- A disable of a running context whose group does not run leaves it DISABLED in its initial state (R90). -/
theorem State.writeEnable_disables {k : Nat} (hgroup : s.ctxGroup 17 k = none) (hrun : (s.ctx k).state = .run) :
    s.writeEnable k 0 = ((s.setCtx k { (s.ctx k).initial with state := .disabled }).put 0x6100 1 k 0).result 0 := by
  unfold State.writeEnable
  dsimp only
  rw [hgroup, hrun]
  rfl

/-- A release of a held context whose coming bank passes its check is carried out, with the result 0 (R112). -/
theorem State.release_held {k : Nat} (swap : Bool) (hheld : (s.ctx k).state = .held)
    (hcheck : (if swap then (s.ctx k).staging else (s.ctx k).active).check = 0) :
    s.release k swap = ((s.put 0x6120 0xA k 0).releaseCtx k swap).result 0 := by
  unfold State.release
  dsimp only
  rw [hheld]
  dsimp only
  rw [hcheck]
  rfl

/-- Settles O4: each command is a row that the dictionary server takes, and the conditions of a clause choose the branch of its
effect. -/
theorem contextCommandsComplete : Obligations.ContextCommandsComplete := by
  intro s a b t src hs ha hb
  subst ha hb
  refine ⟨fun k h hgroup hrun => ?_, fun k value h => ?_, fun k h => ?_, fun k h hheld hcheck => ?_, fun k h hheld hcheck => ?_⟩
  · refine (s.live_dict_accepted t _ _ _ _ _ hs h).trans ?_
    rw [State.writeEnable_disables _ hgroup hrun]
  · exact s.live_dict_accepted t _ _ _ _ _ hs h
  · exact s.live_dict_accepted t _ _ _ _ _ hs h
  · refine (s.live_dict_accepted t _ _ _ _ _ hs h).trans ?_
    rw [State.release_held _ true hheld hcheck]
  · refine (s.live_dict_accepted t _ _ _ _ _ hs h).trans ?_
    rw [State.release_held _ false hheld hcheck]

end Sys2Proof.Machine
end

section
/-! PROOFS. The setpoints of the groups and the start of the chip: the frame of a group manager's judgements, the timers of a
group, and what supplies, pins, the start and a turn do. -/

namespace Sys2Proof.Machine

variable (s : State)

/-! ### The frame of a group manager's judgements -/

/-- From `s` to `u` nothing but the time, the cells and the groups differs. -/
def State.regroups (s u : State) : Prop := u = { s with now := u.now, cells := u.cells, groups := u.groups }

theorem State.regroups_refl : s.regroups s := rfl

theorem State.regroups.trans {s u v : State} (h : s.regroups u) (h' : u.regroups v) : s.regroups v := Eq.trans h' (by rw [h])

theorem State.regroups_setGroup (g : Nat) (x : Group) : s.regroups (s.setGroup g x) := rfl

theorem State.regroups_setCell (c : Nat) (x : Cell) : s.regroups (s.setCell c x) := rfl

/-- Changes along a list are such a change. -/
theorem State.regroups_foldl {β : Type} (f : State → β → State) (hf : ∀ a y, State.regroups a (f a y)) (l : List β) :
    s.regroups (l.foldl f s) :=
  List.foldlRecOn l f s.regroups_refl fun _ ha y _ => ha.trans (hf _ y)

/-- A change that waits for its condition is such a change. -/
theorem State.regroups_ite {s u : State} {p : Prop} [Decidable p] (h : s.regroups u) : s.regroups (if p then u else s) := by
  split
  · exact h
  · exact s.regroups_refl

/-- The time of a command is no part of what it changes. -/
theorem State.regroups.atTime {s u : State} (h : s.regroups u) (t : Tick) : s.regroups { u with now := t } := by
  rw [h]; rfl

/-- So no object changes. -/
theorem State.regroups.objectsKept {s u : State} (h : s.regroups u) : s.objectsKept u [] := fun d x _ => by
  rw [h]

/-- A group command whose effect is such a change is one, whether it acts at once, in the next SYS cycle or not at all (R34). -/
theorem State.regroups_groupAccept (g rank : Nat) (start : Bool) (f : State → State) (hf : ∀ a : State, a.regroups (f a)) :
    s.regroups (s.groupAccept g rank start f) := by
  have hmarked : ∀ cycle, s.regroups (f (s.markCommand g cycle rank)) := fun _ => (s.regroups_setGroup _ _).trans (hf _)
  unfold State.groupAccept
  dsimp only
  split
  · exact hmarked _
  · split
    · split
      · exact s.regroups_refl
      · split
        · exact hmarked _
        · exact (((s.regroups_setGroup _ _).atTime _).trans (hf _)).atTime _
    · exact s.regroups_refl

/-- A shed writes the ramps of its unit and restarts the dwells of its group (R154). -/
theorem State.regroups_phaseShed (g : Nat) : s.regroups ((s.phaseShed g).getD s) := by
  unfold State.phaseShed
  dsimp only
  split
  · exact s.regroups_refl
  · split
    · exact s.regroups_refl
    · split
      · exact s.regroups_refl
      · exact (s.regroups_foldl _ (fun a c => a.regroups_setCell c _) _).trans (State.regroups_setGroup _ _ _)

/-- A command whose effect is such a change makes it at its time, or only passes the time. -/
theorem State.regroups_live {t : Tick} {f : State → State} {u : State} (h : s.live t f = .next u)
    (hf : ∀ a : State, a.regroups (f a)) : s.regroups u := by
  unfold State.live at h
  split at h
  · cases h
    exact s.regroups_refl.atTime _
  · cases h
    rw [State.keep, hf (s.advance t)]
    rfl

/-- Each judgement of a group manager is such a change (R131, R154, R155, R164). -/
theorem exec_judgesPhases {c : Instr} {u : State} (hc : c.judgesPhases = true) (h : exec c s = .next u) : s.regroups u := by
  unfold Instr.judgesPhases at hc
  split at hc
  -- `groupPowerGoodLoss`, `deviationLoadStep`, `senseRatioUpdate`, `phaseShedDecision`
  case h_1 t g => exact s.regroups_live (t := t) h fun a => State.regroups_ite (a.regroups_setGroup _ _)
  case h_2 t g =>
    exact s.regroups_live (t := t) h fun a =>
      State.regroups_ite ((a.regroups_setGroup _ _).trans (State.regroups_setGroup _ _ _))
  case h_3 t g code => exact s.regroups_live (t := t) h fun a => State.regroups_ite (a.regroups_setGroup _ _)
  case h_4 t g =>
    exact s.regroups_live (t := t) h fun a =>
      State.regroups_ite (a.regroups_groupAccept _ _ _ _ fun b => b.regroups_phaseShed g)
  case h_5 => cases hc

/-- Settles O48: `exec_judgesPhases` gives the frame, and the frame holds every object. -/
theorem phaseJudgementsWriteNoObject : Obligations.PhaseJudgementsWriteNoObject := by
  intro s u c hc hu
  have h : s.regroups u := exec_judgesPhases s hc hu
  exact ⟨h, h.objectsKept⟩

/-! ### The timers of a group -/

/-- A command on a chip out of reset has the effect that its condition chooses. -/
theorem State.live_effect {t : Tick} {f : State → State} {u : State} (hs : s.awake) (hf : f (s.advance t) = u) :
    s.live t f = .next ((s.advance t).keep u) := by
  rw [s.live_awake t f hs, hf]

/-- Settles O8: the conditions of each clause choose the branch of its command. -/
theorem groupTimersComplete : Obligations.GroupTimersComplete := by
  intro s a t hs ha
  subst ha
  refine ⟨fun g hrun hbad hrole hband => ?_, fun g hrun hbad hrole hopen => ?_, fun g hgood hrole hout => ?_,
    fun g x hx hawait hstarting hlate => ?_, fun g hrole hwait hready => ?_, fun g u hrole hrun hlow hu => ?_,
    fun g hrole hopen hedge hrun => ?_, fun g hrole hopen hedge hrun => ?_, fun g hheld => ?_,
    fun g i u hrole hfirst hi hu hceiling => ?_⟩
  · exact s.live_effect hs (if_pos ⟨hrun, by simp [hbad], by rwa [if_neg hrole]⟩)
  · exact s.live_effect hs (if_pos ⟨hrun, by simp [hbad], by rwa [if_pos hrole]⟩)
  · exact s.live_effect hs (if_pos ⟨hgood, hrole, hout⟩)
  · have hrunning : x.state.running = true := by rw [hstarting]; rfl
    have hgoes : x.state ≠ .stopping := by rw [hstarting]; decide
    have hcode : x.state.code = 1 := by rw [hstarting]; rfl
    subst hx
    rw [← hcode]
    exact s.live_effect hs (if_pos ⟨hawait, hrunning, hgoes, hlate⟩)
  · exact s.live_effect hs (if_pos ⟨hrole, hwait, hready⟩)
  · subst hu
    refine s.live_effect hs ((if_pos ⟨hrole, Or.inr hrun, hlow⟩).trans ?_)
    dsimp only
    rw [if_pos hrun]
    rfl
  · exact s.live_effect hs ((if_pos ⟨hrole, by simp [hopen], hedge⟩).trans (if_pos hrun))
  · exact s.live_effect hs ((if_pos ⟨hrole, by simp [hopen], hedge⟩).trans (if_neg hrun))
  · exact s.live_effect hs (if_pos hheld)
  · subst hi hu
    exact s.live_effect hs ((if_pos ⟨hrole, by rw [hfirst]⟩).trans (if_neg (Int.not_lt.mpr hceiling)))

/-! ### Supplies, reset pins, the start and the turn -/

/-- A command that no reset holds off has its effect at its time. -/
theorem State.wired_effect {t : Tick} {f : State → State} {u : State} (hf : f (s.advance t) = u) :
    s.wired t f = .next ((s.advance t).keep u) := by
  rw [State.wired, hf]

/-- RST_N that has been low for 220 ns is taken (R451). -/
theorem execRstNLow_long {t : Tick} {low : LowLevel} (h : 220 ≤ low.nanoSeconds) :
    execRstNLow t low s = .next ((s.advance t).keep ((s.advance t).rstLow low.still)) :=
  s.wired_effect ((if_neg (by omega)).trans (if_pos (Or.inl h)))

/-- RST_N that has been low for less than 180 ns does nothing (R451). -/
theorem execRstNLow_short {t : Tick} {low : LowLevel} (h : low.nanoSeconds < 180) :
    execRstNLow t low s = .next ((s.advance t).keep (s.advance t)) :=
  s.wired_effect (if_pos h)

/-- A low level of the partner's reset counts from 20 ns on (R331). -/
theorem execPartnerResetIn_long {t : Tick} {low : LowLevel} {u : State} (h : 20 ≤ low.nanoSeconds)
    (hu : u = (s.advance t).enterReset 4 0) :
    execPartnerResetIn t low s = .next ((s.advance t).keep
      ((u.setAlways { u.always with partnerReset := true }).setRun { u.run with partnerLow := low.still })) := by
  subst hu
  exact s.wired_effect (if_neg (by omega))

/-- A shorter one does nothing (R331). -/
theorem execPartnerResetIn_short {t : Tick} {low : LowLevel} (h : low.nanoSeconds < 20) :
    execPartnerResetIn t low s = .next ((s.advance t).keep (s.advance t)) :=
  s.wired_effect (if_pos h)

/-- Settles O29: the supplies, the pins and the start go by the rules above and by their own definitions, the ring PHY and the
turn by the branch that their condition chooses. -/
theorem startAndPinsComplete : Obligations.StartAndPinsComplete := by
  intro s a t hs ha
  subst ha
  refine ⟨fun u hu => ?_, fun x mv => rfl, fun ns still hlong => execRstNLow_long s hlong,
    fun ns still hshort => execRstNLow_short s hshort, fun ns still u hlong hu => execPartnerResetIn_long s hlong hu,
    fun ns still hshort => execPartnerResetIn_short s hshort, fun x => rfl, fun u hfirst hu => ?_,
    fun l u v hnew hu hv => ?_, fun l hdone => s.live_effect hs (if_pos hdone)⟩
  · subst hu
    rfl
  · refine (s.live_awake t _ hs).trans ?_
    rw [if_pos hfirst, hu]
  · refine (s.live_awake t _ hs).trans ?_
    rw [if_neg hnew, ← hu]
    dsimp only at hv ⊢
    rw [← hv]

end Sys2Proof.Machine
end

section
/-! PROOFS. The turn track: the frame of the frame, time and load map trackers, and how the mains, frame and time trackers follow
their inputs. -/

namespace Sys2Proof.Machine

/-! ### Which objects stay -/

/-- The objects of the frame, time and load map trackers, the forecast places, and the count of repeats (R181, R189, R194, R195,
R317). -/
def trackerObjects : List Nat := [0x2210, 0x2211, 0x2230, 0x2300, 0x8006]

section
variable {s u v : State} {l : List Nat}

theorem State.objectsKept.trans (h : s.objectsKept u l) (h' : u.objectsKept v l) : s.objectsKept v l :=
  fun d x hx => (h' d x hx).trans (h d x hx)

/-- A write of a listed object leaves every other object. -/
theorem State.objectsKept_put (s : State) {i : Nat} (k n : Nat) (value : Int) (h : i ∈ l) : s.objectsKept (s.put i k n value) l :=
  fun d _ hx => bget_bset_ne d s.obj value fun e => hx (e ▸ h)

/-- An event changes no object but the count of repeats (R317). -/
theorem State.objectsKept_raise (s : State) (e : Event) (h : 0x8006 ∈ l) : s.objectsKept (s.raise e) l := by
  intro d x hx
  rcases s.raise_obj e with hobj | hobj
  · rw [hobj]
  · rw [hobj]
    exact s.objectsKept_put 1 0 _ h d x hx

end

/-! ### The frame of the trackers -/

/-- From `s` to `u` nothing but the time, what the frame, time and load map trackers own, and what an event changes differs. -/
def State.tracksTo (s u : State) : Prop :=
  u = { s with now := u.now, obj := u.obj, limited := u.limited, frame := u.frame, loadMap := u.loadMap,
               faults := u.faults, inputs := u.inputs, twin := { s.twin with ownFaults := u.twin.ownFaults } } ∧
    s.objectsKept u trackerObjects

theorem State.tracksTo_refl (s : State) : s.tracksTo s := ⟨rfl, fun _ _ _ => rfl⟩

section
variable {s u v : State}

theorem State.tracksTo.trans (h : s.tracksTo u) (h' : u.tracksTo v) : s.tracksTo v :=
  ⟨h'.1.trans (by rw [h.1]), h.2.trans h'.2⟩

/-- A choice between two such changes is one. -/
theorem State.tracksTo_ite {p : Prop} [Decidable p] (h : s.tracksTo u) (h' : s.tracksTo v) : s.tracksTo (if p then u else v) := by
  split
  · exact h
  · exact h'

variable (h : s.tracksTo u)
include h

/-- The time of a command is no part of what it changes. -/
theorem State.tracksTo.atTime (t : Tick) : s.tracksTo { u with now := t } :=
  h.trans ⟨rfl, fun _ _ _ => rfl⟩

theorem State.tracksTo.setFrame (x : FrameT) : s.tracksTo (u.setFrame x) :=
  h.trans ⟨rfl, fun _ _ _ => rfl⟩

theorem State.tracksTo.withMap (m : Bank Nat MapBin) : s.tracksTo { u with loadMap := m } :=
  h.trans ⟨rfl, fun _ _ _ => rfl⟩

theorem State.tracksTo.put {i : Nat} (k n : Nat) (value : Int) (hi : i ∈ trackerObjects) : s.tracksTo (u.put i k n value) :=
  h.trans ⟨rfl, u.objectsKept_put k n value hi⟩

theorem State.tracksTo.bump {i : Nat} (k n : Nat) (hi : i ∈ trackerObjects) : s.tracksTo (u.bump i k n) :=
  h.put k n _ hi

theorem State.tracksTo.raise (e : Event) : s.tracksTo (u.raise e) := by
  obtain ⟨_, _, _, _, hraise⟩ := u.raise_changes e
  exact h.trans ⟨by rw [hraise], u.objectsKept_raise e (by decide)⟩

theorem State.tracksTo.withLimited (m : Bank (Nat × Nat) Tick) : s.tracksTo { u with limited := m } :=
  h.trans ⟨rfl, fun _ _ _ => rfl⟩

theorem State.tracksTo.raiseLimited (key : Nat) (e : Event) : s.tracksTo (u.raiseLimited key e) := by
  have hraised := (h.withLimited (bset u.limited (e.code, key) u.now)).raise e
  unfold State.raiseLimited
  split
  · exact State.tracksTo_ite h hraised
  · exact hraised

/-- Changes along a list are such a change. -/
theorem State.tracksTo.foldl {β : Type} (f : State → β → State) (hf : ∀ (a : State) y, s.tracksTo a → s.tracksTo (f a y))
    (l : List β) : s.tracksTo (l.foldl f u) :=
  List.foldlRecOn l f h fun a ha y _ => hf a y ha

/-! ### What the trackers do -/

theorem State.tracksTo.toFrame (st : Nat) : s.tracksTo (u.toFrame st) := h.put 1 0 _ (by decide)

theorem State.tracksTo.raiseFrame (code : Nat) : s.tracksTo (u.raiseFrame code) := h.raise _

theorem State.tracksTo.clearMap : s.tracksTo u.clearMap :=
  ((h.put 5 0 0 (by decide)).put 6 0 0 (by decide)).withMap []

theorem State.tracksTo.noteResumed : s.tracksTo u.noteResumed :=
  State.tracksTo_ite ((h.setFrame _).raiseFrame _) h

/-- An accepted strobe times a PPS edge that waits, and sets FP (R181, R189). -/
theorem State.tracksTo.alignFrame : s.tracksTo u.alignFrame := by
  unfold State.alignFrame
  dsimp only
  refine (State.tracksTo.setFrame (State.tracksTo_ite ?_ h) _).put _ _ _ (by decide)
  split
  · exact h.put _ _ _ (by decide)
  · exact h

theorem State.tracksTo.lockFrame : s.tracksTo u.lockFrame :=
  (((h.alignFrame.setFrame _).toFrame 2).raiseFrame _).noteResumed

theorem State.tracksTo.learnBlock (blk : Nat) : s.tracksTo (u.learnBlock blk) := by
  unfold State.learnBlock
  dsimp only
  split
  · exact h.setFrame _
  · exact ((h.put _ _ _ (by decide)).setFrame _).put _ _ _ (by decide)

theorem State.tracksTo.countStrobe : s.tracksTo u.countStrobe := by
  unfold State.countStrobe
  dsimp only
  split
  · exact h.setFrame _
  · exact State.tracksTo_ite ((h.setFrame _).learnBlock _) (h.setFrame _)

theorem State.tracksTo.acceptStrobe : s.tracksTo u.acceptStrobe :=
  State.tracksTo_ite (((h.alignFrame.toFrame 2).setFrame _).raiseFrame _).noteResumed h.alignFrame.countStrobe

theorem State.tracksTo.acquireFrame : s.tracksTo u.acquireFrame := (h.toFrame 1).setFrame _

/-- An edge in ACQUIRE locks, starts anew, or is kept as the first of two intervals (R182). -/
theorem State.tracksTo.acquireEdge : s.tracksTo u.acquireEdge := by
  unfold State.acquireEdge
  dsimp only
  split
  · exact h.acquireFrame
  · refine State.tracksTo_ite (h.raiseLimited _ _).acquireFrame ?_
    split
    · exact h.setFrame _
    · refine State.tracksTo_ite (State.tracksTo.lockFrame (State.tracksTo.setFrame ?_ _)) h.acquireFrame
      exact ((State.tracksTo_ite h.clearMap h).put _ _ _ (by decide)).put _ _ _ (by decide)

theorem State.tracksTo.beginStep : s.tracksTo u.beginStep :=
  (((h.raiseFrame _).toFrame 4).setFrame _).setFrame _

/-- An edge in STEP locks, returns, starts anew or is the next candidate (R186). -/
theorem State.tracksTo.stepEdge : s.tracksTo u.stepEdge := by
  refine State.tracksTo_ite (h.bump _ _ (by decide)).lockFrame
    (State.tracksTo_ite ?_ (State.tracksTo_ite h.acquireFrame (h.setFrame _)))
  have hback := (((h.raiseFrame 0x4616).setFrame
    { u.frame with discarded := u.frame.discardLeft.isSome, stepEdges := 0 }).toFrame u.frame.returnTo).alignFrame
  exact (State.tracksTo_ite (hback.raiseFrame _) hback).noteResumed

theorem State.tracksTo.learnFrame : s.tracksTo u.learnFrame := by
  have hmoved := fun m => (h.bump (i := 0x2230) 6 0 (by decide)).withMap m
  exact State.tracksTo_ite (State.tracksTo_ite ((hmoved _).put _ _ _ (by decide)) (hmoved _)) (h.withMap _)

/-- A forecast place is written or disabled (R195). -/
theorem State.tracksTo.placeForecast (bursts : List Nat) (place : Nat) : s.tracksTo (u.placeForecast bursts place) := by
  unfold State.placeForecast
  dsimp only
  split
  · refine State.tracksTo_ite (h.put _ _ _ (by decide)) ?_
    have hmove := fun value => ((h.put (i := 0x2300) 1 place value (by decide)).put (i := 0x2300) 2 place 1 (by decide)).put
      (i := 0x2300) 3 place 0 (by decide)
    exact (((hmove _).put _ _ _ (by decide)).put _ _ _ (by decide)).put _ _ _ (by decide)
  · exact h.put _ _ _ (by decide)

theorem State.tracksTo.placeForecasts : s.tracksTo u.placeForecasts :=
  State.tracksTo_ite (h.foldl _ (fun _ _ ha => ha.placeForecast _ _) _) h

end

/-! ### The commands of the trackers -/

/-- A command whose effect is such a change makes it at its time, or only passes the time. -/
theorem State.tracksTo_live {s u : State} {t : Tick} {f : State → State} (h : s.live t f = .next u)
    (hf : ∀ a : State, a.tracksTo (f a)) : s.tracksTo u := by
  have hadvance : s.tracksTo (s.advance t) := s.tracksTo_refl.atTime _
  unfold State.live at h
  split at h
  · cases h
    exact hadvance
  · cases h
    obtain ⟨hframe, hobj⟩ := hf (s.advance t)
    exact hadvance.trans ⟨by rw [State.keep, hframe], hobj⟩

/-- FRAME_STROBE goes by the state of the tracker (R182, R184, R186). -/
theorem execFrameStrobe_tracksTo {s u : State} {t : Tick} (h : execFrameStrobe t s = .next u) : s.tracksTo u := by
  refine State.tracksTo_live h fun a => ?_
  have ha := a.tracksTo_refl
  split
  · exact ha.acquireFrame
  · exact ha.acquireEdge
  · exact ha.stepEdge
  · exact State.tracksTo_ite ha.acceptStrobe ha.beginStep

/-- STROBE_MISS counts, and may lead to HOLDOVER (R184). -/
theorem execStrobeMiss_tracksTo {s u : State} {t : Tick} (h : execStrobeMiss t s = .next u) : s.tracksTo u := by
  refine State.tracksTo_live h fun a => State.tracksTo_ite ?_ a.tracksTo_refl
  have hmissed := (a.tracksTo_refl.bump (i := 0x2210) 0xB 0 (by decide)).setFrame
    { a.frame with expect := a.frame.expect + 1, blockStart := none }
  exact State.tracksTo_ite ((hmissed.raise _).toFrame 3) hmissed

theorem execForecastSuspend_tracksTo {s u : State} {t : Tick} (h : execForecastSuspend t s = .next u) : s.tracksTo u :=
  State.tracksTo_live h fun a => State.tracksTo_ite ((a.tracksTo_refl.setFrame _).raiseFrame _) a.tracksTo_refl

/-- PPS_EDGE times the interval since the edge before (R189). -/
theorem execPpsEdge_tracksTo {s u : State} {t : Tick} (h : execPpsEdge t s = .next u) : s.tracksTo u := by
  refine State.tracksTo_live h fun a => State.tracksTo_ite ?_ a.tracksTo_refl
  refine State.tracksTo.setFrame (State.tracksTo.put ?_ _ _ _ (by decide)) _
  split
  · exact a.tracksTo_refl.put _ _ _ (by decide)
  · exact a.tracksTo_refl

theorem execPpsAbsent_tracksTo {s u : State} {t : Tick} (h : execPpsAbsent t s = .next u) : s.tracksTo u :=
  State.tracksTo_live h fun a =>
    State.tracksTo_ite (((a.tracksTo_refl.put _ _ _ (by decide)).setFrame _).raise _) a.tracksTo_refl

/-- FRAME_BOUNDARY ends a frame of the map and places the forecasts (R194, R195). -/
theorem execFrameBoundary_tracksTo {s u : State} {t : Tick} (h : execFrameBoundary t s = .next u) : s.tracksTo u :=
  State.tracksTo_live h fun a =>
    State.tracksTo_ite
      (State.tracksTo_ite a.tracksTo_refl.learnFrame a.tracksTo_refl |>.setFrame _).placeForecasts.noteResumed a.tracksTo_refl

/-- Settles O39: each command of the trackers is such a change. -/
theorem trackersTouchTheirObjects : Obligations.TrackersTouchTheirObjects := by
  intro s u c hc hu
  unfold Instr.tracks at hc
  split at hc
  case h_1 => exact execFrameStrobe_tracksTo hu
  case h_2 => exact execStrobeMiss_tracksTo hu
  case h_3 => exact execForecastSuspend_tracksTo hu
  case h_4 => exact execPpsEdge_tracksTo hu
  case h_5 => exact execPpsAbsent_tracksTo hu
  case h_6 => exact execFrameBoundary_tracksTo hu
  case h_7 => cases hc

/-! ### The mains, frame and time trackers follow their inputs -/

variable (s : State)

/-- A strobe in LOCKED or HOLDOVER is judged by its deviation (R184, R186). -/
theorem execFrameStrobe_predicted {t : Tick} (hs : s.awake)
    (hstate : (s.advance t).frameState = 2 ∨ (s.advance t).frameState = 3) :
    execFrameStrobe t s = .next ((s.advance t).keep
      (if (s.advance t).strobeDeviation (s.advance t).now ≤ nsUnits 2000 then (s.advance t).acceptStrobe
        else (s.advance t).beginStep)) := by
  refine s.live_effect hs ?_
  split
  case h_1 | h_2 | h_3 => omega
  case h_4 => rfl

/-- The count of a missed strobe leaves the tracker's state. -/
theorem State.frameState_missed (x : FrameT) : ((s.bump 0x2210 0xB 0).setFrame x).frameState = s.frameState :=
  congrArg Int.toNat (s.cfg_put_ne 0x2210 0xB 0 _ (by decide) (by decide) (by decide))

section
variable {t : Tick} {u : State} (hs : s.awake)
  (hpast : (s.advance t).frame.expect * (s.advance t).framePeriod + nsUnits 2000 <
    ((s.advance t).now - (s.advance t).frame.alignAt) * stepUnits)
  (hu : u = ((s.advance t).bump 0x2210 0xB 0).setFrame
    { (s.advance t).frame with expect := (s.advance t).frame.expect + 1, blockStart := none })
include hs hpast hu

/-- A strobe missed in HOLDOVER is counted (R184). -/
theorem execStrobeMiss_holdover (hhold : (s.advance t).frameState = 3) :
    execStrobeMiss t s = .next ((s.advance t).keep u) := by
  have hstate : u.frameState ≠ 2 := by rw [hu, State.frameState_missed, hhold]; decide
  subst hu
  exact s.live_effect hs ((if_pos ⟨Or.inr hhold, hpast⟩).trans (if_neg fun h => hstate h.1))

/-- One that brings the count to its limit in LOCKED begins HOLDOVER (R184). -/
theorem execStrobeMiss_limit (hlocked : (s.advance t).frameState = 2) (hlimit : u.nat 0x2210 9 0 ≤ u.nat 0x2210 0xB 0) :
    execStrobeMiss t s = .next ((s.advance t).keep ((u.raise
      { ev 0x4612 0 with value := u.cfg 0x2210 0xB 0, limit := u.cfg 0x2210 9 0, stateCode := 2 }).toFrame 3)) := by
  have hstate : u.frameState = 2 := by rw [hu, State.frameState_missed, hlocked]
  subst hu
  exact s.live_effect hs ((if_pos ⟨Or.inl hlocked, hpast⟩).trans (if_pos ⟨hstate, hlimit⟩))

end

/-- Settles O14: the conditions of each clause choose the branch of its command. -/
theorem trackersComplete : Obligations.TrackersComplete := by
  intro s a t hs ha
  subst ha
  refine ⟨fun ph rising rms hlow => ?_, fun ph rising rms hfull => ?_, fun ph rms u hdue hu => ?_, fun ph hhold hlong => ?_,
    fun hstate => ?_, fun hstate => ?_, fun hstate hnear => ?_, fun hstate hfar => ?_, fun hstate => ?_,
    fun u hhold hpast hu => ?_, fun u hlocked hpast hu hlimit => ?_, fun hlearned hbeyond hruns => ?_,
    fun at? hon hedge => ?_, fun hon hfirst => ?_, fun hon hnew hsince => ?_, fun u v hstate hpassed hu hnone hv => ?_,
    fun src hacc => ?_, fun src v hacc hv => ?_⟩
  · exact s.live_effect hs (if_pos hlow)
  · exact s.live_effect hs (if_neg (by omega))
  · subst hu
    exact s.live_effect hs (if_pos hdue)
  · exact s.live_effect hs (if_pos ⟨hhold, hlong⟩)
  · exact s.live_effect hs (by rw [hstate]; rfl)
  · exact s.live_effect hs (by rw [hstate]; rfl)
  · refine (execFrameStrobe_predicted s hs hstate).trans ?_
    rw [if_pos hnear]
  · refine (execFrameStrobe_predicted s hs hstate).trans ?_
    rw [if_neg (Nat.not_le.mpr hfar)]
  · exact s.live_effect hs (by rw [hstate]; rfl)
  · exact execStrobeMiss_holdover s hs hpast hu hhold
  · exact execStrobeMiss_limit s hs hpast hu hlocked hlimit
  · exact s.live_effect hs (if_pos ⟨hlearned, hbeyond, by rw [hruns]; rfl⟩)
  · refine s.live_effect hs ((if_pos hon).trans ?_)
    rw [hedge]
    rfl
  · refine s.live_effect hs ((if_pos hon).trans ?_)
    rw [hfirst]
  · exact s.live_effect hs (if_pos ⟨hon, by rw [hnew]; rfl, hsince⟩)
  · refine s.live_effect hs ((if_pos ⟨hstate, hpassed⟩).trans ?_)
    rw [← hu]
    dsimp only
    rw [hnone, hv]
  · exact s.live_dict_accepted t _ _ _ _ _ hs hacc
  · refine (s.live_dict_accepted t _ _ _ _ _ hs hacc).trans ?_
    rw [if_neg hv]

end Sys2Proof.Machine
end

section
/-! PROOFS. Authority and requests: how log-ins, tokens, writes, requests and forwarded writes are taken. -/

namespace Sys2Proof.Machine

variable (s : State)

/-- A raised authority lapses when its source has been silent, or a vendor token has expired (R383). -/
theorem execAuthorityIdleTimeout_lapsed {t : Tick} {src : NodeId} (hs : s.awake)
    (hraised : ((s.advance t).authRec src).raised.isSome = true)
    (hlapsed : ((s.advance t).authRec src).lastRequest + (s.advance t).nat 0x1101 4 0 * secTicks ≤ (s.advance t).now ∨
      ((s.advance t).authRec src).raised = some 3 ∧ ((s.advance t).authRec src).expiry ≤ (s.advance t).freeTime / 60000000) :
    execAuthorityIdleTimeout t src s = .next ((s.advance t).keep ((s.advance t).dropRaised src)) := by
  refine s.live_effect hs (if_pos ?_)
  rw [hraised, Bool.true_and, Bool.or_eq_true, Bool.and_eq_true]
  simpa only [decide_eq_true_eq] using hlapsed

/-- Requests that are due at the boundary of a turn whose moves have been issued are committed (R176, R386). -/
theorem execTransactionCommit_due {t : Tick} {due : List Staged} {u : State} (hs : s.awake)
    (hnew : (s.advance t).access.commitTurn ≠ some ((s.advance t).now / usTicks))
    (hmoves : (s.advance t).turnDone = some ((s.advance t).now / usTicks))
    (hdue : due = ((s.advance t).access.staged.takeWhile fun x => decide (x.due ≤ (s.advance t).now)).take 4)
    (hsome : due.isEmpty = false)
    (hu : u = (s.advance t).setAccess { (s.advance t).access with
      staged := (s.advance t).access.staged.drop due.length, commitTurn := some ((s.advance t).now / usTicks) }) :
    execTransactionCommit t s =
      .next ((s.advance t).keep (due.foldl (fun s x => s.place 12 (.request x) fun s => s.commitStaged x) u)) := by
  have hstands : ¬ ((s.advance t).access.commitTurn = some ((s.advance t).now / usTicks) ∨
      (!(s.advance t).run.recovery) = true ∧ (s.advance t).turnDone ≠ some ((s.advance t).now / usTicks)) :=
    fun h => h.elim hnew fun h => h.2 hmoves
  refine (s.boot_awake t 0 _ hs).trans ?_
  rw [if_neg hstands]
  dsimp only
  rw [← hdue, if_neg (by rw [hsome]; exact Bool.false_ne_true), ← hu]

section
variable {t : Tick} {n : NodeId} {q fl : Nat} {mask : List NodeId} {ok : Bool} {l : List Entry} (hs : s.awake)
include hs

/-- The copy of a frame that came by the other path does nothing (R364). -/
theorem execRequestFrame_copy (hcopy : (s.advance t).sawCopy n q = true) :
    execRequestFrame t n q fl mask ok l s = .next ((s.advance t).keep (s.advance t)) := by
  refine (s.boot_awake t n _ hs).trans ?_
  rw [if_pos hcopy, ite_self]

/-- A request of the maintenance port, or of a ring that the chip has joined, is taken where it is for this node (R386, R387). -/
theorem execRequestFrame_taken (hheard : n.val = 0 ∨ (s.advance t).ringCode ≠ 0) (hfirst : (s.advance t).sawCopy n q = false)
    (hmine : fl.testBit 1 = false ∨ (mask.any fun m => decide (m.val = (s.advance t).nat 0x2011 1 0)) = true) :
    execRequestFrame t n q fl mask ok l s =
      .next ((s.advance t).keep (((s.advance t).noteCopy n q).takeRequest n q fl ok l)) := by
  have hown : ¬ (fl.testBit 1 = true ∧ (!(mask.any fun m => decide (m.val = (s.advance t).nat 0x2011 1 0))) = true) := by
    rcases hmine with h | h <;> simp [h]
  refine (s.boot_awake t n _ hs).trans ?_
  rw [if_neg (fun h => hheard.elim h.1 fun hring => hring h.2), if_neg (by rw [hfirst]; exact Bool.false_ne_true), if_neg hown]

/-- A fan-out whose mask leaves this node out does nothing here (R387). -/
theorem execRequestFrame_others (hfan : fl.testBit 1 = true)
    (hothers : (mask.any fun m => decide (m.val = (s.advance t).nat 0x2011 1 0)) = false) :
    execRequestFrame t n q fl mask ok l s = .next ((s.advance t).keep (s.advance t)) := by
  refine (s.boot_awake t n _ hs).trans ?_
  rw [if_pos (c := fl.testBit 1 = true ∧ _) ⟨hfan, by rw [hothers]; rfl⟩, ite_self, ite_self]

end

/-- A standby applies what its active forwards, once its chip arbiter accepts it (R337, R474). -/
theorem execForwardedWriteApply_standby {t : Tick} {src : NodeId} {l : List Entry} {tr : Bool} (hs : s.awake)
    (hstandby : (s.advance t).standby = true) (htakes : (s.advance t).chipTakes 12 = true) :
    execForwardedWriteApply t src l tr s =
      .next ((s.advance t).keep ((s.advance t).placed.commitEntries (innerSource 3 src) tr l).1) := by
  refine (s.live_awake t _ hs).trans ?_
  rw [if_pos hstandby, State.place_taken _ _ _ _ htakes]
  rfl

/-- Settles O30: a row of the dictionary has its effect on the noted state, and the conditions of each other clause choose the
branch of its command. -/
theorem authorityAndRequestsComplete : Obligations.AuthorityAndRequestsComplete := by
  intro s a t hs ha
  subst ha
  refine ⟨fun src key h => ?_, fun src key h hlength => ?_, fun src key h hlength => ?_, fun src node m ok h => ?_, fun src h => ?_,
    fun src hraised hlapsed => execAuthorityIdleTimeout_lapsed s hs hraised hlapsed,
    fun src i sub inst v len hreach => execRegisterWrite_reaches s hs hreach,
    fun due u hnew hmoves hdue hsome hu => execTransactionCommit_due s hs hnew hmoves hdue hsome hu,
    fun n q fl mask ok l hcopy => execRequestFrame_copy s hs hcopy,
    fun n q fl mask ok l hheard hfirst hmine => execRequestFrame_taken s hs hheard hfirst hmine,
    fun n q fl mask ok l hfan hothers => execRequestFrame_others s hs hfan hothers,
    fun src l tr hstandby htakes => execForwardedWriteApply_standby s hs hstandby htakes⟩
  · exact s.live_dict_accepted t _ _ _ _ _ hs h
  · refine (s.live_dict_accepted t _ _ _ _ _ hs h).trans ?_
    rw [if_pos hlength]
  · refine (s.live_dict_accepted t _ _ _ _ _ hs h).trans ?_
    rw [if_neg hlength]
  · exact s.live_dict_accepted t _ _ _ _ _ hs h
  · refine (s.live_dict_accepted t _ _ _ _ _ hs h).trans ?_
    rw [if_pos rfl]

end Sys2Proof.Machine
end

section
/-! PROOFS. The frame of the feed switches: what a command of a channel, and a command of the input selector, leaves as it was. -/

namespace Sys2Proof.Machine

/-- All that a command can do: let the time pass, or have its effect too (R432, R449). -/
theorem State.live_cases {s u : State} {t : Tick} {f : State → State} (h : s.live t f = .next u) :
    u = s.advance t ∨ u = (s.advance t).keep (f (s.advance t)) := by
  unfold State.live at h
  split at h
  · cases h
    exact .inl rfl
  · cases h
    exact .inr rfl

/-- Objects that a short list names are named by a longer one. -/
theorem State.objectsKept.mono {s u : State} {l m : List Nat} (h : s.objectsKept u l) (hl : l ⊆ m) : s.objectsKept u m :=
  fun d x hx => h d x (mt (@hl x.index) hx)

/-! ### What a channel switches -/

/-- From `s` to `u` nothing differs but one feed channel, the strings that it disconnects with their records, what an event
changes, and the time. -/
def State.switches (s : State) (f : Nat) (u : State) : Prop :=
  u = { s with now := u.now, obj := u.obj, limited := u.limited, feeds := u.feeds, freeCount := u.freeCount,
               strings := u.strings, storage := u.storage, faults := u.faults, inputs := u.inputs,
               twin := { s.twin with ownFaults := u.twin.ownFaults } } ∧
    s.objectsKept u [0x6820, 0x7121, 0x8006] ∧ ∀ e : Nat, e ≠ f → u.feed e = s.feed e

theorem State.switches_refl (s : State) (f : Nat) : s.switches f s := ⟨rfl, fun _ _ _ => rfl, fun _ _ => rfl⟩

section
variable {s u v : State} {f : Nat}

theorem State.switches.trans (h : s.switches f u) (h' : u.switches f v) : s.switches f v := by
  obtain ⟨hframe, hobj, hfeeds⟩ := h
  obtain ⟨hframe', hobj', hfeeds'⟩ := h'
  exact ⟨hframe'.trans (by rw [hframe]), hobj.trans hobj', fun e he => (hfeeds' e he).trans (hfeeds e he)⟩

/-- A choice between two such changes is one. -/
theorem State.switches_ite {p : Prop} [Decidable p] (h : s.switches f u) (h' : s.switches f v) :
    s.switches f (if p then u else v) := by
  split
  · exact h
  · exact h'

variable (h : s.switches f u)
include h

theorem State.switches.setFeed (x : FeedCh) : s.switches f (u.setFeed f x) :=
  h.trans ⟨rfl, fun _ _ _ => rfl, fun _ he => u.feed_setFeed_ne x he⟩

theorem State.switches.setStr (n : Nat) (x : Str) : s.switches f (u.setStr n x) :=
  h.trans ⟨rfl, fun _ _ _ => rfl, fun _ _ => rfl⟩

theorem State.switches.setStorage (x : Storage) : s.switches f (u.setStorage x) :=
  h.trans ⟨rfl, fun _ _ _ => rfl, fun _ _ => rfl⟩

theorem State.switches.draw (width : Nat) : s.switches f (u.draw width).2 :=
  h.trans ⟨rfl, fun _ _ _ => rfl, fun _ _ => rfl⟩

theorem State.switches.put {i : Nat} (k n : Nat) (value : Int) (hi : i ∈ [0x6820, 0x7121, 0x8006]) :
    s.switches f (u.put i k n value) :=
  h.trans ⟨rfl, u.objectsKept_put k n value hi, fun _ _ => rfl⟩

theorem State.switches.raise (e : Event) : s.switches f (u.raise e) := by
  obtain ⟨_, _, _, _, hraise⟩ := u.raise_changes e
  exact h.trans ⟨by rw [hraise], u.objectsKept_raise e (by decide), fun d _ => u.feed_raise e d⟩

theorem State.switches.raiseLimited (key : Nat) (e : Event) : s.switches f (u.raiseLimited key e) := by
  have hnoted : s.switches f { u with limited := bset u.limited (e.code, key) u.now } :=
    h.trans ⟨rfl, fun _ _ _ => rfl, fun _ _ => rfl⟩
  unfold State.raiseLimited
  split
  · exact State.switches_ite h (hnoted.raise e)
  · exact hnoted.raise e

/-- Changes along a list are such a change. -/
theorem State.switches.foldl {β : Type} (g : State → β → State) (hg : ∀ (a : State) y, s.switches f a → s.switches f (g a y))
    (l : List β) : s.switches f (l.foldl g u) :=
  List.foldlRecOn l g h fun a ha y _ => hg a y ha

/-! ### A string that is disconnected -/

/-- The end of a hold or test writes the strings of its group and their results (R240). -/
theorem State.switches.endHold (g result : Nat) : s.switches f (u.endHold g result) :=
  State.switches_ite ((h.foldl _ (fun _ _ ha => (ha.setStr _ _).put _ _ _ (by decide)) _).raise _) h

theorem State.switches.abortTest (g : Nat) : s.switches f (u.abortTest g) :=
  State.switches_ite ((h.draw 8).endHold g _) h

theorem State.switches.appendRecord (b : RecBody) : s.switches f (u.appendRecord b) := by
  unfold State.appendRecord
  split
  · exact h.setStorage _
  · exact h

/-- A string that has left its disconnect's ON writes its record, and a test of its group aborts (R236, R240). -/
theorem State.switches.stringDropped (n : Nat) : s.switches f (u.stringDropped n) :=
  ((h.abortTest _).appendRecord _).setStr _ _

/-! ### A channel's transitions and trips -/

theorem State.switches.toFeed (st : FeedState) (g : GateDrive) : s.switches f (u.toFeed f st g) :=
  (h.setFeed _).foldl _ (fun _ n ha => ha.stringDropped n) _

theorem State.switches.feedInrush (g : GateDrive) : s.switches f (u.feedInrush f g) := (h.toFeed .inrush g).setFeed _

/-- An off command leaves LATCHED and WELDED, and starts the welded test of any other state (R203, R209). -/
theorem State.switches.feedOff : s.switches f (u.feedOff f) := by
  unfold State.feedOff
  dsimp only
  split
  · exact h
  · exact h
  · exact (State.switches_ite h (h.toFeed _ _)).setFeed _

theorem State.switches.feedTrip (code : Nat) (st : FeedState) (value limit : Int) :
    s.switches f (u.feedTrip f code st value limit) :=
  (((h.put 9 f _ (by decide)).put 0xA f _ (by decide)).toFeed st .zero).raise _

theorem State.switches.judgeFeed : s.switches f (u.judgeFeed f) := h.setFeed _

theorem State.switches.amplifierRests : s.switches f (u.amplifierRests f) := State.switches_ite (h.setFeed _) h

theorem State.switches.modelStep : s.switches f (u.modelStep f) := h.setFeed _

theorem State.switches.thermalTrip : s.switches f (u.thermalTrip f) :=
  State.switches_ite (State.switches_ite (h.feedTrip _ _ _ _) (h.feedTrip _ _ _ _)) h

theorem State.switches.shortTrip : s.switches f (u.shortTrip f) :=
  State.switches_ite (State.switches_ite (h.feedTrip _ _ _ _) (h.feedTrip _ _ _ _)) h

theorem State.switches.gateTrip : s.switches f (u.gateTrip f) := State.switches_ite (h.feedTrip _ _ _ _) h

end

/-! ### The commands of a channel -/

/-- From `s` to `u` nothing differs but what a channel switches, its record of commands, and the result of one (R212). -/
def State.actsOn (s : State) (f : Nat) (u : State) : Prop :=
  u = { s with now := u.now, obj := u.obj, limited := u.limited, feeds := u.feeds, feedMarks := u.feedMarks,
               lastResult := u.lastResult, freeCount := u.freeCount, strings := u.strings, storage := u.storage,
               faults := u.faults, inputs := u.inputs, twin := { s.twin with ownFaults := u.twin.ownFaults } } ∧
    s.objectsKept u [0x6820, 0x6830, 0x7121, 0x8006] ∧ ∀ e : Nat, e ≠ f → u.feed e = s.feed e

section
variable {s u v : State} {f : Nat}

theorem State.actsOn.trans (h : s.actsOn f u) (h' : u.actsOn f v) : s.actsOn f v := by
  obtain ⟨hframe, hobj, hfeeds⟩ := h
  obtain ⟨hframe', hobj', hfeeds'⟩ := h'
  exact ⟨hframe'.trans (by rw [hframe]), hobj.trans hobj', fun e he => (hfeeds' e he).trans (hfeeds e he)⟩

/-- What a channel switches is such a change. -/
theorem State.switches.actsOn (h : s.switches f u) : s.actsOn f u := by
  obtain ⟨hframe, hobj, hfeeds⟩ := h
  exact ⟨hframe.trans (by rw [hframe]), hobj.mono (by decide), hfeeds⟩

/-- The judgement of a command stores its result and switches the channel (R212). -/
theorem State.actsOn_judgeCommand (s : State) (f : Nat) (on : Bool) : s.actsOn f (s.judgeCommand f on) := by
  unfold State.judgeCommand
  dsimp only
  generalize hs : (s.put 0x6830 2 f (s.channelResult f on)).result (if s.channelResult f on = 0 then 0 else 0x23) = a
  have hstored : s.actsOn f a := by
    subst hs
    exact ⟨rfl, s.objectsKept_put 2 f _ (by decide), fun _ _ => rfl⟩
  have hkept := a.switches_refl f
  refine hstored.trans (State.switches.actsOn (State.switches_ite ?_ hkept))
  exact State.switches_ite (State.switches_ite (hkept.feedInrush _) hkept) hkept.feedOff

/-- A trip that meets a command of its SYS cycle acts on the channel of before it, and the command is judged after it (R212). -/
theorem State.actsOn_tripFirst (s : State) (f : Nat) (trip : State → State) (htrip : ∀ a : State, a.switches f (trip a)) :
    s.actsOn f (s.tripFirst f trip) := by
  rcases s.tripFirst_cases f trip with h | ⟨m, -, -, h⟩
  · rw [h]
    exact (htrip s).actsOn
  · rw [h]
    have htripped := (((s.switches_refl f).setFeed (m.restored (s.feed f))).trans (htrip _)).actsOn
    generalize trip _ = a at htripped ⊢
    have hmarks : a.actsOn f { a with feedMarks := bset a.feedMarks f none } := ⟨rfl, fun _ _ _ => rfl, fun _ _ => rfl⟩
    exact (htripped.trans hmarks).trans (State.actsOn_judgeCommand _ f m.on)

/-- A command whose effect is such a change makes it at its time, or only passes the time. -/
theorem State.actsOn_live {t : Tick} {g : State → State} (h : s.live t g = .next u) (hg : ∀ a : State, a.actsOn f (g a)) :
    s.actsOn f u := by
  have hadvance : s.actsOn f (s.advance t) := ⟨rfl, fun _ _ _ => rfl, fun _ _ => rfl⟩
  rcases State.live_cases h with rfl | rfl
  · exact hadvance
  · obtain ⟨hframe, hobj, hfeeds⟩ := hg (s.advance t)
    exact hadvance.trans ⟨by rw [State.keep, hframe], hobj, hfeeds⟩

theorem State.actsOn_switches {t : Tick} {g : State → State} (h : s.live t g = .next u) (hg : ∀ a : State, a.switches f (g a)) :
    s.actsOn f u :=
  State.actsOn_live h fun a => (hg a).actsOn

end

section
variable {s u : State} {t : Tick} {f : FeedId}

theorem execInrushTimeout_actsOn (h : execInrushTimeout t f s = .next u) : s.actsOn f u :=
  State.actsOn_live h fun a => a.actsOn_tripFirst f _ fun b =>
    State.switches_ite ((b.switches_refl f).feedTrip _ _ _ _) (b.switches_refl f)

theorem execThermalModelUpdate_actsOn {v i g : Nat} (h : execThermalModelUpdate t f v i g s = .next u) : s.actsOn f u :=
  State.actsOn_live h fun a =>
    ((a.switches_refl f).setFeed _).judgeFeed.amplifierRests.modelStep.actsOn.trans
      (State.actsOn_tripFirst _ f _ fun b => (b.switches_refl f).thermalTrip)

theorem execShortCircuitTrip_actsOn {code : Nat} (h : execShortCircuitTrip t f code s = .next u) : s.actsOn f u :=
  State.actsOn_live h fun a =>
    ((a.switches_refl f).setFeed _).judgeFeed.actsOn.trans
      (State.actsOn_tripFirst _ f _ fun b => (b.switches_refl f).shortTrip)

theorem execGateFail_actsOn (h : execGateFail t f s = .next u) : s.actsOn f u :=
  State.actsOn_live h fun a => a.actsOn_tripFirst f _ fun b => (b.switches_refl f).gateTrip

/-- The amplifier limits the channel, which ON journals (R204, R206). -/
theorem execCurrentLimitEngaged_actsOn {code : Nat} (h : execCurrentLimitEngaged t f code s = .next u) : s.actsOn f u := by
  refine State.actsOn_switches h fun a => ?_
  have hjudged := ((a.switches_refl f).setFeed { a.feed f with isns := min code 4095 }).judgeFeed
  exact State.switches_ite ((hjudged.setFeed _).raiseLimited _ _) (State.switches_ite (hjudged.setFeed _) hjudged)

theorem execCooldownEnd_actsOn (h : execCooldownEnd t f s = .next u) : s.actsOn f u :=
  State.actsOn_switches h fun a =>
    State.switches_ite (((a.switches_refl f).setFeed _).feedInrush _) (a.switches_refl f)

/-- A command that changes a field of its channel alone, where its condition holds. -/
theorem State.actsOn_setFeed {p : State → Prop} [DecidablePred p] {x : State → FeedCh}
    (h : s.live t (fun a => if p a then a.setFeed f (x a) else a) = .next u) : s.actsOn f u :=
  State.actsOn_switches h fun a => State.switches_ite ((a.switches_refl f).setFeed _) (a.switches_refl f)

theorem execFeedSenseOverRange_actsOn {isns : Bool} {code : Nat} (h : execFeedSenseOverRange t f isns code s = .next u) :
    s.actsOn f u :=
  State.actsOn_switches h fun a => State.switches_ite (((a.switches_refl f).setFeed _).raise _) (a.switches_refl f)

end

/-- Settles O41: each command of a channel is such a change. -/
theorem channelsTouchThemselves : Obligations.ChannelsTouchThemselves := by
  intro s u c f hc hu
  unfold Instr.ownFeed at hc
  split at hc
  case h_11 => cases hc
  all_goals cases hc
  case h_1 => exact execGateFail_actsOn hu
  case h_2 => exact execInrushTimeout_actsOn hu
  case h_3 => exact execThermalModelUpdate_actsOn hu
  case h_4 => exact execShortCircuitTrip_actsOn hu
  case h_5 => exact execCurrentLimitEngaged_actsOn hu
  case h_6 => exact execCooldownEnd_actsOn hu
  -- `channelPowerGood`, `channelPowerGoodLoss`, `retryCountReset`
  case h_7 => exact State.actsOn_setFeed hu
  case h_8 => exact State.actsOn_setFeed hu
  case h_9 => exact State.actsOn_setFeed hu
  case h_10 => exact execFeedSenseOverRange_actsOn hu

/-! ### The commands of the input selector -/

/-- From `s` to `u` nothing differs but the selector and what the feed channels switch. -/
def State.reselects (s u : State) : Prop :=
  u = { s with now := u.now, obj := u.obj, limited := u.limited, feeds := u.feeds, selector := u.selector,
               freeCount := u.freeCount, strings := u.strings, storage := u.storage,
               faults := u.faults, inputs := u.inputs, twin := { s.twin with ownFaults := u.twin.ownFaults } } ∧
    s.objectsKept u [0x6820, 0x6840, 0x7121, 0x8006]

theorem State.reselects_refl (s : State) : s.reselects s := ⟨rfl, fun _ _ _ => rfl⟩

section
variable {s u v : State}

theorem State.reselects.trans (h : s.reselects u) (h' : u.reselects v) : s.reselects v := by
  obtain ⟨hframe, hobj⟩ := h
  obtain ⟨hframe', hobj'⟩ := h'
  exact ⟨hframe'.trans (by rw [hframe]), hobj.trans hobj'⟩

/-- A choice between two such changes is one. -/
theorem State.reselects_ite {p : Prop} [Decidable p] (h : s.reselects u) (h' : s.reselects v) :
    s.reselects (if p then u else v) := by
  split
  · exact h
  · exact h'

variable (h : s.reselects u)
include h

/-- What any channel switches is such a change. -/
theorem State.reselects.channel {f : Nat} (h' : u.switches f v) : s.reselects v := by
  obtain ⟨hframe, hobj, -⟩ := h'
  exact h.trans ⟨hframe.trans (by rw [hframe]), hobj.mono (by decide)⟩

theorem State.reselects.setSelector (x : Selector) : s.reselects (u.setSelector x) :=
  h.trans ⟨rfl, fun _ _ _ => rfl⟩

theorem State.reselects.put (k n : Nat) (value : Int) : s.reselects (u.put 0x6840 k n value) :=
  h.trans ⟨rfl, u.objectsKept_put k n value (by decide)⟩

theorem State.reselects.raise (e : Event) : s.reselects (u.raise e) := h.channel ((u.switches_refl 0).raise e)

theorem State.reselects.toFeed (f : Nat) (st : FeedState) (g : GateDrive) : s.reselects (u.toFeed f st g) :=
  h.channel ((u.switches_refl f).toFeed st g)

/-- Rule 3 closes the channel of a good feed, or raises that there is none (R217). -/
theorem State.reselects.selectFeed : s.reselects u.selectFeed := by
  unfold State.selectFeed
  refine State.reselects_ite ?_ h
  split
  · split
    · exact (h.channel ((u.switches_refl _).feedInrush .step)).setSelector _
    · exact h
  · exact (State.reselects_ite h (h.raise _)).setSelector _

/-- The channel of a feed that is opened goes off (R217). -/
theorem State.reselects.openFeed (x : Nat) : s.reselects (u.openFeed x) := by
  unfold State.openFeed
  split
  · exact (h.channel (u.switches_refl _).feedOff).setSelector _
  · exact h

/-- The selector moves by opening the closed feed, or by rule 3 (R218). -/
theorem State.reselects.moveSelector : s.reselects u.moveSelector := by
  unfold State.moveSelector
  dsimp only
  refine State.reselects_ite h ?_
  split
  · exact State.reselects_ite (h.openFeed _) h
  · exact h.selectFeed

/-- A transfer that ends is counted, and the force that waited for it applies (R218). -/
theorem State.reselects.endTransfer (f : Nat) : s.reselects (u.endTransfer f) := by
  unfold State.endTransfer
  dsimp only
  split
  · exact State.reselects_ite ((State.reselects_ite (h.put _ _ _) h).setSelector _).moveSelector h
  · exact h

end

section
variable {s u : State} {t : Tick}

/-- A command whose effect is such a change makes it at its time, or only passes the time. -/
theorem State.reselects_live {g : State → State} (h : s.live t g = .next u) (hg : ∀ a : State, a.reselects (g a)) :
    s.reselects u := by
  have hadvance : s.reselects (s.advance t) := ⟨rfl, fun _ _ _ => rfl⟩
  rcases State.live_cases h with rfl | rfl
  · exact hadvance
  · obtain ⟨hframe, hobj⟩ := hg (s.advance t)
    exact hadvance.trans ⟨by rw [State.keep, hframe], hobj⟩

/-- A channel that comes to ON ends the transfer to its feed (R203, R218). -/
theorem execInrushComplete_reselects {f : FeedId} (h : execInrushComplete t f s = .next u) : s.reselects u :=
  State.reselects_live h fun a => State.reselects_ite ((a.reselects_refl.toFeed _ _ _).endTransfer _) a.reselects_refl

theorem execFeedDropped_reselects {x : Feed} (h : execFeedDropped t x s = .next u) : s.reselects u :=
  State.reselects_live h fun a => State.reselects_ite (a.reselects_refl.openFeed _) a.reselects_refl

theorem execFeedGood_reselects {x : Feed} (h : execFeedGood t x s = .next u) : s.reselects u :=
  State.reselects_live h fun a => State.reselects_ite a.reselects_refl.moveSelector a.reselects_refl

theorem execFeedConfirmedOff_reselects {x : Feed} (h : execFeedConfirmedOff t x s = .next u) : s.reselects u :=
  State.reselects_live h fun a => State.reselects_ite (a.reselects_refl.setSelector _).selectFeed a.reselects_refl

/-- An opened feed that is not confirmed off is journalled (R217). -/
theorem execTransferBlocked_reselects (h : execTransferBlocked t s = .next u) : s.reselects u := by
  refine State.reselects_live h fun a => ?_
  split
  · exact State.reselects_ite ((a.reselects_refl.setSelector _).raise _) a.reselects_refl
  · exact a.reselects_refl

/-- The return to the preferred feed is journalled and opens the other (R217). -/
theorem execReturnDwellEnd_reselects (h : execReturnDwellEnd t s = .next u) : s.reselects u := by
  refine State.reselects_live h fun a => ?_
  dsimp only
  split
  · exact State.reselects_ite ((a.reselects_refl.raise _).openFeed _) a.reselects_refl
  · exact a.reselects_refl

/-- The transfer time is stored and journalled (R219). -/
theorem execGateRiseThresholdReached_reselects (h : execGateRiseThresholdReached t s = .next u) : s.reselects u := by
  refine State.reselects_live h fun a => ?_
  split
  · exact State.reselects_ite a.reselects_refl (((a.reselects_refl.setSelector _).put _ _ _).raise _)
  · exact a.reselects_refl

end

/-- Settles O42: each command of the selector is such a change. -/
theorem selectorTouchesTheFeeds : Obligations.SelectorTouchesTheFeeds := by
  intro s u c hc hu
  unfold Instr.selects at hc
  split at hc
  case h_1 => exact execInrushComplete_reselects hu
  case h_2 => exact execFeedDropped_reselects hu
  case h_3 => exact execFeedGood_reselects hu
  case h_4 => exact execFeedConfirmedOff_reselects hu
  case h_5 => exact execTransferBlocked_reselects hu
  case h_6 => exact execReturnDwellEnd_reselects hu
  case h_7 => exact execGateRiseThresholdReached_reselects hu
  case h_8 => cases hc

end Sys2Proof.Machine
end

section
/-! PROOFS. The feed switches: the timers and trips of a channel, its commands, and the input selector. -/

namespace Sys2Proof.Machine

variable (s : State)

/-! ### Codes and marks -/

/-- A code of 12 bits is taken as it is (R199). -/
theorem min_code {code : Nat} (h : code < 4096) : min code 4095 = code := Nat.min_eq_left (by omega)

/-- A code at either end of the range is lost (R208). -/
theorem codeLost_of_end {code : Nat} (h : code = 0 ∨ code = 4095) : codeLost code = true := by
  rcases h with rfl | rfl <;> rfl

/-- Whether a command of this SYS cycle has met a channel depends on the marks and the time alone (R212). -/
theorem State.unmarked_of {u : State} {f : Nat} (h : s.unmarked f) (hmarks : u.feedMarks = s.feedMarks) (hnow : u.now = s.now) :
    u.unmarked f := by
  unfold State.unmarked
  rwa [hmarks, hnow]

/-- The amplifier that no longer limits leaves GATE full on, and nothing else changes (R206). -/
theorem State.amplifierRests_changes (f : Nat) :
    s.amplifierRests f = s ∨ s.amplifierRests f = s.setFeed f { s.feed f with gate := .full } := by
  unfold State.amplifierRests
  dsimp only
  split
  · exact .inr rfl
  · exact .inl rfl

@[simp] theorem State.amplifierRests_feedMarks (f : Nat) : (s.amplifierRests f).feedMarks = s.feedMarks := by
  rcases s.amplifierRests_changes f with h | h <;> simp [h]

@[simp] theorem State.amplifierRests_now (f : Nat) : (s.amplifierRests f).now = s.now := by
  rcases s.amplifierRests_changes f with h | h <;> simp [h]

@[simp] theorem State.amplifierRests_obj (f : Nat) : (s.amplifierRests f).obj = s.obj := by
  rcases s.amplifierRests_changes f with h | h <;> simp [h]

@[simp] theorem State.amplifierRests_state (f : Nat) : ((s.amplifierRests f).feed f).state = (s.feed f).state := by
  rcases s.amplifierRests_changes f with h | h <;> simp [h]

/-! ### Trips -/

/-- A short circuit trips to COOLDOWN where it may be retried and retries are left (R205, R207). -/
theorem State.shortTrip_retried {f : Nat} (hlive : s.feedLive f = true) (hover : s.cfg 0x6800 0xE f < s.idMilli f)
    (hretry : s.cfg 0x6800 0x17 f = 1 ∧ s.retriesLeft f = true) :
    s.shortTrip f = s.feedTrip f 0x5201 .cooldown (s.idMilli f) (s.cfg 0x6800 0xE f) :=
  (if_pos ⟨hlive, hover⟩).trans (if_pos hretry)

/-- Any other latches (R205, R207). -/
theorem State.shortTrip_latched {f : Nat} (hlive : s.feedLive f = true) (hover : s.cfg 0x6800 0xE f < s.idMilli f)
    (hretry : ¬ (s.cfg 0x6800 0x17 f = 1 ∧ s.retriesLeft f = true)) :
    s.shortTrip f = s.feedTrip f 0x5202 .latched (s.idMilli f) (s.cfg 0x6800 0xE f) :=
  (if_pos ⟨hlive, hover⟩).trans (if_neg hretry)

/-- A gate that has not risen, or has fallen, for 2 ms latches (R210). -/
theorem State.gateTrip_latched {f : Nat} (hlive : s.feedLive f = true)
    (hlow : s.since (s.feed f).belowRise (2 * msTicks) = true ∨ s.since (s.feed f).belowVolt (2 * msTicks) = true) :
    s.gateTrip f = s.feedTrip f 0x5302 .latched (s.vgs f)
      (if s.since (s.feed f).belowRise (2 * msTicks) then s.cfg 0x6800 0xA f else 1000) :=
  if_pos (Bool.and_eq_true_iff.mpr ⟨hlive, Bool.or_eq_true_iff.mpr hlow⟩)

section
variable {t : Tick} {f : FeedId} (hs : s.awake)
include hs

/-- INRUSH that has lasted its limit latches (R203). -/
theorem execInrushTimeout_latched (hfree : (s.advance t).unmarked f) (hinrush : ((s.advance t).feed f).state = .inrush)
    (hlong : ((s.advance t).feed f).entered + (s.advance t).nat 0x6800 0xF f * msTicks ≤ (s.advance t).now) :
    execInrushTimeout t f s = .next ((s.advance t).keep ((s.advance t).feedTrip f 0x5203 .latched
      ((((s.advance t).now - ((s.advance t).feed f).entered) / msTicks : Nat) : Int) ((s.advance t).nat 0x6800 0xF f))) :=
  s.live_effect hs ((State.tripFirst_unmarked _ _ _ hfree).trans (if_pos ⟨hinrush, hlong⟩))

/-- The short circuit of a channel that no command of its SYS cycle has met is judged at its code (R207, R212). -/
theorem execShortCircuitTrip_unmarked {code : Nat} {u : State} (hfree : (s.advance t).unmarked f) (hcode : code < 4096)
    (hu : u = ((s.advance t).setFeed f { (s.advance t).feed f with isns := code }).judgeFeed f) :
    execShortCircuitTrip t f code s = .next ((s.advance t).keep (u.shortTrip f)) := by
  have hmarks : u.unmarked f := hu ▸ (s.advance t).unmarked_of hfree rfl rfl
  refine s.live_effect hs ?_
  rw [min_code hcode, ← hu, State.tripFirst_unmarked _ _ _ hmarks]

/-- A reading of either kind at an end of its range is lost, and journalled (R208). -/
theorem execFeedSenseOverRange_lost {isns : Bool} {code : Nat} (hend : code = 0 ∨ code = 4095)
    (hlive : (s.advance t).feedLive f = true)
    (hnew : (if isns then ((s.advance t).feed f).isnsLost else ((s.advance t).feed f).vdsLost) = false) :
    execFeedSenseOverRange t f isns code s = .next ((s.advance t).keep (((s.advance t).setFeed f
      (if isns then { (s.advance t).feed f with isnsLost := true, isns := code }
        else { (s.advance t).feed f with vdsLost := true, vds := code })).raise
      { ev 0x5501 f with value := code, stateCode := if ((s.advance t).feed f).state = .on then 2 else 1 })) := by
  refine s.live_effect hs ((if_pos ⟨hlive, codeLost_of_end hend, by rw [hnew]; rfl⟩).trans ?_)
  rw [min_code (by omega)]

end

/-- Settles O10: the conditions of each clause choose the branch of its command. -/
theorem feedTimersComplete : Obligations.FeedTimersComplete := by
  intro s a t hs ha
  subst ha
  refine ⟨fun f hinrush hlow => ?_, fun f hfree hinrush hlong => ?_, fun f v i g hfree => ?_,
    fun f v i g code u w hcode hu hw => ?_, fun f code u hfree hcode hu hlive hover hmode hleft => ?_,
    fun f code u hfree hcode hu hlive hover hretry => ?_, fun f code u hcode hu hon hover => ?_, fun f hfree hlive hlow => ?_,
    fun f u hoff hdue hu hmode hover => ?_, fun f hcool hlong hcold => ?_, fun f hon hbad hgood hlong => ?_,
    fun f hgood hbad => ?_, fun f hgood hlong => ?_, fun f code hend hlive hnew => ?_, fun f code hend hlive hnew => ?_⟩
  · exact s.live_effect hs (if_pos ⟨hinrush, hlow⟩)
  · exact execInrushTimeout_latched s hs hfree hinrush hlong
  · exact s.live_effect hs (State.tripFirst_unmarked _ _ _ ((s.advance t).unmarked_of hfree
      (State.amplifierRests_feedMarks _ _) (State.amplifierRests_now _ _)))
  · subst hu hw
    refine ⟨s.live_effect hs rfl, s.live_effect hs ?_, s.live_effect hs rfl⟩
    rw [min_code hcode]
  · rw [← u.shortTrip_retried hlive hover ⟨hmode, hleft⟩]
    exact execShortCircuitTrip_unmarked s hs hfree hcode hu
  · rw [← u.shortTrip_latched hlive hover hretry]
    exact execShortCircuitTrip_unmarked s hs hfree hcode hu
  · refine s.live_effect hs ?_
    rw [min_code hcode, ← hu]
    exact if_pos ⟨hon, hover⟩
  · exact s.live_effect hs ((State.tripFirst_unmarked _ _ _ hfree).trans (State.gateTrip_latched _ hlive hlow))
  · refine s.live_effect hs ((if_pos ⟨hoff, hdue⟩).trans ?_)
    rw [← hu]
    exact if_pos ⟨hmode, hover⟩
  · exact s.live_effect hs (if_pos ⟨hcool, hlong, hcold⟩)
  · exact s.live_effect hs (if_pos ⟨hon, by simp [hbad], hgood, hlong⟩)
  · exact s.live_effect hs (if_pos ⟨hgood, by simp [hbad]⟩)
  · exact s.live_effect hs (if_pos ⟨hgood, hlong⟩)
  · exact execFeedSenseOverRange_lost s (isns := true) hs hend hlive hnew
  · exact execFeedSenseOverRange_lost s (isns := false) hs hend hlive hnew

/-! ### On and off commands -/

/-- A refused command stores its refusal and answers 0x23 (R212). -/
theorem State.judgeCommand_refused {f : Nat} {on : Bool} (h : s.channelResult f on ≠ 0) :
    s.judgeCommand f on = (s.put 0x6830 2 f (s.channelResult f on)).result 0x23 := by
  unfold State.judgeCommand
  dsimp only
  rw [if_neg h, if_neg h]

/-- An on command that nothing refuses begins INRUSH of a channel in OFF (R203, R212). -/
theorem State.judgeCommand_on {f : Nat} (h : s.channelResult f true = 0) (hoff : (s.feed f).state = .off) :
    s.judgeCommand f true = ((s.put 0x6830 2 f 0).result 0).feedInrush f .ramp := by
  unfold State.judgeCommand
  dsimp only
  rw [h]
  exact if_pos hoff

/-- An off command that nothing refuses switches the channel off (R209, R212). -/
theorem State.judgeCommand_off {f : Nat} (h : s.channelResult f false = 0) :
    s.judgeCommand f false = ((s.put 0x6830 2 f 0).result 0).feedOff f := by
  unfold State.judgeCommand
  dsimp only
  rw [h]
  rfl

/-! ### The input selector -/

/-- A force that meets no transfer applies at once (R218). -/
theorem State.forceSelect_applied {v w : Nat} (hfree : s.selector.transfer = none) (hon : s.selectorOn = true)
    (hw : (if v = 3 then 0 else v) = w) :
    s.forceSelect v = (s.setSelector { s.selector with force := w }).moveSelector := by
  unfold State.forceSelect
  dsimp only
  rw [hw, hfree]
  exact if_pos hon

section
variable {t : Tick} (hs : s.awake)
include hs

/-- Both feeds confirmed off, in whichever order they are named, make the selector select (R217). -/
theorem execFeedConfirmedOff_selects {x : Feed} (hon : (s.advance t).selectorOn = true)
    (hopen : (s.advance t).selector.closed = none) (ha : (s.advance t).confirmedOff 0 = true)
    (hb : (s.advance t).confirmedOff 1 = true) :
    execFeedConfirmedOff t x s = .next ((s.advance t).keep (((s.advance t).setSelector
      { (s.advance t).selector with opened := none, blocked := false }).selectFeed)) := by
  refine s.live_effect hs (if_pos ⟨hon, by rw [hopen]; rfl, ?_⟩)
  cases x
  · exact ⟨ha, hb⟩
  · exact ⟨hb, ha⟩

/-- A feed that is not confirmed off within 1 ms is journalled (R217). -/
theorem execTransferBlocked_journals {y : Nat} {at? : Tick} (hopened : (s.advance t).selector.opened = some (y, at?))
    (hon : (s.advance t).selectorOn = true) (hlate : at? + msTicks ≤ (s.advance t).now)
    (hoff : (s.advance t).confirmedOff y = false) (hfirst : (s.advance t).selector.blocked = false) :
    execTransferBlocked t s = .next ((s.advance t).keep (((s.advance t).setSelector
      { (s.advance t).selector with blocked := true }).raise
      { ev 0x5403 0 with value := ((((s.advance t).now - at?) / usTicks : Nat) : Int), limit := 1000, stateCode := 3 })) := by
  refine s.live_effect hs ?_
  rw [hopened]
  exact if_pos ⟨hon, hlate, by rw [hoff]; rfl, by rw [hfirst]; rfl⟩

/-- A preferred feed that has been good for its time and the dwell is moved back to (R217). -/
theorem execReturnDwellEnd_returns {f pref : Nat} (hpref : pref = (s.advance t).nat 0x6840 2 0)
    (hf : (s.advance t).inputFeed pref = some f) (hon : (s.advance t).selectorOn = true)
    (hdwell : 0 < (s.advance t).nat 0x6840 7 0) (hforce : (s.advance t).selector.force = 0)
    (hfree : (s.advance t).selector.transfer = none) (hclosed : (s.advance t).selector.closed = some (1 - pref))
    (hlong : (s.advance t).since ((s.advance t).feed f).inGood
      ((s.advance t).nat 0x6840 6 0 * msTicks + (s.advance t).nat 0x6840 7 0 * secTicks) = true)
    (hfreed : ((s.advance t).feed f).freedAt + (s.advance t).nat 0x6840 7 0 * secTicks ≤ (s.advance t).now)
    (hgood : (s.advance t).feedGood pref = true) :
    execReturnDwellEnd t s = .next ((s.advance t).keep (((s.advance t).raise
      { ev 0x5404 0 with stateCode := (s.advance t).selectorCode }).openFeed (1 - pref))) := by
  subst hpref
  refine s.live_effect hs ?_
  dsimp only
  rw [hf]
  exact if_pos ⟨hon, hdwell, hforce, by rw [hfree]; rfl, hclosed, by rw [hlong, decide_eq_true hfreed, hgood]; rfl⟩

/-- The gate-rise threshold of a transfer takes its time (R219). -/
theorem execGateRiseThresholdReached_times {at? : Tick} {x : Nat} (hruns : (s.advance t).selector.transfer = some at?)
    (hclosed : (s.advance t).selector.closed = some x) (hfirst : (s.advance t).selector.timed = false) :
    execGateRiseThresholdReached t s = .next ((s.advance t).keep ((((s.advance t).setSelector
      { (s.advance t).selector with timed := true }).put 0x6840 0xB 0 ((((s.advance t).now - at?) * 5 / 128 : Nat) : Int)).raise
      { ev 0x5401 0 with value := ((((s.advance t).now - at?) * 5 / 128 : Nat) : Int), stateCode := 3, w4 := x })) := by
  refine s.live_effect hs ?_
  rw [hruns, hclosed]
  dsimp only
  rw [hfirst]
  rfl

end

/-- Settles O11: a command is a row of the dictionary that judges the channel or forces the selector, and the conditions of each
other clause choose the branch of its command. -/
theorem feedCommandsAndSelectorComplete : Obligations.FeedCommandsAndSelectorComplete := by
  intro s a b t src hs ha hb
  subst ha hb
  have hrow := fun c f h => s.live_dict_accepted t c src 1 false f hs h
  refine ⟨fun f h hres => ?_, fun f u h hres hu hoff => ?_, fun f h hres => ?_, fun f h hres => ?_, fun h hfree hon => ?_,
    fun h hfree hon => ?_, fun h hfree hon => ?_, fun x hon hclosed hdrop => s.live_effect hs (if_pos ⟨hon, hclosed, hdrop⟩),
    fun x hon hgood => s.live_effect hs (if_pos ⟨hon, hgood⟩),
    fun x hon hopen ha hb => execFeedConfirmedOff_selects s hs hon hopen ha hb,
    fun y at? hopened hon hlate hoff hfirst => execTransferBlocked_journals s hs hopened hon hlate hoff hfirst,
    fun f pref hpref hf hon hdwell hforce hfree hclosed hlong hfreed hgood =>
      execReturnDwellEnd_returns s hs hpref hf hon hdwell hforce hfree hclosed hlong hfreed hgood,
    fun at? x hruns hclosed hfirst => execGateRiseThresholdReached_times s hs hruns hclosed hfirst⟩
  · refine (hrow _ _ h).trans ?_
    rw [State.channelCommand, State.judgeCommand_refused _ hres]
  · subst hu
    refine (hrow _ _ h).trans ?_
    rw [State.channelCommand, State.judgeCommand_on _ hres hoff]
  · refine (hrow _ _ h).trans ?_
    rw [State.channelCommand, State.judgeCommand_refused _ hres]
  · refine (hrow _ _ h).trans ?_
    rw [State.channelCommand, State.judgeCommand_off _ hres]
  · refine (hrow _ _ h).trans ?_
    rw [State.forceSelect_applied _ (w := 1) hfree hon rfl]
  · refine (hrow _ _ h).trans ?_
    rw [State.forceSelect_applied _ (w := 2) hfree hon rfl]
  · refine (hrow _ _ h).trans ?_
    rw [State.forceSelect_applied _ (w := 0) hfree hon rfl]

end Sys2Proof.Machine
end

section
/-! PROOFS. The retries of a feed channel. -/

namespace Sys2Proof.Machine

variable (s : State)

/-! ### A channel that changes state -/

/-- A channel that changes state is in the new one, with its retries (R205). -/
theorem State.toFeed_own (f : Nat) (st : FeedState) (g : GateDrive) :
    ((s.toFeed f st g).feed f).state = st ∧ ((s.toFeed f st g).feed f).retries = (s.feed f).retries := by
  -- a string that is dropped changes no channel, so not this one: the frame of any other says so
  have hdropped (l : List Nat) (a : State) : (l.foldl State.stringDropped a).feed f = a.feed f := by
    obtain ⟨-, -, hfeeds⟩ := (a.switches_refl (f + 1)).foldl _ (fun _ n ha => ha.stringDropped n) l
    exact hfeeds f (by omega)
  unfold State.toFeed
  dsimp only
  rw [hdropped, State.feed_setFeed]
  exact ⟨rfl, rfl⟩

/-- INRUSH keeps the retries (R205, R206). -/
theorem State.feedInrush_own (f : Nat) (g : GateDrive) :
    ((s.feedInrush f g).feed f).state = .inrush ∧ ((s.feedInrush f g).feed f).retries = (s.feed f).retries := by
  unfold State.feedInrush
  dsimp only
  rw [State.feed_setFeed]
  exact s.toFeed_own f .inrush g

/-- A trip leaves its channel in the state that it names (R203). -/
theorem State.feedTrip_state (f code : Nat) (st : FeedState) (value limit : Int) :
    ((s.feedTrip f code st value limit).feed f).state = st := by
  unfold State.feedTrip
  dsimp only
  rw [State.feed_raise]
  exact (State.toFeed_own _ f st .zero).1

@[simp] theorem State.judgeFeed_state (f : Nat) : ((s.judgeFeed f).feed f).state = (s.feed f).state := by
  rw [State.judgeFeed, State.feed_setFeed]

@[simp] theorem State.modelStep_state (f : Nat) : ((s.modelStep f).feed f).state = (s.feed f).state := by
  rw [State.modelStep, State.feed_setFeed]

/-! ### A reset -/

@[simp] theorem State.feed_endFault (e : Elem) (f : Nat) : (s.endFault e).feed f = s.feed f := by
  unfold State.endFault
  split <;> rfl

@[simp] theorem State.feed_unholdSeq (n f : Nat) : (s.unholdSeq n).feed f = s.feed f := by
  unfold State.unholdSeq
  split <;> rfl

@[simp] theorem State.noted_selector (src : Nat) : (s.noted src).selector = s.selector := by
  unfold State.noted State.admitted State.received State.noteRequest
  split
  · rfl
  · split <;> rfl

/-- A channel reset returns the retries to zero, whatever state it finds and leaves (R205, R211). -/
theorem State.resetChannel_retries (f : Nat) : ((s.resetChannel f).feed f).retries = 0 := by
  have hreset : (((s.setFeed f { s.feed f with retries := 0 }).endFault (.feed f)).feed f).retries = 0 := by simp
  have hoff := (State.toFeed_own ((s.setFeed f { s.feed f with retries := 0 }).endFault (.feed f)) f .off .zero).2.trans hreset
  unfold State.resetChannel
  dsimp only
  split
  · split
    · exact hreset
    · exact hoff
  · split
    · exact hreset
    · rw [State.feed_unholdSeq]
      exact hoff
  · exact hreset

/-! ### No retries -/

/-- A limit of 0 leaves no retries (R205). -/
theorem State.retriesLeft_none {f : Nat} (h : s.nat 0x6800 0x14 f = 0) : s.retriesLeft f = false := by
  simp [State.retriesLeft, h]

/-- A trip that is none, or latches its channel. -/
def State.latches (s : State) (f : Nat) (u : State) : Prop := u = s ∨ (u.feed f).state = .latched

/-- Without retries a thermal trip latches (R205, R208). -/
theorem State.thermalTrip_latched {f : Nat} (h : s.nat 0x6800 0x14 f = 0) (hlive : s.feedLive f = true)
    (hhot : s.cfg 0x6810 0xB f * 100000 ≤ (s.feed f).tj) : ((s.thermalTrip f).feed f).state = .latched := by
  unfold State.thermalTrip
  dsimp only
  rw [if_pos (Bool.and_eq_true_iff.mpr ⟨hlive, decide_eq_true hhot⟩), s.retriesLeft_none h]
  exact State.feedTrip_state _ _ _ _ _ _

theorem State.latches_thermalTrip {f : Nat} (h : s.nat 0x6800 0x14 f = 0) : s.latches f (s.thermalTrip f) := by
  by_cases htrip : s.feedLive f = true ∧ s.cfg 0x6810 0xB f * 100000 ≤ (s.feed f).tj
  · exact .inr (s.thermalTrip_latched h htrip.1 htrip.2)
  · exact .inl (if_neg (by simpa using htrip))

/-- So does a short circuit (R205, R207). -/
theorem State.latches_shortTrip {f : Nat} (h : s.nat 0x6800 0x14 f = 0) : s.latches f (s.shortTrip f) := by
  by_cases htrip : s.feedLive f = true ∧ s.cfg 0x6800 0xE f < s.idMilli f
  · refine .inr ?_
    rw [s.shortTrip_latched htrip.1 htrip.2 (by simp [s.retriesLeft_none h])]
    exact s.feedTrip_state _ _ _ _ _
  · exact .inl (if_neg htrip)

/-- A command that meets a channel in LATCHED is refused, and leaves it there (R212). -/
theorem State.judgeCommand_state_latched {f : Nat} {on : Bool} (h : (s.feed f).state = .latched) :
    ((s.judgeCommand f on).feed f).state = .latched := by
  have hresult : s.channelResult f on = 1 := if_pos (.inl h)
  rw [s.judgeCommand_refused (by rw [hresult]; decide)]
  exact h

/-- A trip that latches or does nothing takes no channel to COOLDOWN, whichever command of its SYS cycle it meets (R212). -/
theorem State.tripFirst_avoids_cooldown {f : Nat} {trip : State → State} (h : s.nat 0x6800 0x14 f = 0)
    (hstate : (s.feed f).state ≠ .cooldown) (htrip : ∀ a : State, a.nat 0x6800 0x14 f = 0 → a.latches f (trip a)) :
    ((s.tripFirst f trip).feed f).state ≠ .cooldown := by
  have hpresent : ((trip s).feed f).state ≠ .cooldown := by
    rcases htrip s h with hnone | hlatched
    · rwa [hnone]
    · rw [hlatched]; decide
  unfold State.tripFirst
  split
  case h_2 => exact hpresent
  case h_1 m _ =>
    split
    case isFalse => exact hpresent
    case isTrue =>
      dsimp only
      split
      case isTrue => exact hpresent
      case isFalse hleft =>
        rcases htrip (s.setFeed f (m.restored (s.feed f))) h with hnone | hlatched
        · exact absurd (by rw [hnone, State.feed_setFeed]; rfl) hleft
        · exact ne_of_eq_of_ne (State.judgeCommand_state_latched _ hlatched) (by decide)

/-- A short circuit and a thermal update take a channel without retries to COOLDOWN no more (R205). -/
theorem State.trips_avoid_cooldown {t : Tick} {f : FeedId} {u : State} {code v i g : Nat} (hs : s.awake)
    (h : (s.advance t).nat 0x6800 0x14 f = 0) (hstate : ((s.advance t).feed f).state ≠ .cooldown)
    (hu : execShortCircuitTrip t f code s = .next u ∨ execThermalModelUpdate t f v i g s = .next u) :
    (u.feed f).state ≠ .cooldown := by
  rcases hu with hu | hu
  · cases (s.live_awake t _ hs).symm.trans hu
    refine State.tripFirst_avoids_cooldown _ h ?_ fun a ha => a.latches_shortTrip ha
    rwa [State.judgeFeed_state, State.feed_setFeed]
  · cases (s.live_awake t _ hs).symm.trans hu
    refine State.tripFirst_avoids_cooldown _ ?_ ?_ fun a ha => a.latches_thermalTrip ha
    · exact (congrArg Int.toNat (State.cfg_of_obj (State.amplifierRests_obj _ _) _ _ _)).trans h
    · rwa [State.modelStep_state, State.amplifierRests_state, State.judgeFeed_state, State.feed_setFeed]

/-- Settles O51: a retry and a reset count by the rules of a channel that changes state, and a limit of 0 leaves only trips that
latch. -/
theorem retriesAreCounted : Obligations.RetriesAreCounted := by
  intro s a t f hs ha
  subst ha
  refine ⟨fun hcool hlong hcold => ?_, fun hgood hlong => ?_, fun src h hfree => ?_, decide_eq_true_iff,
    fun h hlive hhot => State.thermalTrip_latched _ h hlive hhot,
    fun h hstate code v i g u hu => s.trips_avoid_cooldown hs h hstate hu, rfl⟩
  · obtain ⟨hinrush, hretries⟩ := State.feedInrush_own ((s.advance t).setFeed f
      { (s.advance t).feed f with retries := ((s.advance t).feed f).retries + 1 }) f .ramp
    rw [State.feed_setFeed] at hretries
    exact ⟨_, s.live_effect hs (if_pos ⟨hcool, hlong, hcold⟩), hretries, hinrush⟩
  · exact ⟨_, s.live_effect hs (if_pos ⟨hgood, hlong⟩), congrArg FeedCh.retries (State.feed_setFeed _ f _)⟩
  · refine ⟨_, s.live_dict_accepted t _ _ _ _ _ hs h, ?_⟩
    have hserves : ¬ (resetKey ≠ resetKey ∨ ((s.advance t).noted src).selector.transfer.isSome = true) := by
      rw [State.noted_selector, hfree]; decide
    rw [if_neg hserves]
    exact State.resetChannel_retries _ f

end Sys2Proof.Machine
end

section
/-! PROOFS. Handovers: how they are proposed, taken cell by cell, completed and timed out. -/

namespace Sys2Proof.Machine

variable (s : State)

section
variable {t : Tick} {h : Handover} (hs : s.awake) (hrun : (s.advance t).twin.handover = some h)
include hs hrun

/-- At its boundary an ordered handover is announced, and the drive of the shared outputs and the cells at rest move (R342). -/
theorem execHandoverBoundary_begins {u v w : State} (hdue : ¬ h.hard ∧ ¬ h.begun ∧ h.boundary ≤ (s.advance t).now)
    (hu : u = (s.advance t).raise (ev 0x8201 0)) (hv : v = (if h.drill then u.raise (ev 0x8203 0) else u))
    (hw : w = (if h.giving then v.setDriving false v.now else v.setDriving true (h.boundary + usTicks))) :
    execHandoverBoundary t s = .next ((s.advance t).keep (w.moveCells { h with begun := true, movedAt := h.boundary }
      ((List.range 128).filter w.movesAtOnce) h.boundary false)) := by
  refine s.live_effect hs ?_
  rw [hrun]
  dsimp only
  rw [if_pos hdue, ← hu, ← hv, ← hw]

/-- A cell moves while both its outputs are low, or at its period start from one period after the boundary on (R342). -/
theorem execCellHandoverInstant_moves {c : CellId} {low : Bool} (hdue : h.begun ∧ ¬ h.hard ∧ ¬ h.moved.contains c.val)
    (hlow : low = (!((s.advance t).cell c).levelA && !((s.advance t).cell c).levelB))
    (hinstant : low = true ∨ h.boundary + ((s.advance t).cell c).period ≤ (s.advance t).now) :
    execCellHandoverInstant t c s = .next ((s.advance t).keep ((s.advance t).moveCells h [c.val] (s.advance t).now !low)) := by
  obtain ⟨hbegun, hordered, hnew⟩ := hdue
  refine s.live_effect hs ?_
  rw [hrun]
  dsimp only
  rw [← hlow]
  exact if_pos ⟨hbegun, hordered, hnew, hinstant⟩

section
variable {u v : State} (hdone : h.begun ∧ ¬ h.hard ∧ 128 ≤ h.moved.length)
  (hu : u = ((s.advance t).countHandover h.cause (h.movedAt - h.boundary)).setTwin { (s.advance t).twin with
    handover := none, tokenOut := !h.giving, tokenIn := h.giving, tokenChecked := true, raisedAt := none, yieldCode := 0
    insideSince := (s.advance t).now, heartbeatAt := (s.advance t).now, outOfWindow := [] })
  (hv : v = (if h.drill then (u.put 0x1230 7 0 0).scheduleDrill u.freeTime else u))
include hdone hu hv

/-- A receiver whose cells have all moved is the active (R342). -/
theorem execHandoverComplete_receives (hgiving : h.giving = false) :
    execHandoverComplete t s = .next ((s.advance t).keep ({ v with twinState := .active }.putPartner 5)) := by
  refine s.live_effect hs ?_
  rw [hrun]
  refine (if_pos hdone).trans ?_
  rw [← hu]
  dsimp only
  rw [← hv, hgiving]
  rfl

/-- A giver whose cells have all moved is the standby (R342). -/
theorem execHandoverComplete_gives {w : State} (hw : w = { v with twinState := .inStep }.putPartner 2) (hgiving : h.giving = true)
    (hstays : w.twin.resetAfter = none) :
    execHandoverComplete t s = .next ((s.advance t).keep w) := by
  refine s.live_effect hs ?_
  rw [hrun]
  refine (if_pos hdone).trans ?_
  rw [← hu]
  dsimp only
  rw [← hv, hgiving, ← hw, hstays]
  rfl

end

/-- A yield whose partner has not taken over in 100 µs stops the cells that this chip still holds (R354). -/
theorem execYieldHandoverTimeout_stops {code : Nat} {u : State} (hyield : (s.advance t).twin.resetAfter = some (8, code))
    (hdue : h.giving ∧ ¬ h.hard ∧ h.boundary + 100 * usTicks ≤ (s.advance t).now)
    (hu : u = (((List.range 128).filter (s.advance t).token).foldl State.stopCellNow (s.advance t)).bridgesLow) :
    execYieldHandoverTimeout t s = .next ((s.advance t).keep ((u.setTwin
      { u.twin with handover := none, resetAfter := none }).setRun
      { u.run with
        stopCode := if u.run.stopAt.isSome then u.run.stopCode else code
        stopAt := if u.run.stopAt.isSome then u.run.stopAt else some u.now })) := by
  refine s.live_effect hs ?_
  rw [hrun, hyield]
  refine (if_pos hdue).trans ?_
  rw [← hu]

end

/-- Settles O27: the handover that runs chooses the branch of each command, and its conditions what the branch does. -/
theorem handoverCommandsComplete : Obligations.HandoverCommandsComplete := by
  intro s a t hs ha
  subst ha
  refine ⟨fun boundary cause hstate hfree => s.live_effect hs (if_pos ⟨hstate, by rw [hfree]; rfl⟩),
    fun h u v w hrun hdue hu hv hw => execHandoverBoundary_begins s hs hrun hdue hu hv hw,
    fun c h low hrun hdue hlow hinstant => execCellHandoverInstant_moves s hs hrun hdue hlow hinstant,
    fun h u v hrun hdone hu hv hgiving => execHandoverComplete_receives s hs hrun hdone hu hv hgiving,
    fun h u w v hrun hdone hu hv hw hgiving hstays => execHandoverComplete_gives s hs hrun hdone hu hv hw hgiving hstays,
    fun h hrun hdue => ?_, fun at? n hdeferred hlate => ?_,
    fun h code u hrun hyield hdue hu => execYieldHandoverTimeout_stops s hs hrun hyield hdue hu⟩
  · refine s.live_effect hs ?_
    rw [hrun]
    exact if_pos hdue
  · refine s.live_effect hs ?_
    rw [hdeferred]
    exact if_pos hlate

end Sys2Proof.Machine
end

section
/-! PROOFS. The frame of the charge estimator: what its commands leave as it was. -/

namespace Sys2Proof.Machine

/-! ### What the estimator changes -/

/-- From `s` to `u` nothing differs but the strings with their objects and records, the inputs whose slot a sample skipped, what
an event changes, and the time. -/
def State.reckons (s u : State) : Prop :=
  u = { s with now := u.now, obj := u.obj, freeCount := u.freeCount, strings := u.strings, shorted := u.shorted,
               storage := u.storage, faults := u.faults, inputs := u.inputs,
               twin := { s.twin with ownFaults := u.twin.ownFaults } } ∧
    s.objectsKept u [0x7030, 0x7121, 0x8006]

theorem State.reckons_refl (s : State) : s.reckons s := ⟨rfl, fun _ _ _ => rfl⟩

section
variable {s u v : State}

theorem State.reckons.trans (h : s.reckons u) (h' : u.reckons v) : s.reckons v := by
  obtain ⟨hframe, hobj⟩ := h
  obtain ⟨hframe', hobj'⟩ := h'
  exact ⟨hframe'.trans (by rw [hframe]), hobj.trans hobj'⟩

/-- A choice between two such changes is one. -/
theorem State.reckons_ite {p : Prop} [Decidable p] (h : s.reckons u) (h' : s.reckons v) : s.reckons (if p then u else v) := by
  split
  · exact h
  · exact h'

variable (h : s.reckons u)
include h

theorem State.reckons.setStr (n : Nat) (x : Str) : s.reckons (u.setStr n x) :=
  h.trans ⟨rfl, fun _ _ _ => rfl⟩

theorem State.reckons.withShorted (m : Bank Nat Tick) : s.reckons { u with shorted := m } :=
  h.trans ⟨rfl, fun _ _ _ => rfl⟩

theorem State.reckons.put {i : Nat} (k n : Nat) (value : Int) (hi : i ∈ [0x7030, 0x7121, 0x8006]) :
    s.reckons (u.put i k n value) :=
  h.trans ⟨rfl, u.objectsKept_put k n value hi⟩

/-- A write of the estimate of a string (0x7030) is such a change. -/
theorem State.reckons.putEstimate (k n : Nat) (value : Int) : s.reckons (u.put 0x7030 k n value) := h.put _ _ _ (by decide)

theorem State.reckons.raise (e : Event) : s.reckons (u.raise e) := by
  obtain ⟨_, _, _, _, hraise⟩ := u.raise_changes e
  exact h.trans ⟨by rw [hraise], u.objectsKept_raise e (by decide)⟩

/-- Changes along a list are such a change. -/
theorem State.reckons.foldl {β : Type} (f : State → β → State) (hf : ∀ (a : State) y, s.reckons a → s.reckons (f a y))
    (l : List β) : s.reckons (l.foldl f u) :=
  List.foldlRecOn l f h fun a ha y _ => hf a y ha

/-! ### Holds, records and anchors -/

/-- A hold or test begins on the strings of its group (R237, R239). -/
theorem State.reckons.beginHold (g kind : Nat) : s.reckons (u.beginHold g kind) :=
  (h.foldl _ (fun _ _ ha => ha.setStr _ _) _).raise _

/-- The end of one writes them and their results (R238, R240). -/
theorem State.reckons.endHold (g result : Nat) : s.reckons (u.endHold g result) :=
  State.reckons_ite ((h.foldl _ (fun _ _ ha => (ha.setStr _ _).put _ _ _ (by decide)) _).raise _) h

theorem State.reckons.appendRecord (b : RecBody) : s.reckons (u.appendRecord b) := by
  unfold State.appendRecord
  split
  · exact h.trans ⟨rfl, fun _ _ _ => rfl⟩
  · exact h

theorem State.reckons.writeRecord (n : Nat) : s.reckons (u.writeRecord n) := (h.appendRecord _).setStr _ _

theorem State.reckons.overtakeAnchors (n : Nat) : s.reckons (u.overtakeAnchors n) := h.setStr _ _

/-! ### The parts of a sample -/

/-- A string whose temperatures are all lost is journalled once (R223). -/
theorem State.reckons.sampleTemps (n : Nat) : s.reckons (u.sampleTemps n) := by
  unfold State.sampleTemps
  dsimp only
  split
  · exact State.reckons_ite (h.setStr _ _) ((h.setStr _ _).raise _)
  · exact h.setStr _ _

theorem State.reckons.sampleInputs (n v i latest sh : Nat) : s.reckons (u.sampleInputs n v i latest sh) := h.setStr _ _

theorem State.reckons.sampleCount (n : Nat) : s.reckons (u.sampleCount n) := h.setStr _ _

theorem State.reckons.sampleStart (n : Nat) : s.reckons (u.sampleStart n) :=
  State.reckons_ite h
    (State.reckons_ite ((((h.putEstimate _ _ _).putEstimate _ _ _).setStr _ _).raise _) h)

/-- Each row of Table 09-4 writes the string, and the first its objects too. -/
theorem State.reckons.sampleJudge (n : Nat) : s.reckons (u.sampleJudge n) := by
  have hends (q : Int) (st : Nat) : s.reckons (u.setStr n { u.str n with qRem := q, countState := st }) := h.setStr _ _
  unfold State.sampleJudge
  dsimp only
  refine State.reckons_ite h (State.reckons_ite ?empty (State.reckons_ite (hends _ _) (State.reckons_ite (hends _ _)
    (State.reckons_ite (hends _ _) (State.reckons_ite ?early (State.reckons_ite (hends _ _) h))))))
  case empty => exact (((h.putEstimate _ _ _).putEstimate _ _ _).setStr _ _).raise _
  case early => exact State.reckons_ite h ((h.setStr _ _).raise _)

theorem State.reckons.sampleRest (n : Nat) : s.reckons (u.sampleRest n) :=
  State.reckons_ite ((h.setStr _ _).endHold _ _) (h.setStr _ _)

theorem State.reckons.samplePermit (n : Nat) : s.reckons (u.samplePermit n) :=
  State.reckons_ite ((h.setStr _ _).raise _) (h.setStr _ _)

theorem State.reckons.sampleAllow (n : Nat) : s.reckons (u.sampleAllow n) := h.setStr _ _

theorem State.reckons.sampleTest (n : Nat) : s.reckons (u.sampleTest n) :=
  State.reckons_ite ((h.endHold _ _).beginHold _ _) h

/-! ### Rest points -/

/-- A capacity that is measured is stored, and learned or rejected (R232, R233). -/
theorem State.reckons.learn (n : Nat) (a b : Anchor) : s.reckons (u.learn n a b) := by
  have hmeasured (m : Int) := h.putEstimate 0xD n m
  have hobjects (m new : Int) :=
    ((((hmeasured m).putEstimate 1 n new).putEstimate 2 n 1000).putEstimate 3 n 0 |>.putEstimate 4 n 0).putEstimate 5 n 0
  exact State.reckons_ite
    (State.reckons_ite ((hmeasured _).raise _)
      (((((hobjects _ _).overtakeAnchors _).setStr _ _).raise _).writeRecord _)) h

/-- A usable rest point corrects the string and becomes its anchor (R231, R232). -/
theorem State.reckons.usableRest (n : Nat) : s.reckons (u.usableRest n) := by
  unfold State.usableRest
  dsimp only
  refine State.reckons.setStr ?_ _ _
  split
  · exact ((h.setStr _ _).raise _).learn _ _ _
  · exact (h.setStr _ _).raise _

end

/-! ### The commands of the estimator -/

section
variable {s u : State} {t : Tick} {n : StringId}

/-- A command whose effect is such a change makes it at its time, or only passes the time. -/
theorem State.reckons_live {g : State → State} (h : s.live t g = .next u) (hg : ∀ a : State, a.reckons (g a)) :
    s.reckons u := by
  have hadvance : s.reckons (s.advance t) := ⟨rfl, fun _ _ _ => rfl⟩
  rcases State.live_cases h with rfl | rfl
  · exact hadvance
  · obtain ⟨hframe, hobj⟩ := hg (s.advance t)
    exact hadvance.trans ⟨by rw [State.keep, hframe], hobj⟩

/-- A sample in slow stepping shorts its input, and every sample runs through its parts in order (R227, R228). -/
theorem execEstimatorSample_reckons {v sh : Nat} {i : CurrentCodes} (h : execEstimatorSample t n v i sh s = .next u) :
    s.reckons u := by
  refine State.reckons_live h fun a => State.reckons_ite ?_ a.reckons_refl
  have hstart := State.reckons_ite (p := (a.str n).fast = true) a.reckons_refl
    (a.reckons_refl.withShorted (bset a.shorted (a.nat 0x7000 3 n) (a.now + 12800 * usTicks / 1000)))
  have hcounted := ((((hstart.sampleInputs n v i.mean i.latest sh).sampleTemps n).sampleCount n).sampleStart n).sampleJudge n
  exact (((hcounted.sampleRest n).samplePermit n).sampleAllow n).sampleTest n

theorem execRestPoint_reckons (h : execRestPoint t n s = .next u) : s.reckons u := by
  refine State.reckons_live h fun a => State.reckons_ite (State.reckons.writeRecord ?_ _) a.reckons_refl
  have hjournalled := (a.reckons_refl.setStr n { a.str n with restTaken := true }).raise
    { ev 0x6201 n with value := rndDiv (a.str n).socV 1000 }
  exact State.reckons_ite (hjournalled.usableRest _) hjournalled

/-- The confidence falls, and an estimate that is too old is stale (R234). -/
theorem execConfidenceDecay_reckons (h : execConfidenceDecay t n s = .next u) : s.reckons u := by
  refine State.reckons_live h fun a => State.reckons_ite ?_ a.reckons_refl
  have hfallen := ((a.reckons_refl.setStr n { a.str n with dayAt := a.now }).putEstimate 3 n
    (min (a.cfg 0x7030 3 n + 1) 65535)).putEstimate 2 n
  exact State.reckons_ite (((hfallen _).putEstimate _ _ _).raise _) (hfallen _)

theorem execBatteryStateRecord_reckons (h : execBatteryStateRecord t n s = .next u) : s.reckons u :=
  State.reckons_live h fun a => State.reckons_ite (a.reckons_refl.writeRecord _) a.reckons_refl

theorem execRestHoldEnd_reckons (h : execRestHoldEnd t n s = .next u) : s.reckons u :=
  State.reckons_live h fun a => State.reckons_ite (a.reckons_refl.endHold _ _) a.reckons_refl

theorem execChargePermit_reckons (h : execChargePermit t n s = .next u) : s.reckons u :=
  State.reckons_live h fun a => State.reckons_ite ((a.reckons_refl.setStr _ _).raise _) a.reckons_refl

/-- Full charge is journalled, and may begin a top hold (R237, R242). -/
theorem execFullCharge_reckons (h : execFullCharge t n s = .next u) : s.reckons u := by
  refine State.reckons_live h fun a => State.reckons_ite ?_ a.reckons_refl
  have hfull := (a.reckons_refl.setStr n { a.str n with full := true }).raise { ev 0x6505 n with value := (a.str n).amp }
  exact State.reckons_ite (hfull.beginHold _ _) hfull

end

/-- Settles O43: each command of the estimator is such a change. -/
theorem estimatorTouchesTheStrings : Obligations.EstimatorTouchesTheStrings := by
  intro s u c hc hu
  unfold Instr.estimates at hc
  split at hc
  case h_1 => exact execEstimatorSample_reckons hu
  case h_2 => exact execRestPoint_reckons hu
  case h_3 => exact execConfidenceDecay_reckons hu
  case h_4 => exact execRestHoldEnd_reckons hu
  case h_5 => exact execChargePermit_reckons hu
  case h_6 => exact execFullCharge_reckons hu
  case h_7 => exact execBatteryStateRecord_reckons hu
  case h_8 => cases hc

end Sys2Proof.Machine
end

section
/-! PROOFS. The battery estimator: the timers of its strings and of their groups, and the commands of its tables, holds and
tests. -/

namespace Sys2Proof.Machine

variable (s : State)

/-! ### The timers -/

section
variable {t : Tick} (hs : s.awake)
include hs

/-- A day lowers the confidence, and makes no estimate stale before its limit (R234). -/
theorem execConfidenceDecay_fresh {n : StringId} {u : State} (hruns : (s.advance t).estimates n = true)
    (hday : ((s.advance t).str n).dayAt + 86400 * secTicks ≤ (s.advance t).now)
    (hu : u = ((s.advance t).setStr n { (s.advance t).str n with dayAt := (s.advance t).now }).put 0x7030 3 n
      (min ((s.advance t).cfg 0x7030 3 n + 1) 65535))
    (hfresh : (s.advance t).cfg 0x7030 3 n + 1 < u.cfg 0x7110 8 0) :
    execConfidenceDecay t n s = .next ((s.advance t).keep
      (u.put 0x7030 2 n (max 0 (u.cfg 0x7030 2 n - u.cfg 0x7110 7 0)))) := by
  have hlimit (value : Int) : (u.put 0x7030 2 n value).cfg 0x7110 8 0 = u.cfg 0x7110 8 0 :=
    u.cfg_put_ne 0x7030 2 n value (by decide) (by decide) (by simp)
  refine s.live_effect hs ((if_pos ⟨hruns, hday⟩).trans ?_)
  dsimp only
  rw [← hu, hlimit, if_neg fun h => Int.not_le.mpr hfresh h.1]

/-- Without a connected string both limits of a BAT group are 0 (R243). -/
theorem execBatLimitUpdate_unconnected {g : GroupId} (hrole : (s.advance t).role g = 3)
    (hstrap : (s.advance t).strapBad [5] = false) (hnone : (s.advance t).connectedOf g = []) :
    execBatLimitUpdate t g s = .next ((s.advance t).keep (((s.advance t).put (0x6210 + g.val % 4) 1 (g.val / 4) 0).put
      (0x6210 + g.val % 4) 2 (g.val / 4) 0)) := by
  refine s.live_effect hs ((if_pos ⟨hrole, by rw [hstrap]; rfl⟩).trans ?_)
  rw [hnone]
  rfl

/-- A string that may not charge brings the charge limit to 0, and the discharge limit rises where no string is overdrawn
(R243). -/
theorem execBatLimitUpdate_barred {g : GroupId} (hrole : (s.advance t).role g = 3)
    (hstrap : (s.advance t).strapBad [5] = false) (hsome : (s.advance t).connectedOf g ≠ [])
    (hbarred : (((s.advance t).connectedOf g).any fun n =>
      !((s.advance t).str n).permitted || decide (((s.advance t).str n).hold ≠ 0)) = true)
    (hdeep : (((s.advance t).connectedOf g).any fun n =>
      decide ((s.advance t).cfg 0x7000 0xE n < max (-((s.advance t).str n).amp) 0)) = false) :
    execBatLimitUpdate t g s = .next ((s.advance t).keep (((s.advance t).put (0x6210 + g.val % 4) 1 (g.val / 4) 0).put
      (0x6210 + g.val % 4) 2 (g.val / 4)
      (min ((s.advance t).cfg (0x6210 + g.val % 4) 2 (g.val / 4) + (s.advance t).cfg 0x7130 1 0)
        ((s.advance t).cfg 0x7130 3 0)))) := by
  refine s.live_effect hs ((if_pos ⟨hrole, by rw [hstrap]; rfl⟩).trans ?_)
  dsimp only
  rw [hbarred, hdeep, List.isEmpty_eq_false_iff.mpr hsome]
  rfl

end

/-- Settles O12: the conditions of each clause choose the branch of its command. -/
theorem batteryTimersComplete : Obligations.BatteryTimersComplete := by
  intro s a t hs ha
  subst ha
  refine ⟨fun n v i latest sh hruns hdue hfast => ?_, fun n v i latest sh u hruns hdue hslow hu => ?_,
    fun n u hruns hnew hrested hu => ?_, fun n u hruns hday hu hfresh => execConfidenceDecay_fresh s hs hruns hday hu hfresh,
    fun n hruns hdue => s.live_effect hs (if_pos ⟨hruns, hdue⟩),
    fun n hhold hkind hlong => s.live_effect hs (if_pos ⟨hhold, hkind, hlong⟩),
    fun n hruns hbarred hlong => s.live_effect hs (if_pos ⟨hruns, by rw [hbarred]; rfl, hlong⟩),
    fun n u hruns hnew htaper hlong hu => ?_,
    fun g hrole hstrap hnone => execBatLimitUpdate_unconnected s hs hrole hstrap hnone,
    fun g hrole hstrap hsome hbarred hdeep => execBatLimitUpdate_barred s hs hrole hstrap hsome hbarred hdeep,
    fun n hruns hon hlow => s.live_effect hs (if_pos ⟨hruns, by rw [hon]; rfl, hlow⟩),
    fun n f hf hruns hcut hlong hopen hchannel hoff => ?_⟩
  · refine s.live_effect hs ((if_pos ⟨hruns, hdue⟩).trans ?_)
    rw [if_pos hfast]
  · refine s.live_effect hs ((if_pos ⟨hruns, hdue⟩).trans ?_)
    rw [if_neg (by rw [hslow]; exact Bool.false_ne_true), ← hu]
  · subst hu
    exact s.live_effect hs (if_pos ⟨hruns, by rw [hnew]; rfl, hrested⟩)
  · subst hu
    exact s.live_effect hs (if_pos ⟨hruns, by rw [hnew]; rfl, htaper, hlong⟩)
  · subst hf
    exact s.live_effect hs (if_pos ⟨hruns, hcut, hlong, hopen, hchannel, hoff⟩)

/-! ### The commands -/

/-- A command of the group of a string that the estimator serves has its effect on that group (R237, R239). -/
theorem State.live_dictString_accepted {t : Tick} {c : Instr} {src : NodeId} {n : StringId} {f : State → Nat → State}
    (hs : s.awake) (ha : (s.advance t).accepts src 1 false) (hruns : ((s.advance t).noted src).estimates n = true) :
    s.live t (fun a => a.dictString c src n f) =
      .next ((s.advance t).keep (f ((s.advance t).noted src) (((s.advance t).noted src).nat 0x7000 9 n))) := by
  refine (s.live_dict_accepted t _ _ _ _ _ hs ha).trans ?_
  rw [if_pos hruns]

/-- Settles O13: each command is a row of the dictionary, and what runs in its group chooses its answer. -/
theorem batteryCommandsComplete : Obligations.BatteryCommandsComplete := by
  intro s a b t src hs ha hb
  subst ha hb
  refine ⟨fun h => s.live_dict_accepted t _ _ _ _ _ hs h, fun v h hv => ?_, fun n h hruns hfree => ?_,
    fun n h hruns hhold => ?_, fun n h hruns hhold hno => ?_, fun n h hruns hfree hready => ?_,
    fun n h hruns hfree hready => ?_, fun n h hruns htest => ?_⟩
  · refine (s.live_dict_accepted t _ _ _ _ _ hs h).trans ?_
    rw [if_neg hv]
  · refine (s.live_dictString_accepted hs h hruns).trans ?_
    rw [if_neg (by rw [hfree]; exact Bool.false_ne_true)]
  · refine (s.live_dictString_accepted hs h hruns).trans ?_
    rw [if_pos hhold]
    rfl
  · refine (s.live_dictString_accepted hs h hruns).trans ?_
    rw [if_pos ⟨hhold, by rw [hno]; rfl⟩]
  · refine (s.live_dictString_accepted hs h hruns).trans ?_
    rw [hfree, hready]
    rfl
  · refine (s.live_dictString_accepted hs h hruns).trans ?_
    rw [hfree, hready]
    rfl
  · refine (s.live_dictString_accepted hs h hruns).trans ?_
    rw [if_pos htest]

end Sys2Proof.Machine
end

section
/-! PROOFS. The frame of the judgements of temperatures and of power-good flags: what they leave as it was. -/

namespace Sys2Proof.Machine

/-! ### What a judgement changes -/

/-- From `s` to `u` nothing differs but the inputs, dies, drivers and sequenced channels that are judged, the status of the inputs
and of the latches, what an event changes, and the time. -/
def State.judgesTo (s u : State) : Prop :=
  u = { s with now := u.now, obj := u.obj, seqs := u.seqs, temps := u.temps, drivers := u.drivers, dies := u.dies,
               faults := u.faults, inputs := u.inputs, twin := { s.twin with ownFaults := u.twin.ownFaults } } ∧
    s.objectsKept u [0x2411, 0x4030, 0x8006]

theorem State.judgesTo_refl (s : State) : s.judgesTo s := ⟨rfl, fun _ _ _ => rfl⟩

section
variable {s u v : State}

theorem State.judgesTo.trans (h : s.judgesTo u) (h' : u.judgesTo v) : s.judgesTo v := by
  obtain ⟨hframe, hobj⟩ := h
  obtain ⟨hframe', hobj'⟩ := h'
  exact ⟨hframe'.trans (by rw [hframe]), hobj.trans hobj'⟩

/-- A choice between two such changes is one. -/
theorem State.judgesTo_ite {p : Prop} [Decidable p] (h : s.judgesTo u) (h' : s.judgesTo v) : s.judgesTo (if p then u else v) := by
  split
  · exact h
  · exact h'

variable (h : s.judgesTo u)
include h

theorem State.judgesTo.setTempIn (i : Nat) (x : TempIn) : s.judgesTo (u.setTempIn i x) := h.trans ⟨rfl, fun _ _ _ => rfl⟩

theorem State.judgesTo.setDriver (b : Nat) (x : Driver) : s.judgesTo (u.setDriver b x) := h.trans ⟨rfl, fun _ _ _ => rfl⟩

theorem State.judgesTo.setDie (r : Nat) (x : DieT) : s.judgesTo (u.setDie r x) := h.trans ⟨rfl, fun _ _ _ => rfl⟩

theorem State.judgesTo.setSeq (n : Nat) (x : SeqCh) : s.judgesTo (u.setSeq n x) := h.trans ⟨rfl, fun _ _ _ => rfl⟩

theorem State.judgesTo.put {i : Nat} (k n : Nat) (value : Int) (hi : i ∈ [0x2411, 0x4030, 0x8006]) :
    s.judgesTo (u.put i k n value) :=
  h.trans ⟨rfl, u.objectsKept_put k n value hi⟩

theorem State.judgesTo.raise (e : Event) : s.judgesTo (u.raise e) := by
  obtain ⟨_, _, _, _, hraise⟩ := u.raise_changes e
  exact h.trans ⟨by rw [hraise], u.objectsKept_raise e (by decide)⟩

end

/-! ### The commands that judge -/

section
variable {s u : State} {t : Tick}

/-- A command whose effect is such a change makes it at its time, or only passes the time. -/
theorem State.judgesTo_live {f : State → State} (h : s.live t f = .next u) (hf : ∀ a : State, a.judgesTo (f a)) :
    s.judgesTo u := by
  have hadvance : s.judgesTo (s.advance t) := ⟨rfl, fun _ _ _ => rfl⟩
  rcases State.live_cases h with rfl | rfl
  · exact hadvance
  · obtain ⟨hframe, hobj⟩ := hf (s.advance t)
    exact hadvance.trans ⟨by rw [State.keep, hframe], hobj⟩

/-- An input of a heatsink group that has deviated for its time becomes suspect (R252). -/
theorem execSensorSuspect_judgesTo {i : TempId} (h : execSensorSuspect t i s = .next u) : s.judgesTo u := by
  refine State.judgesTo_live h fun a => ?_
  have hmarked := ((a.judgesTo_refl.put (i := 0x2411) 4 i 1 (by decide)).put (i := 0x2411) 3 i 1 (by decide)).setTempIn i
  split
  · exact State.judgesTo_ite ((hmarked _).raise _) a.judgesTo_refl
  · exact a.judgesTo_refl

/-- A disagreement of a die's sensors begins with an event and ends without one (R263). -/
theorem execDieSensorsDisagree_judgesTo {r : RegionId} (h : execDieSensorsDisagree t r s = .next u) : s.judgesTo u :=
  State.judgesTo_live h fun a => State.judgesTo_ite ((a.judgesTo_refl.setDie _ _).raise _)
    (State.judgesTo_ite (a.judgesTo_refl.setDie _ _) a.judgesTo_refl)

/-- The end of a latch clears its objects and its times (R261). -/
theorem execThermalLatchClear_judgesTo {b : BlockId} (h : execThermalLatchClear t b s = .next u) : s.judgesTo u := by
  refine State.judgesTo_live h fun a => State.judgesTo_ite (State.judgesTo.raise (State.judgesTo.setDriver ?_ _ _) _) a.judgesTo_refl
  exact ((a.judgesTo_refl.put _ _ _ (by decide)).put _ _ _ (by decide)).put _ _ _ (by decide)

theorem execPgFlagSet_judgesTo {n : SeqId} (h : execPgFlagSet t n s = .next u) : s.judgesTo u :=
  State.judgesTo_live h fun a => State.judgesTo_ite (a.judgesTo_refl.setSeq _ _) a.judgesTo_refl

/-- A flag that falls is journalled where its channel needs it (R267, R270). -/
theorem execPgFlagClear_judgesTo {n : SeqId} (h : execPgFlagClear t n s = .next u) : s.judgesTo u := by
  refine State.judgesTo_live h fun a => State.judgesTo_ite ?_ a.judgesTo_refl
  have hcleared := a.judgesTo_refl.setSeq n { a.seq n with flag := false }
  exact State.judgesTo_ite (hcleared.raise _) hcleared

end

/-- Settles O49: each of the judging commands is such a change. -/
theorem heatJudgementsTouchTheirInputs : Obligations.HeatJudgementsTouchTheirInputs := by
  intro s u c hc hu
  unfold Instr.judgesHeat at hc
  split at hc
  case h_1 => exact execSensorSuspect_judgesTo hu
  case h_2 => exact execDieSensorsDisagree_judgesTo hu
  case h_3 => exact execThermalLatchClear_judgesTo hu
  case h_4 => exact execPgFlagSet_judgesTo hu
  case h_5 => exact execPgFlagClear_judgesTo hu
  case h_6 => cases hc

end Sys2Proof.Machine
end

section
/-! PROOFS. The thermal management: how temperatures, driver supplies and dies are sampled, judged and latched. -/

namespace Sys2Proof.Machine

variable (s : State)

/-! ### Stop deadlines (R258) -/

/-- The cells that a stop did not reach: a net reads high, or the cell is neither IDLE nor FAULT (R258). -/
def State.stopFailed (s : State) (nets : List CellId) (c : Nat) : Bool :=
  (nets.any fun n => decide (n.val = c)) ||
    match (s.cell c).state with
    | .idle | .fault => false
    | _ => true

theorem State.stopFailed_stopped {nets : List CellId} {c : Nat} (hnets : (nets.any fun n => decide (n.val = c)) = false)
    (hrest : (s.cell c).state = .idle ∨ (s.cell c).state = .fault) : s.stopFailed nets c = false := by
  unfold State.stopFailed
  rw [hnets]
  rcases hrest with h | h <;> rw [h] <;> rfl

theorem State.stopFailed_running {nets : List CellId} {c : Nat}
    (h : (s.cell c).state = .run ∨ (s.cell c).state = .stop ∨ ∃ n ∈ nets, n.val = c) : s.stopFailed nets c = true := by
  unfold State.stopFailed
  rcases h with h | h | ⟨n, hn, hc⟩
  · rw [h]; exact Bool.or_true _
  · rw [h]; exact Bool.or_true _
  · rw [List.any_eq_true.mpr ⟨n, hn, decide_eq_true hc⟩]; rfl

/-- The cells that a stop of a group did not reach by its deadline. -/
def State.lateCells (s : State) (h : Nat) (nets : List CellId) : List Nat :=
  ((s.sink h).stops.filter fun p => decide (p.1 ≤ s.now)).flatMap fun p => p.2.filter (s.stopFailed nets)

/-- No cell is late where every cell has stopped by each deadline that is due. -/
theorem State.lateCells_nil {h : Nat} {nets : List CellId}
    (hstopped : ∀ p ∈ (s.sink h).stops, p.1 ≤ s.now → ∀ c ∈ p.2,
      (nets.any fun n => decide (n.val = c)) = false ∧ ((s.cell c).state = .idle ∨ (s.cell c).state = .fault)) :
    s.lateCells h nets = [] := by
  refine List.flatMap_eq_nil_iff.mpr fun p hp => List.filter_eq_nil_iff.mpr fun c hc => ?_
  obtain ⟨hmem, hdue⟩ := List.mem_filter.mp hp
  obtain ⟨hnets, hrest⟩ := hstopped p hmem (of_decide_eq_true hdue) c hc
  rw [s.stopFailed_stopped hnets hrest]
  exact Bool.false_ne_true

/-- The one cell of the one deadline is late where its stop did not reach it. -/
theorem State.lateCells_singleton {h : Nat} {nets : List CellId} {due : Tick} {c : Nat} (hstops : (s.sink h).stops = [(due, [c])])
    (hdue : due ≤ s.now) (hfailed : s.stopFailed nets c = true) : s.lateCells h nets = [c] := by
  simp [State.lateCells, hstops, hdue, hfailed]

/-- A deadline that is due is dropped. -/
theorem pendingStops_singleton {due now : Tick} (cs : List Nat) (hdue : due ≤ now) :
    ([(due, cs)].filter fun p => !decide (p.1 ≤ now)) = [] := by
  simp [hdue]

/-- A cell lies in one block. -/
theorem blocksOf_singleton {c : Nat} (hc : c < 128) :
    ((List.range 16).filter fun b => [c].any fun c => decide (c / 8 = b)) = [c / 8] := by
  have hblock : ∀ b, ([c].any fun c => decide (c / 8 = b)) = decide (b = c / 8) := fun b => by simp [eq_comm]
  simp only [hblock]
  rw [List.filter_eq, List.count_eq_one_of_mem List.nodup_range (List.mem_range.mpr (by omega))]
  rfl

section
variable {t : Tick} (hs : s.awake)
include hs

/-- STOP_DEADLINE_CHECK drops the deadlines that are due, and latches the blocks of the late cells (R258). -/
theorem execStopDeadlineCheck_latches {h : SinkId} {nets : List CellId} {blocks : List Nat}
    (hblocks : ((List.range 16).filter fun b => ((s.advance t).lateCells h nets).any fun c => decide (c / 8 = b)) = blocks) :
    execStopDeadlineCheck t h nets s = .next ((s.advance t).keep
      (blocks.foldl (fun s b => s.latchBlock b 2 (s.cfg (0x2400 + h) 0x18 0) (s.cfg (0x2400 + h) 0x11 0))
        ((s.advance t).setSink h { (s.advance t).sink h with
          stops := ((s.advance t).sink h).stops.filter fun p => !decide (p.1 ≤ (s.advance t).now) }))) := by
  subst hblocks
  exact s.live_effect hs rfl

/-! ### Suspect sensors (R252) -/

theorem execSensorSuspect_deviated {i : TempId} {h : Nat} {u : State} (hsink : (s.advance t).sinkOf i = some h)
    (hon : (s.advance t).sinkOn h = true) (hthree : 3 ≤ ((s.advance t).validSensors h).length)
    (hvalid : (s.advance t).nat 0x2411 3 i = 0)
    (hlong : (s.advance t).since ((s.advance t).tempIn i).deviates ((s.advance t).nat (0x2400 + h) 0x15 0 * secTicks) = true)
    (hu : u = ((s.advance t).put 0x2411 4 i 1).put 0x2411 3 i 1) :
    execSensorSuspect t i s = .next ((s.advance t).keep ((u.setTempIn i { u.tempIn i with deviates := none }).raise
      { ev 0x3101 (u.sinkRegion h) with
        value := u.cfg 0x2411 2 i, limit := u.cfg (0x2400 + h) 0x14 0, second := i, stateCode := 0 })) := by
  subst hu
  refine s.live_effect hs ?_
  rw [hsink]
  exact if_pos (by rw [hon, hlong, decide_eq_true hthree, decide_eq_true hvalid]; rfl)

/-! ### Driver supplies (R260) -/

/-- The sample of a supply whose block is not latched is counted while it is low, and the second trips a running block (R260). -/
theorem execDriverSupplySample_unlatched {b : BlockId} {v low : Nat} {u : State}
    (hlow : (if ((16 * v : Nat) : Int) < (s.advance t).cfg 0x4030 4 b then min 2 (((s.advance t).driver b).low + 1) else 0) = low)
    (hu : u = ((s.advance t).setDriver b { (s.advance t).driver b with low := low }).put 0x4030 3 b ((16 * v : Nat) : Int))
    (hfree : (s.advance t).cfg 0x4030 1 b ≠ 1) :
    execDriverSupplySample t b v s = .next ((s.advance t).keep
      (if low = 2 ∧ (!u.blockAtRest b) = true then
        u.blockTrip { ev 0x2602 b with value := ((16 * v : Nat) : Int), limit := u.cfg 0x4030 4 b } else u)) := by
  have hunlatched : u.cfg 0x4030 1 b ≠ 1 := by
    rw [hu, State.cfg_put_ne _ _ _ _ _ (by decide) (by decide) (by simp)]
    exact hfree
  refine s.live_effect hs ?_
  dsimp only
  rw [hlow, ← hu, if_neg hunlatched]

end

/-- Settles O15: the conditions of each clause choose the branch of its command. -/
theorem thermalCommandsComplete : Obligations.ThermalCommandsComplete := by
  intro s a t hs ha
  subst ha
  refine ⟨fun rs u v hu hv => ?_,
    fun i h hsink hon hthree hvalid hlong => execSensorSuspect_deviated s hs hsink hon hthree hvalid hlong rfl,
    fun h nets hstopped => ?_, fun h nets due c u hstops hdue hc hfailed hu => ?_, fun k v u hlow honce hu hfree hruns => ?_,
    fun k v u hlow hu hfree hfine => ?_, fun k v hgood hfree => ?_,
    fun k u hlatched hoff hlong hu => ?_, fun l hot u v w hu hfirst hv hhot harmed hlimit hw hcool => ?_,
    fun l r h u v hu hhighest hv harmed hlimit htrips => ?_,
    fun r hnew hlong => s.live_effect hs (if_pos (by rw [hnew, hlong]; rfl)), fun r hstands hlong => ?_⟩
  · refine s.live_effect hs ?_
    dsimp only
    rw [← hu, ← hv]
  · refine (execStopDeadlineCheck_latches s hs (blocks := []) ?_)
    rw [State.lateCells_nil _ hstopped]
    exact List.filter_eq_nil_iff.mpr fun _ _ => Bool.false_ne_true
  · subst hu
    have hlate := State.lateCells_singleton _ hstops hdue (State.stopFailed_running _ hfailed)
    refine (execStopDeadlineCheck_latches s hs (by rw [hlate, blocksOf_singleton hc])).trans ?_
    rw [hstops, pendingStops_singleton _ hdue]
    rfl
  · refine (execDriverSupplySample_unlatched s hs (by rw [if_pos hlow, honce]; rfl) hu hfree).trans ?_
    rw [if_pos ⟨rfl, by rw [hruns]; rfl⟩]
  · refine (execDriverSupplySample_unlatched s hs (if_pos hlow) hu hfree).trans ?_
    rw [if_neg]
    rintro ⟨htwo, hruns⟩
    rcases hfine with h | h
    · omega
    · rw [h] at hruns
      exact Bool.false_ne_true hruns
  · exact (execDriverSupplySample_unlatched s hs (if_neg (Int.not_lt.mpr hgood)) rfl hfree)
  · subst hu
    exact s.live_effect hs (if_pos ⟨hlatched, hoff, hlong⟩)
  · refine s.live_effect hs ?_
    dsimp only
    rw [← hu, hfirst]
    dsimp only
    rw [← hv, if_pos harmed, if_pos hlimit, ← hhot, ← hw, hcool]
  · refine s.live_effect hs ?_
    dsimp only
    rw [← hu, hhighest]
    dsimp only
    rw [← hv, harmed, if_neg Bool.false_ne_true, if_neg (by omega), htrips]
  · exact s.live_effect hs ((if_neg (by rw [hstands]; exact Bool.false_ne_true)).trans (if_pos (by rw [hstands, hlong]; rfl)))

end Sys2Proof.Machine
end

section
/-! PROOFS. The sequencer: its channels and their flags, input good, the commands of its programs, and the supply collapse. -/

namespace Sys2Proof.Machine

variable (s : State)

/-! ### EN commands (R262, R269) -/

/-- A held channel refuses an EN command with 0x3206. -/
theorem State.commandEn_held {n : Nat} {on : Bool} (hheld : (s.seq n).held = true) :
    s.commandEn n on = (s.raiseRefused 0 n).result 0x23 :=
  if_pos hheld

/-- A channel that switches the driver supply of a block refuses one too. -/
theorem State.commandEn_guarded {n : Nat} {on : Bool} (hfree : (s.seq n).held = false) (hguards : s.guards n ≠ []) :
    s.commandEn n on = s.result 0x23 := by
  rw [State.commandEn, if_neg (by rw [hfree]; exact Bool.false_ne_true), if_pos (by simpa using hguards)]

/-- Any other channel takes it. -/
theorem State.commandEn_taken {n : Nat} {on : Bool} (hfree : (s.seq n).held = false) (hguards : s.guards n = []) :
    s.commandEn n on = if on = true then s.assertEn n else s.releaseEn n := by
  rw [State.commandEn, if_neg (by rw [hfree]; exact Bool.false_ne_true), hguards]
  rfl

section
variable {t : Tick} (hs : s.awake)
include hs

/-- An EN command that the dictionary server takes is the channel's (R269). -/
theorem execEnCommands_accepted {src : NodeId} {n : SeqId} (ha : (s.advance t).accepts src 1 false) :
    execEnAssertCommand t src n s = .next ((s.advance t).keep (((s.advance t).noted src).commandEn n true)) ∧
      execEnReleaseCommand t src n s = .next ((s.advance t).keep (((s.advance t).noted src).commandEn n false)) :=
  ⟨s.live_dict_accepted t _ _ _ _ _ hs ha, s.live_dict_accepted t _ _ _ _ _ hs ha⟩

/-! ### Power-good flags (R267, R270) -/

/-- The flag of an inactive, steady pin falls, and the fall is journalled where the channel needs it. -/
theorem execPgFlagClear_falls {n : SeqId} {u : State} (hused : ((s.advance t).seq n).pgMode ≠ 0)
    (hinactive : (s.advance t).pgActive n = false) (hsteady : (s.advance t).pgSteady n = true)
    (hflag : ((s.advance t).seq n).flag = true)
    (hu : u = (s.advance t).setSeq n { (s.advance t).seq n with flag := false }) :
    execPgFlagClear t n s = .next ((s.advance t).keep
      (if (((s.advance t).seq n).commanded && !((s.advance t).seq n).held && ((s.advance t).seq n).flagSeen &&
          !u.inReleaseSet n) = true then
        u.raise { ev 0x3204 0 with second := n, stateCode := 1 } else u)) := by
  subst hu
  exact s.live_effect hs (if_pos ⟨hused, by rw [hinactive]; rfl, hsteady, hflag⟩)

/-! ### Input good (R281, R283) -/

/-- Input good is set once a part has held its time, and its programs start, or wait for those of the loss of input. -/
theorem execInputGoodSet_sets {u v : State} (hu : u = (s.advance t).trackInputs) (hbad : u.cfg 0x2510 6 0 = 0)
    (hlong : u.since u.mainsPart (u.nat 0x2510 5 0 * msTicks) = true ∨ u.since u.feedPart (u.nat 0x2510 5 0 * msTicks) = true)
    (hv : v = u.put 0x2510 6 0 1) :
    execInputGoodSet t s = .next ((s.advance t).keep ((v.triggered 2).foldl (fun s p =>
      if v.lossRuns = true ∧ s.progRuns p = false ∧ s.deferred.contains p = false then { s with deferred := s.deferred ++ [p] }
      else s.startProgram p) v)) := by
  subst hu hv
  refine s.live_effect hs ((if_pos ⟨hbad, hlong⟩).trans ?_)
  simp only [Bool.not_eq_true']

/-- It is cleared once neither part has held for its time: its programs end, and those of the loss start. -/
theorem execInputGoodClear_clears {u v w : State} (hu : u = (s.advance t).trackInputs) (hgood : u.cfg 0x2510 6 0 = 1)
    (hlong : u.since u.noPart (u.nat 0x2510 4 0 * msTicks) = true) (hv : v = u.put 0x2510 6 0 0)
    (hw : w = (List.range 16).foldl (fun s e => if (s.progSlot e).program.any (s.hasTrigger · 2) then s.endProgram e 5 else s) v) :
    execInputGoodClear t s = .next ((s.advance t).keep ((w.triggered 1).foldl State.startProgram w)) := by
  refine s.live_effect hs ?_
  dsimp only
  rw [← hu, if_pos ⟨hgood, hlong⟩, ← hv]
  refine congrArg (fun x : State => (x.triggered 1).foldl State.startProgram x) ?_
  rw [hw]
  refine List.foldl_ext _ _ _ fun x e _ => ?_
  cases (x.progSlot e).program <;> rfl

end

/-- Settles O18: an EN command goes by its channel, and the conditions of each other clause choose the branch of its command. -/
theorem channelsInputsAndProgramsComplete : Obligations.ChannelsInputsAndProgramsComplete := by
  intro s a t hs ha
  subst ha
  refine ⟨fun src n h hguards hfree => ?_, fun src n h hguards hfree => ?_, fun src n h hheld => ?_,
    fun src n h hfree hguards => ?_, fun n hactive hsteady hflag => ?_, fun n u hused hinactive hsteady hflag hu hneeded => ?_,
    fun n u hused hinactive hsteady hflag hu hneeded => ?_, fun u v hu hbad hlong hv => execInputGoodSet_sets s hs hu hbad hlong hv,
    fun u v w hu hgood hlong hv hw => execInputGoodClear_clears s hs hu hgood hlong hv hw, fun src p u h hu => ?_,
    fun src p h => s.live_dict_accepted t _ _ _ _ _ hs h, fun v hlow => s.live_effect hs (if_pos hlow)⟩
  · refine (execEnCommands_accepted s hs h).1.trans ?_
    rw [State.commandEn_taken _ hfree hguards, if_pos rfl]
  · refine (execEnCommands_accepted s hs h).2.trans ?_
    rw [State.commandEn_taken _ hfree hguards, if_neg Bool.false_ne_true]
  · have hjudged := execEnCommands_accepted s hs (n := n) h
    rwa [State.commandEn_held _ hheld, State.commandEn_held _ hheld] at hjudged
  · have hjudged := execEnCommands_accepted s hs (n := n) h
    rwa [State.commandEn_guarded _ hfree hguards, State.commandEn_guarded _ hfree hguards] at hjudged
  · exact s.live_effect hs (if_pos (by rw [hactive, hsteady, hflag]; rfl))
  · refine (execPgFlagClear_falls s hs hused hinactive hsteady hflag hu).trans ?_
    rw [if_pos hneeded]
  · refine (execPgFlagClear_falls s hs hused hinactive hsteady hflag hu).trans ?_
    rw [if_neg (by rw [hneeded]; exact Bool.false_ne_true)]
  · subst hu
    exact s.live_dict_accepted t _ _ _ _ _ hs h

end Sys2Proof.Machine
end

section
/-! PROOFS. The frame of a program's steps: what END, the waits, the jumps and MARK leave as it was. -/

namespace Sys2Proof.Machine

/-! ### What a program changes -/

/-- From `s` to `u` nothing differs but the program slots, the deferred programs, the place of the last step, the objects of the
programs, what an event changes, and the time. -/
def State.sequences (s u : State) : Prop :=
  u = { s with now := u.now, obj := u.obj, progSlots := u.progSlots, deferred := u.deferred, stepAt := u.stepAt,
               faults := u.faults, inputs := u.inputs, twin := { s.twin with ownFaults := u.twin.ownFaults } } ∧
    s.objectsKept u [0x2620, 0x8006]

theorem State.sequences_refl (s : State) : s.sequences s := ⟨rfl, fun _ _ _ => rfl⟩

section
variable {s u v : State}

theorem State.sequences.trans (h : s.sequences u) (h' : u.sequences v) : s.sequences v := by
  obtain ⟨hframe, hobj⟩ := h
  obtain ⟨hframe', hobj'⟩ := h'
  exact ⟨hframe'.trans (by rw [hframe]), hobj.trans hobj'⟩

/-- A choice between two such changes is one. -/
theorem State.sequences_ite {p : Prop} [Decidable p] (h : s.sequences u) (h' : s.sequences v) :
    s.sequences (if p then u else v) := by
  split
  · exact h
  · exact h'

variable (h : s.sequences u)
include h

theorem State.sequences.setProgSlot (e : Nat) (x : SlotT) : s.sequences (u.setProgSlot e x) := h.trans ⟨rfl, fun _ _ _ => rfl⟩

theorem State.sequences.withDeferred (l : List Nat) : s.sequences { u with deferred := l } := h.trans ⟨rfl, fun _ _ _ => rfl⟩

theorem State.sequences.withStepAt (m : Option (Tick × Nat)) : s.sequences { u with stepAt := m } :=
  h.trans ⟨rfl, fun _ _ _ => rfl⟩

/-- A write of a program's status (0x2620) is such a change. -/
theorem State.sequences.putStatus (k p : Nat) (value : Int) : s.sequences (u.put 0x2620 k p value) :=
  h.trans ⟨rfl, u.objectsKept_put k p value (by decide)⟩

theorem State.sequences.raise (e : Event) : s.sequences (u.raise e) := by
  obtain ⟨_, _, _, _, hraise⟩ := u.raise_changes e
  exact h.trans ⟨by rw [hraise], u.objectsKept_raise e (by decide)⟩

theorem State.sequences.raiseProg (code p : Nat) (value w4 : Int) : s.sequences (u.raiseProg code p value w4) := h.raise _

theorem State.sequences.endTurn (e : Nat) : s.sequences (u.endTurn e) := h.setProgSlot _ _

/-! ### A program starts (R277, R279, R282) -/

theorem State.sequences.enterProgram (p e i : Nat) : s.sequences (u.enterProgram p e i) :=
  (((((h.setProgSlot _ _).putStatus _ _ _).putStatus _ _ _).putStatus _ _ _).putStatus _ _ _).raiseProg _ _ _ _

theorem State.sequences.refuseProgram (p result : Nat) : s.sequences (u.refuseProgram p result) :=
  (h.putStatus _ _ _).raiseProg _ _ _ _

/-- A start is dropped, refused, or takes a slot. -/
theorem State.sequences.startProgram (p : Nat) : s.sequences (u.startProgram p) := by
  unfold State.startProgram
  refine State.sequences_ite ((h.putStatus _ _ _).raiseProg _ _ _ _) (State.sequences_ite (h.refuseProgram _ _) ?_)
  split
  · exact (h.putStatus _ _ _).refuseProgram _ _
  · split
    · exact (State.sequences_ite (h.endTurn _) h).enterProgram _ _ _
    · exact h.refuseProgram _ _

/-- The deferred programs start, are dropped, or are forgotten (R283). -/
theorem State.sequences.judgeDeferred : s.sequences u.judgeDeferred :=
  State.sequences_ite h (List.foldlRecOn _ _ (h.withDeferred []) fun _ ha _ _ =>
    State.sequences_ite ((ha.putStatus _ _ _).raiseProg _ _ _ _) (State.sequences_ite (ha.startProgram _) ha))

/-! ### A program ends or goes on (R280, R282) -/

theorem State.sequences.leaveProgram (e code : Nat) : s.sequences (u.leaveProgram e code) := by
  unfold State.leaveProgram
  split
  · exact (((h.raiseProg _ _ _ _).setProgSlot _ _).putStatus _ _ _).putStatus _ _ _
  · exact h

theorem State.sequences.endProgram (e code : Nat) : s.sequences (u.endProgram e code) := by
  unfold State.endProgram
  split
  · exact State.sequences_ite (h.leaveProgram _ _).judgeDeferred (h.leaveProgram _ _)
  · exact h

/-- A program goes on in its range, or ends off it. -/
theorem State.sequences.goOn (e i : Nat) : s.sequences (u.goOn e i) := by
  unfold State.goOn
  split
  · exact State.sequences_ite ((h.setProgSlot _ _).putStatus _ _ _) ((h.raiseProg _ _ _ _).endProgram _ _)
  · exact h

theorem State.sequences.goNext (e : Nat) : s.sequences (u.goNext e) := h.goOn _ _

/-- A transfer is dropped, refused, or enters its program. -/
theorem State.sequences.transferTo (q e i : Nat) : s.sequences (u.transferTo q e i) := by
  refine State.sequences_ite ((h.putStatus _ _ _).raiseProg _ _ _ _) ?_
  split
  · exact (h.putStatus _ _ _).refuseProgram _ _
  · exact h.enterProgram _ _ _

/-- A jump goes on in its program, or leaves it for the one that holds the address. -/
theorem State.sequences.jumpTo (e i : Nat) : s.sequences (u.jumpTo e i) := by
  unfold State.jumpTo
  split
  · refine State.sequences_ite (h.goOn _ _) ?_
    split
    · have htransferred := (h.leaveProgram e 3).transferTo
      exact State.sequences_ite (htransferred _ _ _).judgeDeferred (htransferred _ _ _)
    · exact h.goOn _ _
  · exact h

/-! ### A step and the end of a wait (R275, R276) -/

variable {f : State → Nat → State} (hf : ∀ (a : State) w, s.sequences a → s.sequences (f a w))
include hf

/-- A step is counted and acts, or its slot has no place in the turn. -/
theorem State.sequences.runStep (e op : Nat) : s.sequences (u.runStep e op f) :=
  State.sequences_ite (hf _ _ ((h.setProgSlot _ _).withStepAt _)) h

theorem State.sequences.waitingAt (e op : Nat) (due : Bool) : s.sequences (u.waitingAt e op due f) := by
  unfold State.waitingAt
  dsimp only
  split
  · exact State.sequences_ite (hf _ _ h) h
  · exact h

end

section
variable {s u : State} {t : Tick} {f : State → Nat → State}

/-- A command whose effect is such a change makes it at its time, or only passes the time. -/
theorem State.sequences_live {g : State → State} (h : s.live t g = .next u) (hg : ∀ a : State, a.sequences (g a)) :
    s.sequences u := by
  have hadvance : s.sequences (s.advance t) := ⟨rfl, fun _ _ _ => rfl⟩
  rcases State.live_cases h with rfl | rfl
  · exact hadvance
  · obtain ⟨hframe, hobj⟩ := hg (s.advance t)
    exact hadvance.trans ⟨by rw [State.keep, hframe], hobj⟩

/-- A command that runs a step is such a change where the act of its step is one. -/
theorem State.sequences_step {e op : Nat} (h : s.live t (fun a => a.runStep e op f) = .next u)
    (hf : ∀ (a b : State) w, a.sequences b → a.sequences (f b w)) : s.sequences u :=
  State.sequences_live h fun a => a.sequences_refl.runStep (hf a) e op

/-- A command that ends a wait is such a change where what follows the wait is one. -/
theorem State.sequences_wait {e op : Nat} {due : Bool} (h : s.live t (fun a => a.waitingAt e op due f) = .next u)
    (hf : ∀ (a b : State) w, a.sequences b → a.sequences (f b w)) : s.sequences u :=
  State.sequences_live h fun a => a.sequences_refl.waitingAt (hf a) e op due

end

/-- Settles O40: each step runs by `State.runStep` and each wait ends by `State.waitingAt`, and what they do is such a change. -/
theorem stepsTouchTheirProgram : Obligations.StepsTouchTheirProgram := by
  intro s u c hc hu
  unfold Instr.runsStep at hc
  split at hc
  case h_1 => exact State.sequences_step hu fun _ _ _ hb => (hb.endTurn _).endProgram _ _
  case h_2 | h_3 =>
    exact State.sequences_step hu fun _ _ _ hb => State.sequences_ite (hb.goNext _) ((hb.endTurn _).setProgSlot _ _)
  case h_4 => exact State.sequences_step hu fun _ _ _ hb => State.sequences_ite (hb.jumpTo _ _) (hb.goNext _)
  case h_5 => exact State.sequences_step hu fun _ _ _ hb => hb.jumpTo _ _
  case h_6 => exact State.sequences_step hu fun _ _ _ hb => (hb.raiseProg _ _ _ _).goNext _
  case h_7 => exact State.sequences_wait hu fun _ _ _ hb => hb.goNext _
  case h_8 =>
    exact State.sequences_wait hu fun _ _ _ hb =>
      State.sequences_ite ((State.sequences_ite (hb.endTurn _) hb).goNext _) hb
  case h_9 =>
    exact State.sequences_wait hu fun _ _ _ hb => State.sequences_ite (hb.goNext _)
      (State.sequences_ite ((hb.raiseProg _ _ _ _).jumpTo _ _) ((hb.raiseProg _ _ _ _).goNext _))
  case h_10 => cases hc

end Sys2Proof.Machine
end

section
/-! PROOFS. The steps of a program and the ends of its waits: what each does where its conditions hold. -/

namespace Sys2Proof.Machine

variable (s : State)

/-! ### The shared ways into a step -/

section
variable {t : Tick} {e op w : Nat} {f : State → Nat → State} {u v : State} (hs : s.awake)
include hs

/-- A slot whose step runs acts by the step's word on the state that counts it (R271, R276). -/
theorem State.live_runStep (h : (s.advance t).stepRuns e op w u) (hf : f u w = v) :
    s.live t (fun a => a.runStep e op f) = .next ((s.advance t).keep v) := by
  obtain ⟨hready, hturn, rfl, hop, rfl⟩ := h
  exact s.live_effect hs ((if_pos ⟨hready, hturn, hop⟩).trans hf)

/-- A slot that waits at the step of a command goes on by the step's word, once the wait is due where it has to be (R275). -/
theorem State.live_waitingAt {d : Tick} {due : Bool} (hwaits : ((s.advance t).progSlot e).waitEnd = some d)
    (hdue : due = false ∨ d ≤ (s.advance t).now) (hw : w = (s.advance t).stepWord ((s.advance t).progSlot e).addr)
    (hop : opOf w = op) (hf : f (s.advance t) w = v) :
    s.live t (fun a => a.waitingAt e op due f) = .next ((s.advance t).keep v) := by
  subst hw
  refine s.live_effect hs ?_
  unfold State.waitingAt
  dsimp only
  rw [hwaits]
  exact (if_pos ⟨hop, hdue.imp_left (by rintro rfl; rfl)⟩).trans hf

end

/-- Settles O16: `State.live_runStep` reaches the act of each step, and the conditions of a clause choose its branch. -/
theorem stepsExecuteByTheirOpcode : Obligations.StepsExecuteByTheirOpcode := by
  intro s a t hs ha
  subst ha
  refine ⟨fun e w u h => s.live_runStep hs h rfl, fun e w u h => s.live_runStep hs h rfl,
    fun e w u h => s.live_runStep hs h rfl, fun e n w u h hn hcount => ?_, fun e w u h hcount => ?_,
    fun e w u h hlevel => ?_, fun e w u h hlevel => ?_, fun e w u h hflag => ?_, fun e w u h hflag => ?_,
    fun e w u h => s.live_runStep hs h rfl, fun e w u h => s.live_runStep hs h rfl⟩
  · subst hn
    exact s.live_runStep hs h (if_neg hcount)
  · exact s.live_runStep hs h (if_pos hcount)
  · exact s.live_runStep hs h (if_pos hlevel)
  · exact s.live_runStep hs h (if_neg (ne_true_of_eq_false hlevel))
  · exact s.live_runStep hs h (if_pos (beq_iff_eq.mpr hflag))
  · exact s.live_runStep hs h (if_neg (mt beq_iff_eq.mp hflag))

/-- Settles O17: `State.live_waitingAt` reaches what follows the wait, and the conditions of a clause choose its branch. -/
theorem waitsOfProgramsComplete : Obligations.WaitsOfProgramsComplete := by
  intro s a t hs ha
  subst ha
  refine ⟨fun e w d hwaits hdue hw hop => ?_, fun e w d hwaits hw hop hlevel => ?_,
    fun e w d hwaits hdue hw hop hlevel hjump => ?_, fun e w d hwaits hdue hw hop hlevel hjump => ?_⟩
  · exact s.live_waitingAt hs hwaits (.inr hdue) hw hop rfl
  · exact s.live_waitingAt hs hwaits (.inl rfl) hw hop (if_pos hlevel)
  · exact s.live_waitingAt hs hwaits (.inr hdue) hw hop ((if_neg (ne_true_of_eq_false hlevel)).trans (if_pos hjump))
  · exact s.live_waitingAt hs hwaits (.inr hdue) hw hop ((if_neg (ne_true_of_eq_false hlevel)).trans (if_neg hjump))

end Sys2Proof.Machine
end

section
/-! PROOFS. The frame of the recording commands: what the ends of telemetry windows and captures and the work of the journal
leave as they were. -/

namespace Sys2Proof.Machine

/-! ### What a recording changes -/

/-- From `s` to `u` nothing differs but the telemetry, the captures, the journal, the SRAM lines of a buffer, the answer of a
search, what an event changes, and the time. -/
def State.logs (s u : State) : Prop :=
  u = { s with now := u.now, obj := u.obj, tele := u.tele, teleEnd := u.teleEnd, captures := u.captures,
               journal := u.journal, storage := u.storage, faults := u.faults, inputs := u.inputs,
               twin := { s.twin with ownFaults := u.twin.ownFaults } } ∧
    s.objectsKept u [0x8006, 0x8011]

theorem State.logs_refl (s : State) : s.logs s := ⟨rfl, fun _ _ _ => rfl⟩

section
variable {s u v : State}

theorem State.logs.trans (h : s.logs u) (h' : u.logs v) : s.logs v := by
  obtain ⟨hframe, hobj⟩ := h
  obtain ⟨hframe', hobj'⟩ := h'
  exact ⟨hframe'.trans (by rw [hframe]), hobj.trans hobj'⟩

/-- A choice between two such changes is one. -/
theorem State.logs_ite {p : Prop} [Decidable p] (h : s.logs u) (h' : s.logs v) : s.logs (if p then u else v) := by
  split
  · exact h
  · exact h'

variable (h : s.logs u)
include h

/-- The end of a window changes the telemetry alone. -/
theorem State.logs.closeWindows (w : Nat) : s.logs (u.closeWindows w) := h.trans ⟨rfl, fun _ _ _ => rfl⟩

theorem State.logs.clearMinutes : s.logs u.clearMinutes := h.trans ⟨rfl, fun _ _ _ => rfl⟩

theorem State.logs.setCapture (x : Nat) (c : Capture) : s.logs (u.setCapture x c) := h.trans ⟨rfl, fun _ _ _ => rfl⟩

/-- A capture is armed with an empty buffer, whose SRAM lines hold no error. -/
theorem State.logs.armCapture (x : Nat) : s.logs (u.armCapture x) := h.trans ⟨rfl, fun _ _ _ => rfl⟩

theorem State.logs.setJournal (j : Journal) : s.logs (u.setJournal j) := h.trans ⟨rfl, fun _ _ _ => rfl⟩

/-- A write of the answer of a search (0x8011) is such a change. -/
theorem State.logs.putAnswer (k : Nat) (value : Int) : s.logs (u.put 0x8011 k 0 value) :=
  h.trans ⟨rfl, u.objectsKept_put k 0 value (by decide)⟩

/-- A note enters at the journal input of the chip arbiter (R295). -/
theorem State.logs.note (e : Event) : s.logs (u.note e) := h.trans ⟨rfl, fun _ _ _ => rfl⟩

theorem State.logs.raise (e : Event) : s.logs (u.raise e) := by
  obtain ⟨_, _, _, _, hraise⟩ := u.raise_changes e
  exact h.trans ⟨by rw [hraise], u.objectsKept_raise e (by decide)⟩

/-- Notes along a list are such a change. -/
theorem State.logs.notes (l : List Event) : s.logs (l.foldl State.note u) :=
  List.foldlRecOn l State.note h fun _ ha e _ => ha.note e

/-! ### The journal store (R301 to R303) -/

/-- A store that fails leaves the SRAM ring alone, and is journalled. -/
theorem State.logs.failStore : s.logs u.failStore := (h.setJournal _).raise _

/-- A retired block is journalled, and one too many fails the store. -/
theorem State.logs.retireBlock (blk : Nat) : s.logs (u.retireBlock blk) :=
  have hretired := (h.setJournal _).raise _
  State.logs_ite hretired.failStore hretired

/-- The records that were discarded are journalled once space has returned. -/
theorem State.logs.noteDiscarded : s.logs u.noteDiscarded := State.logs_ite ((h.setJournal _).raise _) h

end

/-! ### The recording commands -/

section
variable {s u : State} {t : Tick}

/-- A command whose effect is such a change makes it at its time, or only passes the time. -/
theorem State.logs_live {g : State → State} (h : s.live t g = .next u) (hg : ∀ a : State, a.logs (g a)) : s.logs u := by
  have hadvance : s.logs (s.advance t) := ⟨rfl, fun _ _ _ => rfl⟩
  rcases State.live_cases h with rfl | rfl
  · exact hadvance
  · obtain ⟨hframe, hobj⟩ := hg (s.advance t)
    exact hadvance.trans ⟨by rw [State.keep, hframe], hobj⟩

/-- The end of the minute closes the last second, notes the trends and begins the minute anew (R291, R296). -/
theorem execTelemetryWindowEnd_logs {w : WindowId} (h : execTelemetryWindowEnd t w s = .next u) : s.logs u := by
  refine State.logs_live h fun a => State.logs_ite (State.logs_ite ?_ (a.logs_refl.closeWindows _)) a.logs_refl
  have hsecond := State.logs_ite (p := a.windowDue 2 = true) (a.logs_refl.closeWindows 2) a.logs_refl
  exact ((hsecond.notes _).closeWindows 3).clearMinutes

theorem execCaptureRecordingEnd_logs {x : TrigId} (h : execCaptureRecordingEnd t x s = .next u) : s.logs u :=
  State.logs_live h fun a => State.logs_ite ((a.logs_refl.setCapture _ _).note _) a.logs_refl

theorem execCaptureFlushComplete_logs {x : TrigId} (h : execCaptureFlushComplete t x s = .next u) : s.logs u :=
  State.logs_live h fun a =>
    State.logs_ite (State.logs_ite (a.logs_refl.armCapture _) (a.logs_refl.setCapture _ _)) a.logs_refl

/-- A page that is due is programmed, or waits for an erase (R301, R302). -/
theorem execJournalPageWrite_logs (h : execJournalPageWrite t s = .next u) : s.logs u := by
  refine State.logs_live h fun a => State.logs_ite ?_ a.logs_refl
  split
  · exact State.logs_ite (a.logs_refl.setJournal _) (a.logs_refl.setJournal _)
  · exact a.logs_refl

/-- A written page enters the store and moves its capture on; a failed one retires its block (R301, R304). -/
theorem execJournalPageWritten_logs {ok : Bool} (h : execJournalPageWritten t ok s = .next u) : s.logs u := by
  refine State.logs_live h fun a => ?_
  dsimp only
  split
  · refine State.logs_ite (State.logs.noteDiscarded ?_) (((a.logs_refl.setJournal _).retireBlock _).setJournal _)
    split
    · exact (a.logs_refl.setJournal _).setCapture _ _
    · exact a.logs_refl.setJournal _
  · exact a.logs_refl

/-- An erased block is ready; a failed one is retired, and the next one ahead erased (R301). -/
theorem execJournalBlockErased_logs {ok : Bool} (h : execJournalBlockErased t ok s = .next u) : s.logs u := by
  refine State.logs_live h fun a => ?_
  dsimp only
  split
  · have hretired := fun blk => (a.logs_refl.setJournal { a.journal with erasing := none }).retireBlock blk
    exact State.logs_ite (a.logs_refl.setJournal _) (State.logs_ite ((hretired _).setJournal _) (hretired _))
  · exact a.logs_refl

theorem execSequenceSearchComplete_logs (h : execSequenceSearchComplete t s = .next u) : s.logs u := by
  refine State.logs_live h fun a => ?_
  split
  · exact (a.logs_refl.putAnswer _ _).setJournal _
  · exact a.logs_refl

end

/-- Settles O44: each recording command is such a change. -/
theorem recordingTouchesNoOutput : Obligations.RecordingTouchesNoOutput := by
  intro s u c hc hu
  unfold Instr.records at hc
  split at hc
  case h_1 => exact execTelemetryWindowEnd_logs hu
  case h_2 => exact execCaptureRecordingEnd_logs hu
  case h_3 => exact execCaptureFlushComplete_logs hu
  case h_4 => exact execJournalPageWrite_logs hu
  case h_5 => exact execJournalPageWritten_logs hu
  case h_6 => exact execJournalBlockErased_logs hu
  case h_7 => exact execSequenceSearchComplete_logs hu
  case h_8 => cases hc

end Sys2Proof.Machine
end

section
/-! PROOFS. The telemetry, the captures and the journal: what each of their commands does where its conditions hold. -/

namespace Sys2Proof.Machine

variable (s : State)

/-! ### Telemetry -/

/-- An accepted HELD_CLEAR of an element that exists goes by its value (R292). -/
theorem execHeldClear_accepted {t : Tick} {src : NodeId} {kind : TeleKind} {q w : Fin 4} {inst v : Nat} (hs : s.awake)
    (h : (s.advance t).accepts src 1 false) (hinst : inst < teleCount (teleKind kind)) :
    execHeldClear t src kind q w inst v s = .next ((s.advance t).keep
      (if v = 1 then ((s.advance t).noted src).clearHeld (teleKind kind) inst (4 * q.val + w.val)
        else ((s.advance t).noted src).result 0x23)) := by
  refine (s.live_dict_accepted t _ _ _ _ _ hs h).trans ?_
  exact congrArg _ (congrArg _ (if_neg (Nat.not_le.mpr hinst)))

/-- Settles O19: a clear goes by its instance and value, and the conditions of each other clause choose the branch of its
command. -/
theorem telemetryCommandsComplete : Obligations.TelemetryCommandsComplete := by
  intro s a t hs ha
  subst ha
  refine ⟨fun w hdue hshort => ?_, fun w u hdue hminute hu => ?_, fun src kind q w inst maximum u x hinst hu hx => ?_,
    fun src kind q w inst h hinst => ?_, fun src kind q w inst v h hinst hv => ?_, fun src kind q w inst v h hinst => ?_,
    fun src h => ?_, fun src v h hv => ?_⟩
  · exact s.live_effect hs ((if_pos hdue).trans (if_neg hshort))
  · subst hu
    exact s.live_effect hs ((if_pos hdue).trans (if_pos hminute))
  · subst hu hx
    exact s.live_effect hs (if_pos hinst)
  · refine (execHeldClear_accepted s hs h hinst).trans ?_
    rw [if_pos rfl]
  · refine (execHeldClear_accepted s hs h hinst).trans ?_
    rw [if_neg hv]
  · refine (s.live_dict_accepted t _ _ _ _ _ hs h).trans ?_
    rw [if_pos hinst]
  · refine (s.live_dict_accepted t _ _ _ _ _ hs h).trans ?_
    rw [if_pos rfl]
  · refine (s.live_dict_accepted t _ _ _ _ _ hs h).trans ?_
    rw [if_neg hv]

/-! ### Captures -/

/-- Settles O20: the state of a capture chooses the branch of its command. -/
theorem captureCommandsComplete : Obligations.CaptureCommandsComplete := by
  intro s a t hs ha
  subst ha
  have hrow := fun c (src : NodeId) f h => s.live_dict_accepted t c src 1 false f hs h
  refine ⟨fun src x h hidle => ?_, fun src x h harmed => ?_, fun src x h htriggered hnone => ?_,
    fun src x h htriggered hstore => ?_, fun src x h hflushing => ?_, fun src x h => hrow _ _ _ h, fun src x h harmed => ?_,
    fun src x h hother => ?_, fun x c hc htriggered hfull hstore => ?_, fun x hflushing hheader hwritten hauto => ?_,
    fun x hflushing hheader hwritten hauto => ?_⟩
  · refine (hrow _ _ _ h).trans ?_
    rw [hidle]
  · refine (hrow _ _ _ h).trans ?_
    rw [harmed]
  · refine (hrow _ _ _ h).trans ?_
    rw [htriggered]
    dsimp only
    rw [if_neg hnone]
  · refine (hrow _ _ _ h).trans ?_
    rw [htriggered]
    dsimp only
    rw [if_pos hstore]
  · refine (hrow _ _ _ h).trans ?_
    rw [hflushing]
  · refine (hrow _ _ _ h).trans ?_
    rw [if_pos harmed]
  · refine (hrow _ _ _ h).trans ?_
    rw [if_neg hother]
  · subst hc
    exact s.live_effect hs (if_pos ⟨htriggered, hfull, hstore⟩)
  · exact s.live_effect hs ((if_pos ⟨hflushing, hheader, hwritten⟩).trans (if_pos hauto))
  · exact s.live_effect hs ((if_pos ⟨hflushing, hheader, hwritten⟩).trans (if_neg hauto))

/-! ### The journal -/

section
variable {t : Tick} (hs : s.awake)
include hs

/-- A page that is due, of a journal that programs and erases nothing, is programmed, or waits for the erase of the next block
ahead (R301, R302). -/
theorem execJournalPageWrite_due {l : List (Nat × SlotRec)} {x : Option Nat} {j : Journal} {first : Nat}
    (hj : j = (s.advance t).journal) (hfree : j.store = 1 ∧ j.page.isNone = true ∧ j.erasing.isNone = true)
    (hdue : (s.advance t).duePage = some (l, x)) (hfirst : first = (l.headD (0, .filler)).1) :
    execJournalPageWrite t s = .next ((s.advance t).keep
      (if first % 2048 = 0 ∧ j.ready ≠ some (first / 2048) then
        (s.advance t).setJournal { j with erasing := some (j.ahead first) }
      else
        (s.advance t).setJournal
          { j with page := some l, partOf := x, next := if j.next / 32 = first / 32 then j.after (first + 31) else j.next })) := by
  subst hj hfirst
  refine s.live_effect hs ((if_pos hfree).trans ?_)
  rw [hdue]

/-- A page of records that is written enters the store and leaves the queue (R302). -/
theorem execJournalPageWritten_stores {l : List (Nat × SlotRec)} {j : Journal} {first : Nat} (hj : j = (s.advance t).journal)
    (hpage : j.page = some l) (hrecords : j.partOf = none) (hfirst : first = (l.headD (0, .filler)).1) :
    execJournalPageWritten t true s = .next ((s.advance t).keep ((s.advance t).setJournal
      { j with page := none, partOf := none, slots := l.foldl (fun b p => bset b p.1 p.2) j.slots,
               queue := j.queue.filter fun q => !(l.any fun p => decide (p.1 = q.slot) && decide (p.2 = .record q.item)),
               write := j.after (first + 31),
               wraps := if j.after (first + 31) < first then j.wraps + 1 else j.wraps }).noteDiscarded) := by
  subst hj hfirst
  refine s.live_effect hs ?_
  dsimp only
  rw [hpage, hrecords]
  rfl

/-- A page that fails retires its block, and the records that wait are assigned anew (R301, R304). -/
theorem execJournalPageWritten_fails {l : List (Nat × SlotRec)} {first : Nat} {u : State}
    (hpage : (s.advance t).journal.page = some l) (hfirst : first = (l.headD (0, .filler)).1)
    (hu : u = ((s.advance t).setJournal { (s.advance t).journal with page := none, partOf := none }).retireBlock (first / 2048)) :
    execJournalPageWritten t false s =
      .next ((s.advance t).keep (u.setJournal (u.journal.reassign first).setWrite)) := by
  subst hu hfirst
  refine s.live_effect hs ?_
  dsimp only
  rw [hpage]
  rfl

end

/-- Settles O21: the page that is due, the page that is programmed, the erase that runs and the search that runs choose the
branch of each command. -/
theorem journalCommandsComplete : Obligations.JournalCommandsComplete := by
  intro s a t hs ha
  subst ha
  refine ⟨fun l x j first hj hfree hdue hfirst hready => ?_, fun l x j first hj hfree hdue hfirst hblock => ?_,
    fun l j first hj hpage hrecords hfirst => execJournalPageWritten_stores s hs hj hpage hrecords hfirst,
    fun l first u hpage hfirst hu => execJournalPageWritten_fails s hs hpage hfirst hu,
    fun blk head herasing hhead => ?_, fun blk head u herasing hhead hu hstore => ?_, fun src n h hn => ?_,
    fun src n h hn => ?_, fun n at? hsearch => ?_⟩
  · refine (execJournalPageWrite_due s hs hj hfree hdue hfirst).trans ?_
    rw [if_neg hready]
  · refine (execJournalPageWrite_due s hs hj hfree hdue hfirst).trans ?_
    rw [if_pos hblock]
  · subst hhead
    refine s.live_effect hs ?_
    dsimp only
    rw [herasing]
    rfl
  · subst hhead
    refine s.live_effect hs ?_
    dsimp only
    rw [herasing]
    dsimp only
    rw [if_neg Bool.false_ne_true, ← hu]
    exact if_pos hstore
  · refine (s.live_dict_accepted t _ _ _ _ _ hs h).trans ?_
    rw [if_pos hn]
  · refine (s.live_dict_accepted t _ _ _ _ _ hs h).trans ?_
    rw [if_neg (Nat.not_lt.mpr hn)]
  · refine s.live_effect hs ?_
    rw [hsearch]

end Sys2Proof.Machine
end

section
/-! PROOFS. The reset and the faults of the chip: the outputs that a reset holds, the reset state, the supervision of the chip, and
how a service reset ends the fault of its service. -/

namespace Sys2Proof.Machine

variable (s : State)

/-! ### The outputs in reset -/

/-- A reset releases every output and holds FAULT_N low (R318, R449). -/
theorem State.outputsOff_of_inReset (h : s.inReset = true) : s.outputsOff := by
  have hdrives : s.drives = false := by simp [State.drives, h]
  refine ⟨fun c n => ?_, fun f => ?_, fun n => ?_, fun n => ?_, ?_⟩
  · simp [State.pwmPin, h]
  · simp [State.gatePin, hdrives]
  · simp [State.bridgePin, hdrives]
  · simp [State.enPin, hdrives]
  · simp [State.faultPinLow, h]

/-- A cause of a reset leaves the chip in reset, whether it was before or not (R448, R449). -/
@[simp] theorem State.inReset_enterReset (cause word5 : Nat) : (s.enterReset cause word5).inReset = true := by
  unfold State.enterReset
  split
  · next h => split <;> exact h
  · rfl

/-- A supply that comes, goes or collapses releases no reset (R450, R452). -/
theorem State.inReset_supplyLevel (supply : Supply) (milliVolt : Nat) (h : s.inReset = true) :
    (s.supplyLevel supply milliVolt).inReset = true := by
  have hcollapse : ∀ u : State, (u.collapse milliVolt).inReset = true := fun u => State.inReset_enterReset _ _ _
  unfold State.supplyLevel
  dsimp only
  split
  · split
    · rfl
    · split
      · exact hcollapse _
      · exact State.inReset_enterReset _ _ _
  · split
    · exact h
    · split <;> exact h

/-- RST_N releases no reset before the start (R451). -/
theorem execRstNLow_inReset {t : Tick} {low : LowLevel} {u : State} (h : s.inReset = true)
    (hu : execRstNLow t low s = .next u) : u.inReset = true := by
  cases hu
  dsimp only
  have hlow : ∀ v : State, (v.rstLow low.still).inReset = true := fun v => v.inReset_enterReset 6 0
  split
  · exact h
  · split
    · exact hlow _
    · split
      · exact hlow _
      · exact h

/-- The partner's reset input releases no reset before the start (R331). -/
theorem execPartnerResetIn_inReset {t : Tick} {low : LowLevel} {u : State} (h : s.inReset = true)
    (hu : execPartnerResetIn t low s = .next u) : u.inReset = true := by
  cases hu
  dsimp only
  split
  · exact h
  · exact State.inReset_enterReset _ 4 0

/-- A command that only passes the time of a chip in reset leaves it there. -/
theorem State.live_staysInReset {t : Tick} {f : State → State} {u : State} (h : s.inReset = true) (hu : s.live t f = .next u) :
    u.inReset = true := by
  cases (s.live_inReset t f h).symm.trans hu
  exact h

/-- So does one that recovery mode serves too. -/
theorem State.boot_staysInReset {t : Tick} {src : Nat} {f : State → State} {u : State} (h : s.inReset = true)
    (hu : s.boot t src f = .next u) : u.inReset = true := by
  cases (s.boot_inReset t src f h).symm.trans hu
  exact h

/-- Only a start releases a reset (R449, R453). -/
theorem exec_staysInReset {c : Instr} {u : State} (h : s.inReset = true) (hstart : ∀ t inputs, c ≠ .chipStart t inputs)
    (hu : exec c s = .next u) : u.inReset = true := by
  cases c
  case chipStart t inputs => exact absurd rfl (hstart t inputs)
  case powerOn => cases hu; rfl
  case referenceLost | pllUnlock => cases hu; exact State.inReset_enterReset _ _ _
  case supplyOutOfRange => cases hu; exact State.inReset_supplyLevel _ _ _ h
  case rstNLow => exact execRstNLow_inReset s h hu
  case partnerResetIn => exact execPartnerResetIn_inReset s h hu
  case sramRepair t line call =>
    have hline : ¬ 196608 ≤ line := fun hno => by cases (execSramRepair_noSuchLine s hno).symm.trans hu
    exact s.live_staysInReset h ((if_neg hline).symm.trans hu)
  case registerWrite | chipReset | imageTransfer | installComplete | installAbort | installFlashWriteFailed | transactionCommit
      | requestFrame | segmentFrame | segmentAcknowledgement | transferAbort | segmentResendTimeout =>
    exact s.boot_staysInReset h hu
  -- the two whose level reaches the pins before the chip acts (R331)
  case twinPresenceFall tokenHigh => exact (s.seePins true tokenHigh.brings).live_staysInReset h hu
  case tokenStateRise => exact (s.setTwin { s.twin with tokenIn := true }).live_staysInReset h hu
  all_goals exact s.live_staysInReset h hu

/-- Settles O36: no command but a start releases the reset, and a reset holds every output. -/
theorem resetHoldsTheOutputs : Obligations.ResetHoldsTheOutputs := by
  intro s u hreset hstart hstep
  have hu : u.inReset = true := by
    unfold step at hstep
    cases hp : s.pending with
    | nil =>
      rw [hp] at hstep
      cases hstep
      exact hreset
    | cons c rest =>
      rw [hp] at hstep
      exact exec_staysInReset { s with pending := rest } hreset (fun t inputs hc => hstart t inputs rest (hc ▸ hp)) hstep
  exact ⟨hu, u.outputsOff_of_inReset hu⟩

/-! ### The state after a power-on reset -/

/-- Settles O58: nothing is stored in the reset state, so that every element reads as the reset value of its structure, and the
authority of a node as its default. -/
theorem resetLeavesEverythingAtRest : Obligations.ResetLeavesEverythingAtRest := by
  have hnode : ∀ n : NodeId, n.val ≠ 0 → State.reset.authorityOf n = 1 := fun n hn => by
    unfold State.authorityOf
    rw [if_neg (Nat.not_le.mpr n.isLt), if_neg hn]
    rfl
  exact ⟨fun _ => ⟨rfl, rfl, rfl⟩, fun _ => rfl, fun _ => rfl, fun _ => rfl, fun _ => rfl, rfl, rfl, rfl, hnode,
    ⟨List.Pairwise.nil, fun _ hc => by cases hc⟩, ⟨rfl, rfl⟩, rfl⟩

/-! ### The supervision of the chip -/

/-- A processor watchdog without another in the 10 s before is only noted (R315). -/
theorem State.watchdogMissed_first (h : ∀ at? : Tick, s.run.watchdogAt = some at? → at? + 10 * secTicks ≤ s.now) :
    s.watchdogMissed =
      (s.setRun { s.run with watchdogAt := some s.now }).setStorage { s.storage with watchdogSeen := true } := by
  unfold State.watchdogMissed
  cases hat : s.run.watchdogAt with
  | none => rfl
  | some at? =>
    dsimp only
    rw [decide_eq_false (Nat.not_lt.mpr (h at? hat))]
    rfl

/-- A second one within 10 s stops the chip (R315). -/
theorem State.watchdogMissed_again {at? : Tick} (hat : s.run.watchdogAt = some at?) (h : s.now < at? + 10 * secTicks) :
    s.watchdogMissed =
      ((s.setRun { s.run with watchdogAt := some s.now }).setStorage { s.storage with watchdogSeen := true }).chipTrip
        (ev 0x4706 0) := by
  unfold State.watchdogMissed
  rw [hat]
  dsimp only
  rw [decide_eq_true h]
  rfl

/-- Settles O22: the conditions of each clause choose the branch of its command. -/
theorem chipSupervisionComplete : Obligations.ChipSupervisionComplete := by
  intro s a t hs ha
  subst ha
  refine ⟨fun p u v hu hv hlong => ?_, fun p at? u v hu hv hat hshort => ?_, rfl, fun p => rfl, fun b hruns => ?_,
    fun b hrest hreported => ?_, fun b hrest hnew => ?_, fun b => s.live_effect hs rfl, s.live_effect hs rfl,
    fun hwait hearly => ?_, fun hwait hlate => ?_, fun src v h hnormal => ?_, fun src u code h htest hu hcode hallowed hinst => ?_,
    fun hdue => s.live_effect hs (if_pos hdue)⟩
  · subst hu hv
    exact s.live_effect hs (State.watchdogMissed_first _ hlong)
  · subst hu hv
    exact s.live_effect hs (State.watchdogMissed_again _ hat hshort)
  · exact s.live_effect hs (if_pos (by rw [hruns]; rfl))
  · exact s.live_effect hs ((if_neg (by rw [hrest]; exact Bool.false_ne_true)).trans (if_pos hreported))
  · exact s.live_effect hs ((if_neg (by rw [hrest]; exact Bool.false_ne_true)).trans
      (if_neg (by rw [hnew]; exact Bool.false_ne_true)))
  · exact s.live_effect hs (if_pos (by rw [hwait, decide_eq_true hearly]; rfl))
  · exact s.live_effect hs (if_pos (by rw [hwait, decide_eq_true hlate]; rfl))
  · refine (s.live_dict_accepted t _ _ _ _ _ hs h).trans ?_
    rw [if_pos hnormal]
  · subst hu hcode
    refine (s.live_dict_accepted t _ _ _ _ _ hs h).trans ?_
    rw [if_neg (not_not.mpr htest), if_neg (not_not.mpr rfl), if_neg hallowed, if_neg (Nat.not_le.mpr hinst)]

end Sys2Proof.Machine
end

section
/-! PROOFS. The service resets: what the end of a fault state, and the causes that are raised again, leave of it. -/

namespace Sys2Proof.Machine

variable (s : State)

/-! ### What an event adds to a fault state -/

/-- A fault state that has only taken up codes of a list since an earlier record of it (R41, R317). -/
structure FaultRec.Grows (keys : List (Nat × Nat)) (r u : FaultRec) : Prop where
  firstCode : u.firstCode = r.firstCode
  firstSeq : u.firstSeq = r.firstSeq
  endedAt : u.endedAt = r.endedAt
  inFault : r.inFault = true → u.inFault = true
  kept : ∀ k ∈ r.raised, k ∈ u.raised
  added : ∀ k ∈ u.raised, k ∈ r.raised ∨ k ∈ keys

namespace FaultRec.Grows

variable {keys : List (Nat × Nat)} {r u v : FaultRec}

theorem refl : Grows keys r r := ⟨rfl, rfl, rfl, id, fun _ => id, fun _ => .inl⟩

theorem trans (h : Grows keys r u) (g : Grows keys u v) : Grows keys r v where
  firstCode := g.firstCode.trans h.firstCode
  firstSeq := g.firstSeq.trans h.firstSeq
  endedAt := g.endedAt.trans h.endedAt
  inFault := g.inFault ∘ h.inFault
  kept k hk := g.kept k (h.kept k hk)
  added k hk := (g.added k hk).elim (h.added k) .inr

end FaultRec.Grows

/-- A mark adds its own code to its element. -/
theorem State.markFault_grows {keys : List (Nat × Nat)} {code inst : Nat} (h : (code, inst) ∈ keys) (o d : Elem) :
    (s.fault d).Grows keys ((s.markFault code inst o).fault d) := by
  by_cases hd : d = o
  · subst hd
    unfold State.markFault
    dsimp only
    rw [State.fault_setFault]
    refine ⟨rfl, rfl, rfl, fun _ => rfl, fun k hk => ?_, fun k hk => ?_⟩
    · dsimp only
      split
      · exact hk
      · exact List.mem_cons_of_mem _ hk
    · dsimp only at hk
      split at hk
      · exact .inl hk
      · obtain rfl | hk := List.mem_cons.mp hk
        · exact .inr h
        · exact .inl hk
  · rw [s.fault_markFault_ne code inst hd]
    exact .refl

/-- A walk whose steps only add codes of a list adds only those. -/
theorem State.foldl_grows {β : Type} {keys : List (Nat × Nat)} {d : Elem} {f : State → β → State} (l : List β)
    (h : ∀ y ∈ l, ∀ u : State, (u.fault d).Grows keys ((f u y).fault d)) :
    (s.fault d).Grows keys ((l.foldl f s).fault d) := by
  induction l generalizing s with
  | nil => exact .refl
  | cons y r ih =>
    exact (h y List.mem_cons_self s).trans (ih (f s y) fun z hz => h z (List.mem_cons_of_mem y hz))

/-- An event adds its own code to a fault state. -/
theorem State.raise_grows {keys : List (Nat × Nat)} {e : Event} (h : (e.code, e.raisedAs) ∈ keys) (d : Elem) :
    (s.fault d).Grows keys ((s.raise e).fault d) := by
  cases hnew : s.repeats e with
  | true => rw [s.raise_repeat e hnew]; exact .refl
  | false =>
    rw [State.fault_of_faults (s.faults_raise_new e hnew), ← State.fault_of_faults (s.faults_noteLocal e) d]
    exact State.foldl_grows _ _ fun o _ u => u.markFault_grows h o d

/-- After an event each of its owners is in fault with its code: it is marked, or the event repeats (R41, R317). -/
theorem State.raise_marks {e : Event} {o : Elem} (ho : o ∈ e.faultOwners) :
    (s.raise e).inFault o = true ∧ ((s.raise e).fault o).raised.contains (e.code, e.raisedAs) = true := by
  obtain ⟨-, -, hmarks, -⟩ := eventsReachTheirArbiter s
  cases hnew : s.repeats e with
  | false => exact hmarks e o hnew ho
  | true =>
    rw [s.raise_repeat e hnew]
    have hall := (Bool.and_eq_true_iff.mp hnew).2
    exact Bool.and_eq_true_iff.mp (List.all_eq_true.mp hall o ho)

/-! ### A list of events -/

section
variable (l : List Event)

/-- The keys by which the repeats of events are judged (R317). -/
def raisedKeys (l : List Event) : List (Nat × Nat) := l.map fun e => (e.code, e.raisedAs)

/-- The events of a list add their own keys to a fault state. -/
theorem State.raises_grow (d : Elem) : (s.fault d).Grows (raisedKeys l) ((l.foldl State.raise s).fault d) :=
  s.foldl_grows l fun e he u => u.raise_grows (List.mem_map.mpr ⟨e, he, rfl⟩) d

/-- After the events of a list the owners of each are in fault with its code. -/
theorem State.raises_mark {e : Event} {o : Elem} (he : e ∈ l) (ho : o ∈ e.faultOwners) :
    (l.foldl State.raise s).inFault o = true ∧
      ((l.foldl State.raise s).fault o).raised.contains (e.code, e.raisedAs) = true := by
  induction l generalizing s with
  | nil => cases he
  | cons x r ih =>
    obtain rfl | he := List.mem_cons.mp he
    · obtain ⟨hin, hraised⟩ := s.raise_marks ho
      have hgrow := (s.raise e).raises_grow r o
      exact ⟨hgrow.inFault hin, List.contains_iff_mem.mpr (hgrow.kept _ (List.contains_iff_mem.mp hraised))⟩
    · exact ih (s.raise x) he

/-- They leave every element that owns none of them. -/
theorem State.fault_raises_of_notMem {d : Elem} (h : ∀ e ∈ l, d ∉ e.faultOwners) :
    (l.foldl State.raise s).fault d = s.fault d := by
  induction l generalizing s with
  | nil => rfl
  | cons x r ih =>
    obtain ⟨-, -, -, hleaves, -⟩ := eventsReachTheirArbiter s
    exact (ih (s.raise x) fun e he => h e (List.mem_cons_of_mem x he)).trans (hleaves x d (h x List.mem_cons_self))

/-- Everything that raising the events of a list can change. -/
theorem State.raises_changes :
    ∃ f i o n, l.foldl State.raise s = { s with faults := f, inputs := i, obj := o, twin := { s.twin with ownFaults := n } } := by
  induction l generalizing s with
  | nil => exact ⟨_, _, _, _, rfl⟩
  | cons x r ih =>
    obtain ⟨f, i, o, n, hx⟩ := s.raise_changes x
    obtain ⟨f', i', o', n', hr⟩ := ih (s.raise x)
    exact ⟨f', i', o', n', by rw [List.foldl_cons, hr, hx]⟩

end

/-! ### The end of a fault state -/

/-- The end of a fault state leaves every other element. -/
theorem State.fault_endFault_ne {e d : Elem} (h : d ≠ e) : (s.endFault e).fault d = s.fault d := by
  unfold State.endFault
  split <;> exact s.fault_setFault_ne _ h

/-- A fault state that ends leaves the time of its end alone (R44). -/
theorem State.fault_endFault {e : Elem} (h : s.justFaulted e = false) : (s.endFault e).fault e = { endedAt := s.now } := by
  unfold State.endFault
  rw [h]
  exact s.fault_setFault _ _

/-- The faults detected in the SYS cycle of the end stand, and no other (R45). -/
theorem State.fault_endFault_fresh {e : Elem} (h : s.justFaulted e = true) :
    (s.endFault e).fault e =
      { inFault := true, endedAt := s.now / cycleTicks * cycleTicks, raised := (s.fault e).fresh
        freshAt := (s.fault e).freshAt, fresh := (s.fault e).fresh } := by
  unfold State.endFault
  rw [h]
  exact s.fault_setFault _ _

/-- Either way the first fault is cleared. -/
theorem State.first_endFault (e : Elem) :
    ((s.endFault e).fault e).firstCode = 0 ∧ ((s.endFault e).fault e).firstSeq = 0 := by
  cases h : s.justFaulted e with
  | true => rw [s.fault_endFault_fresh h]; exact ⟨rfl, rfl⟩
  | false => rw [s.fault_endFault h]; exact ⟨rfl, rfl⟩

/-- The end of a fault state changes fault states alone. -/
theorem State.endFault_changes (e : Elem) : ∃ f, s.endFault e = { s with faults := f } := by
  unfold State.endFault
  split <;> exact ⟨_, rfl⟩

/-! ### A service reset -/

/-- What the acceptance of a dictionary command changes: the record of its source, the mark of the arbiter and the result. -/
theorem State.noted_changes (src : Nat) :
    ∃ r m, s.noted src = { s with auth := r, acceptAt := m, accepting := true, lastResult := 0 } := by
  unfold State.noted State.admitted State.received State.noteRequest
  split
  · exact ⟨_, _, rfl⟩
  · split <;> exact ⟨_, _, rfl⟩

/-- The acceptance of the reset is no cause of a fault. -/
@[simp] theorem State.serviceCauses_noted (src svc : Nat) : (s.noted src).serviceCauses svc = s.serviceCauses svc := by
  obtain ⟨r, m, h⟩ := s.noted_changes src
  rw [h]
  rfl

/-- The codes of the faults that a service meets again where their cause is still present (R45, R325). -/
def serviceCodes : Nat → List Nat
  | 0 => [0x5501, 0x5402, 0x5403]
  | 1 => [0x7103, 0x7202]
  | 2 => [0x8101]
  | _ => [0x4816]

/-- Each sets a fault state, and not that of cells (Table 13-2, Table 13-3). -/
theorem pipOf_serviceCodes : ∀ svc : SvcId, ∀ code ∈ serviceCodes svc, pipOf code = 3 ∧ ownedByCells code = false := by decide

/-- Each belongs to its service, whatever number it is raised with (Table 13-2). -/
theorem ownerOf_serviceCodes (svc : SvcId) {code : Nat} (h : code ∈ serviceCodes svc) (inst : Nat) :
    ownerOf code inst = .service svc := by
  have hpip : ¬ 4 ≤ pipOf code := by rw [(pipOf_serviceCodes svc code h).1]; decide
  fin_cases svc <;> simp only [serviceCodes, List.mem_cons, List.not_mem_nil, or_false] at h
  · rcases h with rfl | rfl | rfl <;> exact if_neg (t := Elem.feed inst) hpip
  · rcases h with rfl | rfl <;> rfl
  · subst h; rfl
  · subst h; rfl

/-- The causes of a service have these codes and name no other owner. -/
theorem State.serviceCauses_codes {svc : SvcId} {e : Event} (he : e ∈ s.serviceCauses svc) :
    e.code ∈ serviceCodes svc ∧ e.owners = [] := by
  fin_cases svc
  · simp only [State.serviceCauses, List.mem_append, List.mem_map, List.mem_ite_nil_right, List.mem_singleton] at he
    rcases he with (⟨f, -, rfl⟩ | ⟨-, rfl⟩) | ⟨-, rfl⟩ <;> simp [serviceCodes, ev]
  · simp only [State.serviceCauses, List.mem_append, List.mem_ite_nil_right, List.mem_singleton] at he
    rcases he with ⟨-, rfl⟩ | ⟨-, rfl⟩ <;> simp [serviceCodes, ev]
  · simp only [State.serviceCauses, List.mem_ite_nil_right, List.mem_singleton] at he
    obtain ⟨-, rfl⟩ := he
    simp [serviceCodes, ev]
  · simp only [State.serviceCauses, List.mem_ite_nil_left, List.mem_singleton] at he
    obtain ⟨-, rfl⟩ := he
    simp [serviceCodes, ev]

/-- So they are faults of that service alone. -/
theorem State.serviceCauses_faultOwners {svc : SvcId} {e : Event} (he : e ∈ s.serviceCauses svc) :
    e.faultOwners = [.service svc] := by
  obtain ⟨hcode, howners⟩ := s.serviceCauses_codes he
  obtain ⟨hpip, hcells⟩ := pipOf_serviceCodes svc e.code hcode
  rw [Event.faultOwners, if_neg (by rw [hpip]; decide), if_pos (by rw [howners, hcells]; rfl),
    ownerOf_serviceCodes svc hcode]

/-- The effect of an accepted service reset: the fault state of the service ends, and what is still present is raised again (R45,
R325). -/
def State.endService (svc : SvcId) : State := (s.serviceCauses svc).foldl State.raise (s.endFault (.service svc))

/-- An accepted SERVICE_RESET has that effect and answers 0. -/
theorem execServiceReset_accepted {t : Tick} {src : NodeId} {svc : SvcId} (hs : s.awake) (h : (s.advance t).accepts src 1 false)
    (hchip : ((s.advance t).noted src).inFault .chip = false) :
    execServiceReset t src svc resetKey s =
      .next ((s.advance t).keep ((((s.advance t).noted src).endService svc).result 0)) :=
  s.live_reset_accepted t _ _ _ _ _ _ hs h hchip

section
variable {s} {svc : SvcId}

/-- It changes fault states, arbiter inputs, the count of repeats and the turns of local faults alone. -/
theorem State.endService_changes (s : State) (svc : SvcId) :
    ∃ f i o n, s.endService svc =
      { s with faults := f, inputs := i, obj := o, twin := { s.twin with ownFaults := n } } := by
  obtain ⟨g, hg⟩ := s.endFault_changes (.service svc)
  obtain ⟨f, i, o, n, h⟩ := (s.endFault (.service svc)).raises_changes (s.serviceCauses svc)
  exact ⟨f, i, o, n, h.trans (by rw [hg])⟩

/-- It changes the fault state of its service alone. -/
theorem State.fault_endService_ne {d : Elem} (h : d ≠ .service svc) : (s.endService svc).fault d = s.fault d := by
  refine (State.fault_raises_of_notMem _ _ fun e he hd => h ?_).trans (s.fault_endFault_ne h)
  rw [s.serviceCauses_faultOwners he] at hd
  exact List.mem_singleton.mp hd

/-- The fault state of the service after it is the one that ended, with the causes that are still present added. -/
theorem State.endService_grows (s : State) (svc : SvcId) :
    ((s.endFault (.service svc)).fault (.service svc)).Grows (raisedKeys (s.serviceCauses svc))
      ((s.endService svc).fault (.service svc)) :=
  State.raises_grow _ _ _

/-- A cause that is still present is raised again (R45). -/
theorem State.endService_raises {e : Event} (he : e ∈ s.serviceCauses svc) :
    (s.endService svc).inFault (.service svc) = true ∧
      ((s.endService svc).fault (.service svc)).raised.contains (e.code, e.raisedAs) = true :=
  State.raises_mark _ _ he (by rw [s.serviceCauses_faultOwners he]; exact List.mem_singleton_self _)

/-- It clears the first fault of the service (R325). -/
theorem State.endService_first :
    ((s.endService svc).fault (.service svc)).firstCode = 0 ∧ ((s.endService svc).fault (.service svc)).firstSeq = 0 := by
  obtain ⟨hcode, hseq⟩ := s.first_endFault (.service svc)
  have hgrow := s.endService_grows svc
  exact ⟨hgrow.firstCode.trans hcode, hgrow.firstSeq.trans hseq⟩

/-- The faults detected in the SYS cycle of the reset stand (R45). -/
theorem State.endService_stands (h : s.justFaulted (.service svc) = true) :
    (s.endService svc).inFault (.service svc) = true ∧
      ∀ k ∈ (s.fault (.service svc)).fresh, k ∈ ((s.endService svc).fault (.service svc)).raised := by
  have hgrow := s.endService_grows svc
  rw [s.fault_endFault_fresh h] at hgrow
  exact ⟨hgrow.inFault rfl, hgrow.kept⟩

/-- Without one the fault state ends now, and holds only what is still present (R45, R325). -/
theorem State.endService_ends (h : s.justFaulted (.service svc) = false) :
    ((s.endService svc).fault (.service svc)).endedAt = s.now ∧
      (s.serviceCauses svc = [] →
        (s.endService svc).inFault (.service svc) = false ∧ ((s.endService svc).fault (.service svc)).raised = []) ∧
      ∀ k ∈ ((s.endService svc).fault (.service svc)).raised, ∃ e ∈ s.serviceCauses svc, k = (e.code, e.raisedAs) := by
  have hend := s.fault_endFault h
  have hgrow := s.endService_grows svc
  rw [hend] at hgrow
  refine ⟨hgrow.endedAt, fun hnone => ?_, fun k hk => ?_⟩
  · have hv : s.endService svc = s.endFault (.service svc) := by rw [State.endService, hnone]; rfl
    rw [State.inFault, hv, hend]
    exact ⟨rfl, rfl⟩
  · obtain ⟨e, he, rfl⟩ := List.mem_map.mp ((hgrow.added k hk).resolve_left List.not_mem_nil)
    exact ⟨e, he, rfl⟩

end

/-- The acceptance of a dictionary command touches no fault state. -/
@[simp] theorem State.fault_noted (src : Nat) (d : Elem) : (s.noted src).fault d = s.fault d := by
  obtain ⟨r, m, h⟩ := s.noted_changes src
  rw [h]
  rfl

/-- Settles O60: the parts of the effect of a service reset, read on the state in which it is accepted. -/
theorem serviceResetEndsItsFault : Obligations.ServiceResetEndsItsFault := by
  intro s a t src svc hs ha haccepts hchip
  subst ha
  have hexec := execServiceReset_accepted s (svc := svc) hs haccepts (by simpa [State.inFault] using hchip)
  have hcauses := (s.advance t).serviceCauses_noted src svc
  have hfault := (s.advance t).fault_noted src
  obtain ⟨r, m, hb⟩ := (s.advance t).noted_changes src
  have hjust : ((s.advance t).noted src).justFaulted (.service svc) = (s.advance t).justFaulted (.service svc) := by
    rw [hb]; rfl
  have hnow : ((s.advance t).noted src).now = (s.advance t).now := by rw [hb]
  have hraises := fun e he => State.endService_raises (s := (s.advance t).noted src) (svc := svc) (e := e) (hcauses ▸ he)
  obtain ⟨f, i, o, n, hu⟩ := ((s.advance t).noted src).endService_changes svc
  refine ⟨_, hexec, rfl, State.endService_first, fun h => ?_, fun h => ?_, hraises, ?_, fun e he => ?_, ?_⟩
  · rw [← hfault]
    exact State.endService_stands (hjust.trans h)
  · rw [← hcauses, ← hnow]
    exact State.endService_ends (hjust.trans h)
  · rintro ⟨hsvc, hraised, hlink⟩
    obtain rfl : svc = 2 := Fin.ext hsvc
    have hdown : (s.advance t).serviceCauses (2 : SvcId) = [ev 0x8101 0] := if_pos ⟨hraised, hlink⟩
    exact hraises (ev 0x8101 0) (by rw [hdown]; exact List.mem_singleton_self _)
  · exact (State.fault_endService_ne he).trans (hfault e)
  · rw [hu, hb]
    exact ⟨rfl, rfl, rfl, rfl, rfl, rfl⟩

end Sys2Proof.Machine
end

section
/-! PROOFS. What every command does alike: it answers a next state at its time, and in reset it only passes the time. -/

namespace Sys2Proof.Machine

variable (s : State)

/-- Settles O34: a line that the SRAM does not have stops its repair, and `exec_next` says the rest. -/
theorem everyCommandAnswersNext : Obligations.EveryCommandAnswersNext := by
  refine fun s c => ⟨?_, exec_next s c⟩
  rintro t line call rfl hline
  exact execSramRepair_noSuchLine s hline

/-- Settles O37: a command that acts neither in the always-on domain nor at a pin goes by `State.live` or `State.boot`, and each
of them only passes the time of a chip in reset. -/
theorem resetTakesOnlyTime : Obligations.ResetTakesOnlyTime := by
  intro s c hreset halways hlevel hline
  cases c
  case powerOn | supplyOutOfRange | rstNLow | partnerResetIn | referenceLost | pllUnlock | chipStart => cases halways
  case twinPresenceFall | tokenStateRise => cases hlevel
  case sramRepair t line call => exact (if_neg (Nat.not_le.mpr (hline t line call rfl))).trans (s.live_inReset t _ hreset)
  case registerWrite | chipReset | imageTransfer | installComplete | installAbort | installFlashWriteFailed | transactionCommit
      | requestFrame | segmentFrame | segmentAcknowledgement | transferAbort | segmentResendTimeout =>
    exact s.boot_inReset _ _ _ hreset
  all_goals exact s.live_inReset _ _ hreset

end Sys2Proof.Machine
end

section
/-! PROOFS. Frames: what a family of commands may change, said once, with the rules that every such family shares. -/

namespace Sys2Proof.Machine

/-- What a family of commands may change: `fields s u` is `s` with those fields of `u` that the family may change, and `objects` are
the objects that it may write. Among the fields are the time, the objects, and what an event changes. -/
structure Frame where
  fields : State → State → State
  objects : List Nat
  fields_self : ∀ s, fields s s = s
  fields_fields : ∀ s u v, fields (fields s u) v = fields s v
  fields_time : ∀ s t, fields s (s.advance t) = s.advance t
  fields_keep : ∀ s u, fields s (s.keep (fields s u)) = s.keep (fields s u)
  fields_obj : ∀ (s : State) o, fields s { s with obj := o } = { s with obj := o }
  fields_event : ∀ (s : State) f i o l, fields s { s with faults := f, inputs := i, obj := o, twin := { s.twin with ownFaults := l } } =
    { s with faults := f, inputs := i, obj := o, twin := { s.twin with ownFaults := l } }
  repeats_mem : 0x8006 ∈ objects

/-- From `s` to `u` nothing differs but what the frame names. -/
def Frame.leads (F : Frame) (s u : State) : Prop := u = F.fields s u ∧ s.objectsKept u F.objects

namespace Frame.leads

variable {F : Frame} {s u v : State}

theorem refl (F : Frame) (s : State) : F.leads s s := ⟨(F.fields_self s).symm, fun _ _ _ => rfl⟩

theorem trans (h : F.leads s u) (h' : F.leads u v) : F.leads s v := by
  obtain ⟨hframe, hobj⟩ := h
  obtain ⟨hframe', hobj'⟩ := h'
  refine ⟨?_, hobj.trans hobj'⟩
  calc v = F.fields u v := hframe'
    _ = F.fields (F.fields s u) v := by rw [← hframe]
    _ = F.fields s v := F.fields_fields s u v

/-- A choice between two such changes is one. -/
theorem ite {p : Prop} [Decidable p] (h : F.leads s u) (h' : F.leads s v) : F.leads s (if p then u else v) := by
  split
  · exact h
  · exact h'

section
variable (h : F.leads s u)
include h

/-- A change of fields that the frame names, and of no object. -/
theorem within (hfields : v = F.fields u v) (hobj : v.obj = u.obj) : F.leads s v :=
  h.trans ⟨hfields, fun _ _ _ => by rw [hobj]⟩

theorem put {i : Nat} (k n : Nat) (value : Int) (hi : i ∈ F.objects) : F.leads s (u.put i k n value) :=
  h.trans ⟨(F.fields_obj u _).symm, u.objectsKept_put k n value hi⟩

theorem bump {i : Nat} (k n : Nat) (hi : i ∈ F.objects) : F.leads s (u.bump i k n) := h.put k n _ hi

theorem raise (e : Event) : F.leads s (u.raise e) := by
  obtain ⟨f, i, o, l, hraise⟩ := u.raise_changes e
  exact h.trans ⟨by rw [hraise]; exact (F.fields_event u f i o l).symm, u.objectsKept_raise e F.repeats_mem⟩

/-- Such changes along a list are one. -/
theorem foldl {β : Type} (g : State → β → State) (hg : ∀ (a : State) y, F.leads s a → F.leads s (g a y)) (l : List β) :
    F.leads s (l.foldl g u) :=
  List.foldlRecOn l g h fun a ha y _ => hg a y ha

end

/-- The passage of time is such a change, and so is an effect at the time of its command. -/
theorem advance (F : Frame) (s : State) (t : Tick) : F.leads s (s.advance t) := ⟨(F.fields_time s t).symm, fun _ _ _ => rfl⟩

theorem keep (h : F.leads s u) : F.leads s (s.keep u) := by
  obtain ⟨hframe, hobj⟩ := h
  refine ⟨?_, hobj⟩
  rw [hframe]
  exact (F.fields_keep s u).symm

variable {t : Tick} {g : State → State}

/-- A command whose effect is such a change makes it at its time, or only passes the time. -/
theorem live (h : s.live t g = .next u) (hg : ∀ a : State, F.leads a (g a)) : F.leads s u := by
  rcases State.live_cases h with rfl | rfl
  · exact advance F s t
  · exact (advance F s t).trans (hg _).keep

/-- So does one that recovery mode serves too (R432). -/
theorem boot {src : Nat} (h : s.boot t src g = .next u) (hg : ∀ a : State, F.leads a (g a)) : F.leads s u := by
  unfold State.boot at h
  split at h
  · cases h
    exact advance F s t
  · cases h
    exact (advance F s t).trans (hg _).keep

end Frame.leads

end Sys2Proof.Machine
end

section
/-! PROOFS. The frame of the commands by which a pair is kept: what they leave as it was. -/

namespace Sys2Proof.Machine

/-- The twin side: the twin and its state, the objects 0x1200, 0x1230 and 0x5005 with the count of repeats, and what an event
changes. -/
def twinFrame : Frame where
  fields s u := { s with now := u.now, obj := u.obj, twin := u.twin, twinState := u.twinState, faults := u.faults,
                         inputs := u.inputs }
  objects := [0x1200, 0x1230, 0x5005, 0x8006]
  fields_self _ := rfl
  fields_fields _ _ _ := rfl
  fields_time _ _ := rfl
  fields_keep _ _ := rfl
  fields_obj _ _ := rfl
  fields_event _ _ _ _ _ := rfl
  repeats_mem := by decide

namespace Frame.leads

section
variable {s u : State} (h : twinFrame.leads s u)
include h

/-- A new twin side, a new twin state, or both, are such a change. -/
theorem setTwin (x : Twin) : twinFrame.leads s (u.setTwin x) := h.within rfl rfl

theorem withTwinState (x : TwinState) : twinFrame.leads s { u with twinState := x } := h.within rfl rfl

/-- The object of the twin (0x1200) is written. -/
theorem putTwin (k : Nat) (value : Int) : twinFrame.leads s (u.put 0x1200 k 0 value) := h.put _ _ _ (by decide)

theorem raiseToken : twinFrame.leads s u.raiseToken := h.setTwin _

theorem exclude (retry : Bool) : twinFrame.leads s (u.exclude retry) := ((h.raise _).withTwinState _).setTwin _

theorem trainLink : twinFrame.leads s u.trainLink := ((ite h (h.putTwin _ _)).withTwinState _).setTwin _

/-- Negotiation leaves the chip, joins it to its partner, or excludes it (R332). -/
theorem negotiate : twinFrame.leads s u.negotiate := ite (ite h.trainLink (h.exclude _)) h

theorem endDeferral : twinFrame.leads s u.endDeferral := by
  unfold State.endDeferral
  split
  · exact ite ((h.setTwin _).setTwin _) (h.setTwin _)
  · exact h

/-- Cells that move change the tokens, the pins and the count of tokens held (R342). -/
theorem moveCells (x : Handover) (cs : List Nat) (at? : Tick) (hard : Bool) :
    twinFrame.leads s (u.moveCells x cs at? hard) :=
  have htokens := h.foldl (fun a c => a.put 0x5005 1 c (if x.giving then 0 else 1)) (fun _ _ ha => ha.put _ _ _ (by decide)) cs
  ((htokens.setTwin _).putTwin _ _).setTwin _

theorem scheduleDrill (from? : Int) : twinFrame.leads s (u.scheduleDrill from?) := (h.put _ _ _ (by decide)).setTwin _

/-- What a partner tells of itself is noted (R333). -/
theorem notePartner (level node : Int) (st : Nat) :
    twinFrame.leads s (((((u.put 0x1200 3 0 2).put 0x1200 4 0 0xFF).put 0x1200 7 0 level).put 0x1200 8 0 node).putPartner st) :=
  ((((h.putTwin _ _).putTwin _ _).putTwin _ _).putTwin _ _).putTwin _ _

end

end Frame.leads

variable {s u : State} {t : Tick}

theorem execTwinPresenceFall_twinFrame {x : At Bool} (h : execTwinPresenceFall x s = .next u) : twinFrame.leads s u := by
  have hpins : twinFrame.leads s (s.seePins true x.brings) := (Frame.leads.refl _ s).setTwin _
  exact hpins.trans (.live h fun a => .negotiate (.ite ((Frame.leads.refl _ a).setTwin _) (Frame.leads.refl _ a)))

theorem execElectionWaitEnd_twinFrame {x : At TwinPins} (h : execElectionWaitEnd x s = .next u) : twinFrame.leads s u := by
  refine .live h fun a => ?_
  have hpins := (Frame.leads.refl twinFrame a).setTwin { a.twin with presence := x.brings.present, tokenIn := x.brings.tokenHigh }
  dsimp only
  split
  · exact .ite (hpins.withTwinState _).raiseToken hpins
  · exact hpins

theorem execTwinIdentityExchange_twinFrame {up : Bool} {node pref level : Nat}
    (h : execTwinIdentityExchange t up node pref level s = .next u) : twinFrame.leads s u := by
  refine .live h fun a => ?_
  have hself := Frame.leads.refl twinFrame a
  have hnoted := fun st => hself.notePartner level node st
  exact .ite
    (.ite (.ite ((hnoted _).setTwin _) ((hnoted _).exclude _)) (.ite ((hself.putTwin _ _).exclude _) hself))
    (.ite (.ite ((hnoted _).withTwinState _) (.ite hself (hself.withTwinState _))) hself)

theorem execHandoverDeferralTimeout_twinFrame (h : execHandoverDeferralTimeout t s = .next u) : twinFrame.leads s u := by
  refine .live h fun a => ?_
  split
  · exact .ite (Frame.leads.refl _ a).endDeferral (Frame.leads.refl _ a)
  · exact Frame.leads.refl _ a

theorem execCellHandoverInstant_twinFrame {c : CellId} (h : execCellHandoverInstant t c s = .next u) : twinFrame.leads s u := by
  refine .live h fun a => ?_
  split
  · exact .ite ((Frame.leads.refl _ a).moveCells _ _ _ _) (Frame.leads.refl _ a)
  · exact Frame.leads.refl _ a

/-- Settles O45: each command of the pair is such a change. -/
theorem pairingTouchesTheTwinSide : Obligations.PairingTouchesTheTwinSide := by
  intro s u c hc hu
  change twinFrame.leads s u
  have hself := Frame.leads.refl twinFrame
  unfold Instr.pairs at hc
  split at hc
  case h_1 => exact .live hu fun a => .ite ((hself a).setTwin _) (hself a)
  case h_2 => exact .live hu fun a => .ite (((hself a).withTwinState _).setTwin _).raiseToken (hself a)
  case h_3 => exact execElectionWaitEnd_twinFrame hu
  case h_4 => exact ((hself s).setTwin _).trans (.live hu fun a => (hself a).negotiate)
  case h_5 => exact execTwinPresenceFall_twinFrame hu
  case h_6 => exact .live hu fun a => .ite ((hself a).setTwin _).trainLink ((hself a).setTwin _)
  case h_7 => exact .live hu fun a => .ite ((hself a).setTwin _) (hself a)
  case h_8 => exact execHandoverDeferralTimeout_twinFrame hu
  case h_9 => exact .live hu fun a => .ite ((hself a).setTwin _) (hself a)
  case h_10 =>
    exact .live hu fun a => .ite ((((hself a).put _ _ _ (by decide)).scheduleDrill _).raise _) (hself a)
  case h_11 => exact .live hu fun a => .ite ((hself a).setTwin _) (hself a)
  case h_12 => exact .live hu fun a => ((hself a).putTwin _ _).putTwin _ _
  case h_13 => exact .live hu fun a => .ite (.ite ((hself a).withTwinState _) (.ite ((hself a).putTwin _ _) (hself a))) (hself a)
  case h_14 => exact .live hu fun a => .ite (.ite (((hself a).setTwin _).exclude _) ((hself a).setTwin _)) (hself a)
  case h_15 => exact execCellHandoverInstant_twinFrame hu
  case h_16 pref _ => exact execTwinIdentityExchange_twinFrame (pref := pref) hu
  case h_17 => cases hc

end Sys2Proof.Machine
end

section
/-! PROOFS. The frame of the ring: what its frames and ports leave as it was. -/

namespace Sys2Proof.Machine

/-- The ring side: the ring, the objects 0x1100 and 0x1604 with the count of repeats, the times of limited events, and what an
event changes. -/
def ringFrame : Frame where
  fields s u := { s with now := u.now, obj := u.obj, limited := u.limited, ring := u.ring, faults := u.faults,
                         inputs := u.inputs, twin := { s.twin with ownFaults := u.twin.ownFaults } }
  objects := [0x1100, 0x1604, 0x8006]
  fields_self _ := rfl
  fields_fields _ _ _ := rfl
  fields_time _ _ := rfl
  fields_keep _ _ := rfl
  fields_obj _ _ := rfl
  fields_event _ _ _ _ _ := rfl
  repeats_mem := by decide

namespace Frame.leads

section
variable {s u : State} (h : ringFrame.leads s u)
include h

theorem setRing (x : Ring) : ringFrame.leads s (u.setRing x) := h.within rfl rfl

/-- An event that is raised at most once a second notes its time too. -/
theorem raiseLimited (key : Nat) (e : Event) : ringFrame.leads s (u.raiseLimited key e) := by
  have hnoted : ringFrame.leads s { u with limited := bset u.limited (e.code, key) u.now } := h.within rfl rfl
  unfold State.raiseLimited
  split
  · exact ite h (hnoted.raise e)
  · exact hnoted.raise e

theorem setLink (p : Port) (up : Bool) : ringFrame.leads s (u.setLink p up) := h.put _ _ _ (by decide)

theorem wrapAt (p : Port) : ringFrame.leads s (u.wrapAt p) := ite (h.setRing _) ((h.setRing _).raise _)

theorem markDuplicate : ringFrame.leads s u.markDuplicate := ite h ((h.setRing _).raise _)

/-- A missing image is counted in 0x1604.01 (R372). -/
theorem countImage (node : Nat) : ringFrame.leads s (u.countImage node) := (ite h (h.bump _ _ (by decide))).setRing _

/-- A cycle counts the images of the one before, notes its number and master, and loads the maps (R369, R372, R390). -/
theorem onCycle (number length master : Nat) : ringFrame.leads s (u.onCycle number length master) :=
  have hcounted := h.foldl State.countImage (fun _ node ha => ha.countImage node) u.imageSources
  (((hcounted.put _ _ _ (by decide)).put _ _ _ (by decide)).setRing _).setRing _

theorem sendCycle : ringFrame.leads s u.sendCycle := h.onCycle _ _ _

end

end Frame.leads

variable {s u : State} {t : Tick}

theorem execPortLinkDown_ringFrame {p : Port} (h : execPortLinkDown t p s = .next u) : ringFrame.leads s u := by
  refine .live h fun a => ?_
  have hdown := (Frame.leads.refl ringFrame a).setLink p false
  exact .ite hdown (.ite (hdown.wrapAt p) (.ite hdown (hdown.setRing _)))

theorem execRingPortLinkUp_ringFrame {p : Port} (h : execRingPortLinkUp t p s = .next u) : ringFrame.leads s u := by
  refine .live h fun a => ?_
  have hup := ((Frame.leads.refl ringFrame a).setLink p true).setRing
    { (a.setLink p true).ring with bothDown := none, isolated := false }
  exact .ite hup (.ite (.ite hup (hup.setRing _)) (.ite hup (hup.wrapAt _)))

theorem execCycleStartFrame_ringFrame {n : NodeId} {c len : Nat} {turned : Bool}
    (h : execCycleStartFrame t n c len turned s = .next u) : ringFrame.leads s u := by
  refine .live h fun a => ?_
  have hself := Frame.leads.refl ringFrame a
  have hseen := hself.setRing { a.ring with wrappedElsewhere := turned }
  exact .ite hself (.ite hseen (((Frame.leads.ite hseen.markDuplicate hseen).setRing _).onCycle _ _ _))

theorem execCrcFailedFrame_ringFrame {p : Port} (h : execCrcFailedFrame t p s = .next u) : ringFrame.leads s u := by
  refine .live h fun a => ?_
  have hcounted := fun p => (Frame.leads.refl ringFrame a).bump (portFails p) 0 (i := 0x1100) (by decide)
  cases p with
  | east => exact .ite (((hcounted .east).setRing _).raiseLimited _ _) ((hcounted .east).setRing _)
  | west => exact .ite (((hcounted .west).setRing _).raiseLimited _ _) ((hcounted .west).setRing _)

/-- Settles O46: each frame and each port of the ring makes such a change. -/
theorem ringTouchesTheRingSide : Obligations.RingTouchesTheRingSide := by
  intro s u c hc hu
  change ringFrame.leads s u
  have hself := Frame.leads.refl ringFrame
  unfold Instr.rings at hc
  split at hc
  case h_1 =>
    exact .live hu fun a => .ite (hself a) (.ite (hself a).markDuplicate (.ite ((hself a).setRing _) (hself a)))
  case h_2 => exact execCycleStartFrame_ringFrame hu
  case h_3 => exact .live hu fun a => .ite (.ite (hself a).sendCycle ((hself a).setRing _)) (hself a)
  case h_4 => exact .live hu fun a => .ite ((hself a).setRing _).sendCycle (hself a)
  case h_5 => exact execPortLinkDown_ringFrame hu
  case h_6 => exact .live hu fun a => .ite (((hself a).setRing _).raise _) (hself a)
  case h_7 => exact execRingPortLinkUp_ringFrame hu
  case h_8 => exact execCrcFailedFrame_ringFrame hu
  case h_9 => exact .live hu fun a => .ite (hself a) ((hself a).setRing _)
  case h_10 => cases hc

end Sys2Proof.Machine
end

section
/-! PROOFS. The frame of stores, installs and transfers: what they leave as it was. -/

namespace Sys2Proof.Machine

/-- The flash side: the storage and the requests, the time of the chip arbiter's last acceptance, the objects of the storage, the
firmware and the fan-out with the count of repeats, and what an event changes. -/
def flashFrame : Frame where
  fields s u := { s with now := u.now, obj := u.obj, storage := u.storage, access := u.access, acceptAt := u.acceptAt,
                         faults := u.faults, inputs := u.inputs, twin := { s.twin with ownFaults := u.twin.ownFaults } }
  objects := [0x9010, 0x9011, 0x9020, 0x9030, 0xF010, 0xF081, 0x8006]
  fields_self _ := rfl
  fields_fields _ _ _ := rfl
  fields_time _ _ := rfl
  fields_keep _ _ := rfl
  fields_obj _ _ := rfl
  fields_event _ _ _ _ _ := rfl
  repeats_mem := by decide

namespace Frame.leads

section
variable {s u : State} (h : flashFrame.leads s u)
include h

theorem setStorage (x : Storage) : flashFrame.leads s (u.setStorage x) := h.within rfl rfl

theorem setAccess (x : Requests) : flashFrame.leads s (u.setAccess x) := h.within rfl rfl

theorem setInput (i : ArbInput) (q : InQueue) : flashFrame.leads s (u.setInput i q) := h.within rfl rfl

/-! ### Records and reads of the flash (R402, R404) -/

theorem appendRecord (b : RecBody) : flashFrame.leads s (u.appendRecord b) := by
  unfold State.appendRecord
  split
  · exact h.setStorage _
  · exact h

/-- Lines that fail their check are noted, and journalled (R402). -/
theorem readFlash (reads : List (Nat × Bool)) : flashFrame.leads s (u.readFlash reads) :=
  (h.setStorage _).foldl _ (fun _ _ ha => (Frame.leads.ite (ha.bump _ _ (by decide)) ha).raise _) _

/-! ### Installs and transfers (R376, R379, R425) -/

theorem respond (node q : Nat) (r : Response) : flashFrame.leads s (u.respond node q r) := h.setAccess _

theorem sendAbort (node q code : Nat) : flashFrame.leads s (u.sendAbort node q code) := h.setAccess _

theorem dropTransfer (node q : Nat) : flashFrame.leads s (u.dropTransfer node q) := h.setAccess _

theorem putTransfer (x : Transfer) : flashFrame.leads s (u.putTransfer x) := h.setAccess _

theorem closeInstall (result : Nat) : flashFrame.leads s (u.closeInstall result) :=
  ((h.put _ _ _ (by decide)).setStorage _).dropTransfer _ _

theorem endInstall (result slotState : Nat) : flashFrame.leads s (u.endInstall result slotState) :=
  (h.appendRecord _).closeInstall _

theorem failTransfer (x : Transfer) : flashFrame.leads s (u.failTransfer x) := ite (h.endInstall _ _) (h.dropTransfer _ _)

theorem installAccepted : flashFrame.leads s u.installAccepted := ite ((h.closeInstall _).respond _ _ _) h

/-! ### Stores (R409) -/

theorem endStore (result : Nat) : flashFrame.leads s (u.endStore result) := (h.setStorage _).put _ _ _ (by decide)

theorem storeAccepted : flashFrame.leads s u.storeAccepted := ite (h.endStore _) h

/-- A completion acts as the chip arbiter accepts it, or waits at its input (R474). -/
theorem place {n : Fin 15} {c : Cmd} {g : State → State} (hg : ∀ a : State, flashFrame.leads a (g a)) :
    flashFrame.leads s (u.place n c g) := by
  cases htakes : u.chipTakes n with
  | true =>
    obtain ⟨hframe, hobj⟩ := hg { u.markAccept 3 0 with accepting := true }
    rw [State.place_taken _ _ _ _ htakes]
    exact h.trans ⟨by rw [hframe]; rfl, hobj⟩
  | false =>
    rw [State.place_waits _ _ _ _ htakes]
    exact h.setInput _ _

/-! ### Fan-outs (R388) -/

theorem fanResult (node result : Nat) : flashFrame.leads s (u.fanResult node result) := by
  have hnoted : flashFrame.leads s (u.put 0xF081 1 node result) := h.put _ _ _ (by decide)
  unfold State.fanResult
  dsimp only
  split
  · exact hnoted.setAccess _
  · exact hnoted

/-! ### Self-checks (R433, R435) -/

theorem writeMigrated : flashFrame.leads s u.writeMigrated := by
  unfold State.writeMigrated
  dsimp only
  split
  · split
    · split
      · exact h.setStorage _
      · exact h
    · exact h
  · exact h

end

end Frame.leads

variable {s u : State} {t : Tick}

theorem execStoreComplete_flashFrame {x : At Bool} (h : execStoreComplete x s = .next u) : flashFrame.leads s u := by
  refine .live h fun a => ?_
  have hself := Frame.leads.refl flashFrame a
  refine .ite ?_ hself
  split
  · exact ((Frame.leads.ite (hself.raise _) hself).setStorage _).place fun b => (Frame.leads.refl _ b).storeAccepted
  · exact hself

theorem execStoreFailed_flashFrame (h : execStoreFailed t s = .next u) : flashFrame.leads s u := by
  refine .live h fun a => ?_
  have hself := Frame.leads.refl flashFrame a
  exact .ite (((Frame.leads.ite hself ((((hself.setStorage _).raise _).setStorage _).raise _)).raise _).endStore _) hself

theorem execCompactionStep_flashFrame {x : At (List (Nat × Bool))} (h : execCompactionStep x s = .next u) :
    flashFrame.leads s u := by
  refine .live h fun a => ?_
  have hself := Frame.leads.refl flashFrame a
  refine .ite ?_ hself
  dsimp only
  split
  · exact ((hself.readFlash _).setStorage _).bump _ _ (by decide)
  · exact hself.readFlash _

theorem execInstallComplete_flashFrame {l : List (Nat × Bool)} {good : Bool} (h : execInstallComplete t l good s = .next u) :
    flashFrame.leads s u := by
  refine .boot h fun a => ?_
  have hself := Frame.leads.refl flashFrame a
  have hread := hself.readFlash l
  exact .ite (.ite (((hread.appendRecord _).setStorage _).place fun b => (Frame.leads.refl _ b).installAccepted)
    (((hread.endInstall _ _).raise _).respond _ _ _)) hself

theorem execTransferAbort_flashFrame {n : NodeId} {q c : Nat} (h : execTransferAbort t n q c s = .next u) :
    flashFrame.leads s u := by
  refine .boot h fun a => ?_
  split
  · exact .ite (Frame.leads.refl _ a) ((Frame.leads.refl _ a).failTransfer _)
  · exact Frame.leads.refl _ a

theorem execSegmentResendTimeout_flashFrame {n : NodeId} {q : Nat} (h : execSegmentResendTimeout t n q s = .next u) :
    flashFrame.leads s u := by
  refine .boot h fun a => ?_
  have hself := Frame.leads.refl flashFrame a
  split
  · exact .ite (.ite ((hself.dropTransfer _ _).sendAbort _ _ _) (hself.putTransfer _)) hself
  · exact hself

theorem execSegmentAcknowledgement_flashFrame {n : NodeId} {q m : Nat} (h : execSegmentAcknowledgement t n q m s = .next u) :
    flashFrame.leads s u := by
  refine .boot h fun a => ?_
  have hself := Frame.leads.refl flashFrame a
  split
  · exact .ite hself (.ite ((hself.dropTransfer _ _).respond _ _ _) (.ite hself (hself.putTransfer _)))
  · exact hself

theorem execFanOutTimeout_flashFrame {n : NodeId} (h : execFanOutTimeout t n s = .next u) : flashFrame.leads s u := by
  refine .live h fun a => ?_
  have hself := Frame.leads.refl flashFrame a
  split
  · split
    · exact .ite (.ite (hself.fanResult _ _) (hself.setAccess _)) hself
    · exact hself
  · exact hself

theorem execResponseFrame_flashFrame {n : NodeId} {q r : Nat} (h : execResponseFrame t n q r s = .next u) :
    flashFrame.leads s u := by
  refine .live h fun a => ?_
  split
  · exact .ite ((Frame.leads.refl _ a).fanResult _ _) (Frame.leads.refl _ a)
  · exact Frame.leads.refl _ a

/-- Settles O47: each command by which a store, an install, a transfer or a fan-out goes on is such a change. -/
theorem storesTouchTheFlash : Obligations.StoresTouchTheFlash := by
  intro s u c hc hu
  change flashFrame.leads s u
  have hself := Frame.leads.refl flashFrame
  unfold Instr.stores at hc
  split at hc
  case h_1 => exact execStoreComplete_flashFrame hu
  case h_2 => exact execStoreFailed_flashFrame hu
  case h_3 => exact execCompactionStep_flashFrame hu
  case h_4 => exact .live hu fun a => (hself a).writeMigrated.put _ _ _ (by decide)
  case h_5 => exact execInstallComplete_flashFrame hu
  case h_6 =>
    exact .boot hu fun a => .ite ((((hself a).sendAbort _ _ _).endInstall _ _).raise _) (hself a)
  case h_7 code => exact execTransferAbort_flashFrame (c := code) hu
  case h_8 => exact execSegmentResendTimeout_flashFrame hu
  case h_9 => exact execSegmentAcknowledgement_flashFrame hu
  case h_10 => exact execFanOutTimeout_flashFrame hu
  case h_11 => exact execResponseFrame_flashFrame hu
  case h_12 => cases hc

end Sys2Proof.Machine
end

section
/-! PROOFS. Transactions and authority: a transaction changes all or nothing, and a source rises by a key or a token alone. -/

namespace Sys2Proof.Machine

variable (s : State)

/-! ### What a source may do -/

/-- The authority of a source depends on what was granted to it and on the default alone. -/
theorem State.authorityOf_congr {s u : State} {k : Nat} (hraised : (u.authRec k).raised = (s.authRec k).raised)
    (hdefault : u.nat 0x1101 5 0 = s.nat 0x1101 5 0) : u.authorityOf k = s.authorityOf k := by
  unfold State.authorityOf
  rw [hraised, hdefault]

theorem State.authorityOf_of_fields {s u : State} {k : Nat} (hauth : u.auth = s.auth) (hobj : u.obj = s.obj) :
    u.authorityOf k = s.authorityOf k := by
  refine State.authorityOf_congr ?_ ?_
  · rw [State.authRec, hauth]
    rfl
  · rw [State.nat, State.cfg_of_obj hobj]
    rfl

theorem State.authRec_setAuth_ne {src k : Nat} (r : AuthRec) (h : k ≠ src) : (s.setAuth src r).authRec k = s.authRec k :=
  bget_bset_ne _ _ _ h

/-- What is granted to one source leaves the others. -/
theorem State.authorityOf_setAuth_ne {src k : Nat} (r : AuthRec) (h : k ≠ src) :
    (s.setAuth src r).authorityOf k = s.authorityOf k :=
  State.authorityOf_congr (by rw [s.authRec_setAuth_ne r h]) rfl

/-- A record that keeps what was granted leaves every authority. -/
theorem State.authorityOf_setAuth_kept {src : Nat} {r : AuthRec} (h : r.raised = (s.authRec src).raised) (k : Nat) :
    (s.setAuth src r).authorityOf k = s.authorityOf k := by
  by_cases hk : k = src
  · subst hk
    exact State.authorityOf_congr (by rw [State.authRec_setAuth, h]) rfl
  · exact s.authorityOf_setAuth_ne r hk

/-- Everything that a refusal for want of authority can change (R378). -/
theorem State.refuseAuthority_changes (src : Nat) :
    ∃ f i o l m, s.refuseAuthority src =
      { s with lastResult := 0x30, faults := f, inputs := i, obj := o, limited := m, twin := { s.twin with ownFaults := l } } := by
  unfold State.refuseAuthority
  split
  · exact ⟨s.faults, s.inputs, s.obj, s.twin.ownFaults, s.limited, rfl⟩
  · obtain ⟨f, i, o, l, m, h⟩ := s.raiseLimited_changes src (ev 0x7302 0)
    exact ⟨f, i, o, l, m, by rw [h]; rfl⟩

theorem State.objectsKept_raiseLimited (key : Nat) (e : Event) : s.objectsKept (s.raiseLimited key e) [0x8006] := by
  have hnoted : s.objectsKept ({ s with limited := bset s.limited (e.code, key) s.now }.raise e) [0x8006] :=
    State.objectsKept_raise { s with limited := bset s.limited (e.code, key) s.now } e (by decide)
  unfold State.raiseLimited
  split
  · split
    · exact fun _ _ _ => rfl
    · exact hnoted
  · exact hnoted

theorem State.objectsKept_refuseAuthority (src : Nat) : s.objectsKept (s.refuseAuthority src) [0x8006] := by
  unfold State.refuseAuthority
  split
  · exact fun _ _ _ => rfl
  · exact s.objectsKept_raiseLimited src (ev 0x7302 0)

@[simp] theorem State.authRec_refuseAuthority (src k : Nat) : (s.refuseAuthority src).authRec k = s.authRec k := by
  obtain ⟨f, i, o, l, m, h⟩ := s.refuseAuthority_changes src
  rw [h]
  rfl

@[simp] theorem State.refuseAuthority_freeBase (src : Nat) : (s.refuseAuthority src).freeBase = s.freeBase := by
  obtain ⟨f, i, o, l, m, h⟩ := s.refuseAuthority_changes src
  rw [h]

@[simp] theorem State.refuseAuthority_result (src : Nat) : (s.refuseAuthority src).lastResult = 0x30 := by
  obtain ⟨f, i, o, l, m, h⟩ := s.refuseAuthority_changes src
  rw [h]

@[simp] theorem State.authorityOf_refuseAuthority (src k : Nat) : (s.refuseAuthority src).authorityOf k = s.authorityOf k := by
  refine State.authorityOf_congr (by rw [State.authRec_refuseAuthority]) ?_
  unfold State.refuseAuthority
  split
  · rfl
  · exact s.raiseLimited_nat src (ev 0x7302 0) (by decide)

@[simp] theorem State.authorityOf_received (src k : Nat) : (s.received src).authorityOf k = s.authorityOf k := by
  unfold State.received
  split
  · rfl
  · exact s.authorityOf_noteRequest src k

/-! ### Transactions (R384) -/

theorem State.tryAll_cons_fails {s : State} {src : Nat} {e : Entry} (rest : List Entry) (h : 0x10 ≤ (s.applyEntry src e).2.1) :
    s.tryAll src (e :: rest) = ((s.applyEntry src e).1, [(s.applyEntry src e).2.1], false) :=
  if_pos h

theorem State.tryAll_cons_passes {s u : State} {src : Nat} {e : Entry} {rest : List Entry} {l : List Nat} {good : Bool}
    (h : ¬ 0x10 ≤ (s.applyEntry src e).2.1) (hrest : (s.applyEntry src e).1.tryAll src rest = (u, l, good)) :
    s.tryAll src (e :: rest) = (u, (s.applyEntry src e).2.1 :: l, good) := by
  unfold State.tryAll
  dsimp only
  rw [if_neg h, hrest]

/-- A transaction whose entries all pass has a passing code for each. -/
theorem State.tryAll_good {s s' : State} {src : Nat} {es : List Entry} {codes : List Nat}
    (h : s.tryAll src es = (s', codes, true)) : codes.length = es.length ∧ ∀ r ∈ codes, r < 0x10 := by
  induction es generalizing s codes with
  | nil =>
    cases h
    exact ⟨rfl, fun r hr => absurd hr List.not_mem_nil⟩
  | cons e rest ih =>
    by_cases hfails : 0x10 ≤ (s.applyEntry src e).2.1
    · cases (State.tryAll_cons_fails rest hfails).symm.trans h
    · rcases hrest : (s.applyEntry src e).1.tryAll src rest with ⟨u, l, good⟩
      cases (State.tryAll_cons_passes hfails hrest).symm.trans h
      obtain ⟨hlength, hcodes⟩ := ih hrest
      exact ⟨congrArg (· + 1) hlength, List.forall_mem_cons.mpr ⟨Nat.lt_of_not_le hfails, hcodes⟩⟩

/-- One that fails has a passing code for each entry up to the one that fails, and that one's code. -/
theorem State.tryAll_failed {s s' : State} {src : Nat} {es : List Entry} {codes : List Nat}
    (h : s.tryAll src es = (s', codes, false)) :
    ∃ passed code, codes = passed ++ [code] ∧ passed.length < es.length ∧ 0x10 ≤ code ∧ ∀ r ∈ passed, r < 0x10 := by
  induction es generalizing s codes with
  | nil => cases h
  | cons e rest ih =>
    by_cases hfails : 0x10 ≤ (s.applyEntry src e).2.1
    · cases (State.tryAll_cons_fails rest hfails).symm.trans h
      exact ⟨[], _, rfl, Nat.succ_pos _, hfails, fun r hr => absurd hr List.not_mem_nil⟩
    · rcases hrest : (s.applyEntry src e).1.tryAll src rest with ⟨u, l, good⟩
      cases (State.tryAll_cons_passes hfails hrest).symm.trans h
      obtain ⟨passed, code, rfl, hlength, hcode, hpassed⟩ := ih hrest
      exact ⟨_ :: passed, code, rfl, Nat.succ_lt_succ hlength, hcode,
        List.forall_mem_cons.mpr ⟨Nat.lt_of_not_le hfails, hpassed⟩⟩

theorem State.commitEntries_good {s s' : State} {src : Nat} {es : List Entry} {codes : List Nat}
    (h : s.tryAll src es = (s', codes, true)) :
    s.commitEntries src true es =
      (s', (codes.zip es).map fun p => (p.1, if p.2.write then [] else (s'.readObj ⟨p.2.index, p.2.sub, p.2.inst⟩).2)) := by
  unfold State.commitEntries
  rw [if_pos rfl, h]
  rfl

theorem State.commitEntries_failed {s s' : State} {src : Nat} {es : List Entry} {passed : List Nat} {code : Nat}
    (h : s.tryAll src es = (s', passed ++ [code], false)) :
    s.commitEntries src true es = (if code = 0x30 then s.refuseAuthority src else s,
      (List.range es.length).map fun i => (if i = passed.length then code else 0x40, [])) := by
  unfold State.commitEntries
  rw [if_pos rfl, h]
  simp

/-- Settles O56: the entries pass up to one that fails or to the last, and only then is their state taken. -/
theorem failedTransactionChangesNothing : Obligations.FailedTransactionChangesNothing := by
  intro s s' src es codes good h
  refine ⟨?_, ?_⟩
  · rintro rfl
    obtain ⟨hlength, hcodes⟩ := State.tryAll_good h
    rw [State.commitEntries_good h]
    refine ⟨rfl, hlength, hcodes, ?_⟩
    rw [List.map_map]
    exact List.map_fst_zip hlength.le
  · rintro rfl
    obtain ⟨passed, code, rfl, hlength, hcode, hpassed⟩ := State.tryAll_failed h
    refine ⟨_, passed.length, code, State.commitEntries_failed h, hlength, by simp, by simp, hcode, by simpa using hpassed, ?_⟩
    split
    · obtain ⟨f, i, o, l, m, hrefused⟩ := s.refuseAuthority_changes src
      exact ⟨by rw [hrefused], s.objectsKept_refuseAuthority src, s.authorityOf_refuseAuthority src⟩
    · exact ⟨rfl, fun _ _ _ => rfl, fun _ => rfl⟩

/-- All that the dictionary server does with a row: it does not hear its source, the row waits, or it is refused on a standby or
for want of authority, or has its effect. -/
theorem State.dict_cases (c : Instr) (src need : Nat) (own : Bool) (f : State → State) :
    s.dict c src need own f = s ∨ (∃ q, s.dict c src need own f = (s.received src).setInput (.chip 12) q) ∨
      ∃ v, s.dict c src need own f = { v with accepting := s.accepting } ∧
        (v = (s.admitted src).result 0x31 ∨ v = (s.admitted src).refuseAuthority src ∨ v = f (s.noted src)) := by
  cases hears : s.hears src with
  | false => exact .inl (State.dict_unheard _ _ _ _ _ _ hears)
  | true =>
    cases htakes : s.chipTakes 12 with
    | false =>
      exact .inr (.inl ⟨_, (if_pos hears).trans (State.place_waits _ _ _ _ (by simpa using htakes))⟩)
    | true =>
      refine .inr (.inr ⟨_, State.dict_reaches _ _ _ _ _ _ ⟨hears, htakes⟩, ?_⟩)
      unfold State.judge
      split
      · exact .inl rfl
      · split
        · exact .inr (.inl rfl)
        · exact .inr (.inr rfl)

/-! ### How authority rises (R380 to R382) -/

/-- From `s` to `u` the authority of a source rises only where something holds, and that of every other source stands. -/
def State.authorizes (s : State) (src : Nat) (why : Prop) (u : State) : Prop :=
  (s.authorityOf src < u.authorityOf src → why) ∧ ∀ n : Nat, n ≠ src → u.authorityOf n = s.authorityOf n

section
variable {s} {u : State} {src : Nat} {why : Prop}

theorem State.authorizes_of_kept (h : ∀ n : Nat, u.authorityOf n = s.authorityOf n) : s.authorizes src why u :=
  ⟨fun hrises => absurd (h src) hrises.ne', fun n _ => h n⟩

theorem State.authorizes_setAuth {r : AuthRec} (h : why) : s.authorizes src why (s.setAuth src r) :=
  ⟨fun _ => h, fun _ hn => s.authorityOf_setAuth_ne r hn⟩

theorem State.authorizes.imp {why' : Prop} (h : s.authorizes src why u) (himp : why → why') : s.authorizes src why' u := by
  obtain ⟨hrises, hothers⟩ := h
  exact ⟨fun h => himp (hrises h), hothers⟩

theorem State.authorizes.keep (h : s.authorizes src why u) (v : State) : s.authorizes src why (v.keep u) := h

/-- What a state leaves the same for every source may come before. -/
theorem State.authorizes.after {v : State} (h : u.authorizes src why v) (hkept : ∀ n : Nat, u.authorityOf n = s.authorityOf n) :
    s.authorizes src why v := by
  obtain ⟨hrises, hothers⟩ := h
  exact ⟨fun h => hrises (by rwa [hkept]), fun n hn => (hothers n hn).trans (hkept n)⟩

/-- The dictionary server raises nothing: what a row raises, its effect raises. -/
theorem State.authorizes_dict {c : Instr} {need : Nat} {own : Bool} {f : State → State}
    (hf : (s.noted src).authorizes src why (f (s.noted src))) : s.authorizes src why (s.dict c src need own f) := by
  have hadmitted := s.authorityOf_admitted src
  rcases s.dict_cases c src need own f with h | ⟨q, h⟩ | ⟨v, h, rfl | rfl | rfl⟩ <;> rw [h]
  · exact State.authorizes_of_kept fun _ => rfl
  · exact State.authorizes_of_kept (s.authorityOf_received src)
  · exact State.authorizes_of_kept hadmitted
  · exact State.authorizes_of_kept fun n => ((s.admitted src).authorityOf_refuseAuthority src n).trans (hadmitted n)
  · exact State.authorizes.after hf hadmitted

/-- So does the command that brings the row. -/
theorem State.authorizes_live {t : Tick} {c : Instr} {need : Nat} {own : Bool} {f : State → State}
    (h : s.live t (fun a => a.dict c src need own f) = .next u)
    (hf : ((s.advance t).noted src).authorizes src why (f ((s.advance t).noted src))) : s.authorizes src why u := by
  rcases State.live_cases h with rfl | rfl
  · exact State.authorizes_of_kept fun _ => rfl
  · have hdict := (State.authorizes_dict (c := c) (need := need) (own := own) hf).keep (s.advance t)
    exact hdict.after fun _ => rfl

end

/-- The dictionary server leaves the base of the free time where the effect of the row does. -/
theorem State.freeBase_dict {c : Instr} {src need : Nat} {own : Bool} {f : State → State}
    (hf : (f (s.noted src)).freeBase = (s.noted src).freeBase) : (s.dict c src need own f).freeBase = s.freeBase := by
  have hnoted : (s.noted src).freeBase = s.freeBase := by
    obtain ⟨r, m, h⟩ := s.noted_changes src
    rw [h]
  rcases s.dict_cases c src need own f with h | ⟨q, h⟩ | ⟨v, h, rfl | rfl | rfl⟩ <;> rw [h]
  · exact hnoted
  · exact hnoted
  · exact ((s.admitted src).refuseAuthority_freeBase src).trans hnoted
  · exact hf.trans hnoted

theorem State.freeBase_live {t : Tick} {c : Instr} {src need : Nat} {own : Bool} {f : State → State} {u : State}
    (h : s.live t (fun a => a.dict c src need own f) = .next u) (hf : ∀ a : State, (f a).freeBase = a.freeBase) :
    u.freeBase = s.freeBase := by
  rcases State.live_cases h with rfl | rfl
  · rfl
  · exact (s.advance t).freeBase_dict (hf _)

/-! ### Log-ins and tokens -/

theorem State.authorityOf_wrongKey (src n : Nat) : (s.wrongKey src).authorityOf n = s.authorityOf n :=
  (State.authorityOf_refuseAuthority _ src n).trans (s.authorityOf_setAuth_kept (by rfl) n)

theorem State.wrongKey_result (src : Nat) : (s.wrongKey src).lastResult = 0x30 := State.refuseAuthority_result _ src

/-- A log-in with another key than the one that is set is a wrong key (R381). -/
theorem State.login_wrong {s : State} {src : Nat} {k key : List Nat} (hlength : k.length = 8) (hset : s.access.key = some key)
    (hfree : (s.authRec src).lockedUntil ≤ s.now) (hwrong : k ≠ key) : s.login src k = s.wrongKey src := by
  unfold State.login
  rw [if_neg (not_not.mpr hlength), hset]
  dsimp only
  rw [if_neg (Nat.not_lt.mpr hfree), if_neg hwrong]

/-- A log-in raises its source by the key that is set, unless the source is locked out (R381). -/
theorem State.authorizes_login (src : Nat) (key : List Nat) :
    s.authorizes src (s.access.key = some key ∧ key.length = 8 ∧ (s.authRec src).lockedUntil ≤ s.now) (s.login src key) := by
  have hkept : ∀ r, s.authorizes src (s.access.key = some key ∧ key.length = 8 ∧ (s.authRec src).lockedUntil ≤ s.now) (s.result r) :=
    fun r => State.authorizes_of_kept fun _ => rfl
  unfold State.login
  split
  · exact hkept _
  · next hlength =>
    split
    · split
      · exact hkept _
      · exact hkept _
    · next k hk =>
      split
      · exact hkept _
      · next hfree =>
        split
        · next hright =>
          subst hright
          exact State.authorizes_setAuth ⟨hk, not_not.mp hlength, Nat.le_of_not_lt hfree⟩
        · exact State.authorizes_of_kept (s.authorityOf_wrongKey src)

/-- A token raises its source where it was verified, is for it, and has not expired (R382). -/
theorem State.authorizes_takeToken (src expiry node : Nat) (valid : Bool) :
    s.authorizes src (valid = true ∧ node = src ∧ s.freeTime / 60000000 < expiry) (s.takeToken src expiry node valid) := by
  unfold State.takeToken
  dsimp only
  split
  · next h =>
    simp only [Bool.and_eq_true, decide_eq_true_eq] at h
    obtain ⟨⟨hvalid, hnode⟩, hfresh⟩ := h
    exact State.authorizes.after (State.authorizes_setAuth ⟨hvalid, hnode, hfresh⟩) fun _ => rfl
  · exact State.authorizes_of_kept fun n => (State.authorityOf_refuseAuthority _ src n).trans rfl

theorem State.freeBase_takeToken (src expiry node : Nat) (valid : Bool) :
    (s.takeToken src expiry node valid).freeBase = s.freeBase := by
  unfold State.takeToken
  dsimp only
  split
  · rfl
  · exact (State.refuseAuthority_freeBase _ src).trans rfl

/-- The acceptance of a dictionary command leaves the keys, the tries and the lock-out of a source. -/
theorem State.authRec_noted (src k : Nat) : ∃ t, (s.noted src).authRec k = { s.authRec k with lastRequest := t } := by
  have hsame : ∃ t, s.authRec k = { s.authRec k with lastRequest := t } := ⟨_, rfl⟩
  change ∃ t, (s.received src).authRec k = { s.authRec k with lastRequest := t }
  unfold State.received State.noteRequest
  split
  · exact hsame
  · split
    · exact hsame
    · by_cases hk : k = src
      · subst hk
        exact ⟨s.now, s.authRec_setAuth _ _⟩
      · obtain ⟨t, ht⟩ := hsame
        exact ⟨t, (s.authRec_setAuth_ne _ hk).trans ht⟩

/-- The third wrong key within a minute locks the source out for a minute (R381). -/
theorem State.wrongKey_locks {src : Nat} {x y : Tick} (htries : (s.authRec src).wrongKeys = [x, y])
    (hx : s.now < x + 60 * secTicks) (hy : s.now < y + 60 * secTicks) :
    ((s.wrongKey src).authRec src).lockedUntil = s.now + 60 * secTicks := by
  unfold State.wrongKey
  rw [State.authRec_refuseAuthority, State.authRec_setAuth, htries]
  simp [hx, hy]

variable {s} {u : State} {t : Tick} {src : NodeId}

/-- A log-in authorizes its source by the key alone (R380, R381). -/
theorem execIntegratorLogin_authorizes {k : List Nat} (h : execIntegratorLogin t src k s = .next u) :
    s.authorizes src (s.access.key = some k ∧ k.length = 8 ∧ (s.authRec src).lockedUntil ≤ u.now) u := by
  obtain ⟨-, hnow⟩ := exec_keeps_queue (c := .integratorLogin t src k) s h
  obtain ⟨at?, hrec⟩ := (s.advance t).authRec_noted src src
  obtain ⟨r, m, hnoted⟩ := (s.advance t).noted_changes src
  refine State.authorizes_live h ?_
  rw [Nat.mod_eq_of_lt src.isLt]
  refine (State.authorizes_login _ _ _).imp ?_
  rw [hrec, hnoted, hnow]
  exact id

/-- A token authorizes its source where it is good for it (R382). -/
theorem execVendorToken_authorizes {expiry : Nat} {node : NodeId} {valid : Bool}
    (h : execVendorToken t src expiry node valid s = .next u) :
    s.authorizes src (valid = true ∧ node = src ∧ u.freeTime / 60000000 < expiry) u := by
  obtain ⟨-, hnow⟩ := exec_keeps_queue (c := .vendorToken t src expiry node valid) s h
  have hbase : u.freeBase = s.freeBase := State.freeBase_live s h fun a => a.freeBase_takeToken _ _ _ _
  have hfree : ((s.advance t).noted src).freeTime = u.freeTime := by
    obtain ⟨r, m, hnoted⟩ := (s.advance t).noted_changes src
    rw [hnoted, State.freeTime, State.freeTime, hnow, hbase]
    rfl
  refine State.authorizes_live h ?_
  rw [Nat.mod_eq_of_lt src.isLt]
  refine (State.authorizes_takeToken _ _ _ _ _).imp ?_
  rw [hfree]
  exact fun ⟨hvalid, hnode, hfresh⟩ => ⟨hvalid, Fin.ext hnode, hfresh⟩

/-- A log-in with a wrong key that the dictionary server takes goes the way of every wrong key (R381). -/
theorem execIntegratorLogin_wrong {k key : List Nat} (hs : s.awake) (haccepts : (s.advance t).accepts src 0 false)
    (hlength : k.length = 8) (hset : s.access.key = some key) (hwrong : k ≠ key)
    (hfree : (s.authRec src).lockedUntil ≤ (s.advance t).now) :
    execIntegratorLogin t src k s = .next ((s.advance t).keep (((s.advance t).noted src).wrongKey src)) := by
  obtain ⟨at?, hrec⟩ := (s.advance t).authRec_noted src src
  obtain ⟨r, m, hnoted⟩ := (s.advance t).noted_changes src
  refine (s.live_dict_accepted t _ _ _ _ _ hs haccepts).trans ?_
  rw [Nat.mod_eq_of_lt src.isLt, State.login_wrong (key := key) hlength (by rw [hnoted]; exact hset)
    (by rw [hrec, hnoted]; exact hfree) hwrong]

/-- Settles O57: a row raises what its effect raises, and a third wrong key locks its source out. -/
theorem authorityRisesByKeyOrToken : Obligations.AuthorityRisesByKeyOrToken := by
  refine ⟨fun s u t src k h => execIntegratorLogin_authorizes h,
    fun s u t src expiry node valid h => execVendorToken_authorizes h,
    fun s a t src k key x y hs ha hreach hserves hlength hset hwrong hfree htries hx hy => ?_⟩
  subst ha
  have haccepts : (s.advance t).accepts src 0 false := ⟨hreach, .inl hserves, Nat.zero_le _⟩
  obtain ⟨at?, hrec⟩ := (s.advance t).authRec_noted src src
  obtain ⟨r, m, hnoted⟩ := (s.advance t).noted_changes src
  have hnow : ((s.advance t).noted src).now = (s.advance t).now := by rw [hnoted]
  have hlocks := State.wrongKey_locks ((s.advance t).noted src) (src := src) (x := x) (y := y) (by rw [hrec]; exact htries)
    (by rwa [hnow]) (by rwa [hnow])
  rw [hnow] at hlocks
  exact ⟨_, execIntegratorLogin_wrong hs haccepts hlength hset hwrong hfree, ((s.advance t).noted src).wrongKey_result src, hlocks⟩

end Sys2Proof.Machine
end

section
/-! PROOFS. The twin: how a pair forms, runs in step, answers the twin commands and meets failures. -/

namespace Sys2Proof.Machine

variable (s : State)

/-! ### Forming the pair -/

/-- A chip that negotiates no longer is not joined again (R332). -/
theorem State.negotiate_done (h : s.twinState ≠ .negotiating) : s.negotiate = s :=
  if_neg fun ⟨_, _, hstate, _⟩ => h hstate

/-- An active chip does not join another (Table 14-2). -/
theorem State.isActive_ne_syncing (h : s.isActive = true) : s.twinState ≠ .syncing := fun hsyncs => by
  rw [State.isActive, hsyncs] at h
  cases h

section
variable {t : Tick} (hs : s.awake)
include hs

/-- A fall of TWIN_PRES_N is taken; in negotiation the election wait starts from it (R331, R332). -/
theorem execTwinPresenceFall_awake {token : Bool} :
    execTwinPresenceFall ⟨t, token⟩ s = .next ((s.advance t).keep
      (if ((s.advance t).seePins true token).twinState = .negotiating then
        ((s.advance t).seePins true token).setTwin
          { ((s.advance t).seePins true token).twin with waitFrom := ((s.advance t).seePins true token).now }
      else (s.advance t).seePins true token).negotiate) :=
  State.live_effect (s.seePins true token) hs rfl

end

/-- Settles O25: the twin state and the levels at the sideband choose the branch of each command. -/
theorem pairingCommandsComplete : Obligations.PairingCommandsComplete := by
  intro s a t hs ha
  subst ha
  refine ⟨fun high ⟨hstarted, hstate⟩ hhigh hstrap => ?_, fun token u hu hstate => ?_, fun token u hu hstate => ?_, fun u hu => ?_,
    fun w u hwait hu hdue => ?_, fun u hdue hu => ?_, fun hdue => ?_, fun l u v hdue hu hv => ?_,
    fun node pref level note hjoins hnote => ?_, fun node pref level hjoins hlate => ?_,
    fun node pref level hactive htest hlink => ?_, fun node pref level hactive htest => ?_, fun hstate hlate => ?_,
    fun u v hlink hactive hu hv => ?_, fun hlink hother => ?_, ?_⟩
  · exact s.live_effect hs (if_pos ⟨hstarted, hstate, hhigh, hstrap⟩)
  · subst hu
    exact (execTwinPresenceFall_awake s hs).trans (by rw [if_pos hstate])
  · subst hu
    refine (execTwinPresenceFall_awake s hs).trans ?_
    rw [if_neg hstate, State.negotiate_done _ hstate]
  · subst hu
    exact State.live_effect (s.setTwin { s.twin with tokenIn := true }) hs rfl
  · subst hu
    obtain ⟨hstarted, hstate, hlong⟩ := hdue
    refine s.live_effect hs ?_
    dsimp only
    rw [show ((s.advance t).seePins true false).electionWait = some w from hwait]
    exact if_pos ⟨hstarted, hstate, rfl, Bool.false_ne_true, hlong⟩
  · subst hu
    exact s.live_effect hs ((if_pos hdue).trans (if_pos rfl))
  · exact s.live_effect hs ((if_pos hdue).trans (if_neg Bool.false_ne_true))
  · subst hu hv
    exact s.live_effect hs (if_pos hdue)
  · subst hnote
    refine s.live_effect hs ((if_pos hjoins).trans ((if_pos rfl).trans ?_))
    simp only [Bool.and_eq_true, decide_eq_true_eq]
  · exact s.live_effect hs ((if_pos hjoins).trans ((if_neg Bool.false_ne_true).trans (if_pos hlate)))
  · exact s.live_effect hs ((if_neg fun ⟨hsyncs, _⟩ => (s.advance t).isActive_ne_syncing hactive hsyncs).trans
      ((if_pos ⟨hactive, by simp [htest]⟩).trans ((if_neg Bool.false_ne_true).trans (if_neg hlink))))
  · refine s.live_effect hs ((if_neg fun ⟨hsyncs, _⟩ => (s.advance t).isActive_ne_syncing hactive hsyncs).trans ((if_pos ⟨hactive, by simp [htest]⟩).trans
      ((if_pos rfl).trans ?_)))
    simp only [Bool.and_eq_true, decide_eq_true_eq]
  · exact s.live_effect hs (if_pos ⟨hstate, rfl, rfl, hlate⟩)
  · subst hu hv
    refine s.live_effect hs ((if_neg (by rw [hlink]; decide)).trans (if_pos ⟨by rw [hlink]; rfl, ?_⟩))
    exact hactive
  · refine s.live_effect hs ((if_neg hlink).trans (if_neg ?_))
    exact fun ⟨hup, hactive⟩ => hother ⟨by simpa using hup, hactive⟩
  · exact s.live_effect hs rfl

/-! ### Running in step -/

section
variable {t : Tick} (hs : s.awake)
include hs

/-- A record of the partner, of 64 octets over a link that is up, enters the mirror, and its code says what it tells (R338). -/
theorem execPartnerEventReceive_mirrors {r : List Nat} {code turn : Nat} {u : State}
    (htakes : (s.advance t).cfg 0x1200 3 0 = 2 ∧ r.length = 64) (hcode : code = leValue ((r.drop 2).take 2))
    (hturn : turn = (((leValue ((r.drop 16).take 8) / 65536 : Nat) : Int) - (s.advance t).freeBase).toNat)
    (hu : u = ((s.advance t).setTwin { (s.advance t).twin with
        mirror := bset (s.advance t).twin.mirror (s.advance t).twin.mirrorNext r
        mirrorNext := ((s.advance t).twin.mirrorNext + 1) % 1024
        partnerFaults := if weighed code then (turn :: (s.advance t).twin.partnerFaults).take 32
          else (s.advance t).twin.partnerFaults }).put 0x8121 1 0 (s.advance t).twin.mirrorNext) :
    execPartnerEventReceive t r s = .next ((s.advance t).keep
      (if u.twinState = .active ∧ code = 0x8104 then
        match ((u.setTwin { u.twin with insideSince := u.now }).putPartner 6).twin.handover with
        | some h =>
          if turn + 4 < h.boundary / usTicks then
            ((u.setTwin { u.twin with insideSince := u.now }).putPartner 6).refuseHandover
          else (u.setTwin { u.twin with insideSince := u.now }).putPartner 6
        | none => (u.setTwin { u.twin with insideSince := u.now }).putPartner 6
      else if u.isActive ∧ code = 0x8205 then { u with twinState := .active }.putPartner 5
      else if u.twinState = .active ∧ code = 0x8103 then u.activeDiverges turn
      else u)) := by
  subst hcode hturn hu
  exact s.live_effect hs (if_pos htakes)

end

/-- Settles O26: what a standby received, and what the partner tells, choose the branch of each command. -/
theorem twinRunningCommandsComplete : Obligations.TwinRunningCommandsComplete := by
  intro s a t hs ha
  subst ha
  refine ⟨fun x y u n outside hruns hu hcompare => ?_, fun x y u hruns hu hcompare => ?_, fun hlong hstate => ?_,
    fun hlong hstate => ?_, fun crc hjoined hequal => ?_, fun crc u hjoined hunequal hu => ?_, fun n hstandby => ?_,
    fun r code turn u htakes hcode hturn hu hother hactive hdone => ?_,
    fun r code turn u v htakes hcode hturn hu htells hv hnone => ?_, fun ft l x u hdue hu => ?_⟩
  · subst hu
    refine s.live_effect hs ((if_pos hruns).trans ?_)
    dsimp only
    rw [hcompare]
  · subst hu
    refine s.live_effect hs ((if_pos hruns).trans ?_)
    dsimp only
    rw [hcompare]
  · exact s.live_effect hs ((if_pos hlong).trans (if_pos hstate))
  · exact s.live_effect hs ((if_pos hlong).trans ((if_neg (by rw [hstate.1]; decide)).trans (if_pos hstate)))
  · exact s.live_effect hs ((if_pos hjoined).trans (if_pos hequal))
  · subst hu
    exact s.live_effect hs ((if_pos hjoined).trans (if_neg hunequal))
  · exact s.live_effect hs (if_pos hstandby)
  · refine (execPartnerEventReceive_mirrors s hs htakes hcode hturn hu).trans ?_
    rw [if_neg fun ⟨_, htells⟩ => hother htells, if_pos ⟨hactive, hdone⟩]
  · refine (execPartnerEventReceive_mirrors s hs htakes hcode hturn hu).trans ?_
    rw [if_pos htells, ← hv, hnone]
  · subst hu
    exact s.live_effect hs (if_pos hdue)

/-! ### Twin commands, failures and drills -/

/-- Settles O28: a twin command is a row with its effect, and the conditions of each other clause choose the branch of its
command. -/
theorem twinCommandsAndFailuresComplete : Obligations.TwinCommandsAndFailuresComplete := by
  intro s a t hs ha
  subst ha
  have hrow := fun c (src : NodeId) f h => s.live_dict_accepted t c src 2 true f hs h
  refine ⟨fun src h => hrow _ _ _ h, fun src h => hrow _ _ _ h, fun src u h hactive hlink hu => ?_, fun src h hpassive => ?_,
    fun src h hheld => ?_, fun src h hfree => ?_, fun src h hruns => ?_, fun src h hbarred => ?_, fun hactive => ?_,
    fun net ns ok hloud => ?_, fun idle hlost => ?_, fun u hlost hu hstandby hattached => ?_, fun u hlost hu => ?_,
    fun u v hcold hu hv => ?_, fun hend => ?_, fun hdue => ?_, fun hlate => ?_⟩
  · subst hu
    refine (hrow _ _ _ h).trans ?_
    simp [hactive, hlink]
  · refine (hrow _ _ _ h).trans ?_
    simp [hpassive]
  · refine (hrow _ _ _ h).trans ?_
    rw [if_pos hheld]
    rfl
  · refine (hrow _ _ _ h).trans ?_
    rw [if_neg (by rw [hfree]; exact Bool.false_ne_true)]
  · refine (hrow _ _ _ h).trans ?_
    rw [if_neg hruns]
  · refine (hrow _ _ _ h).trans ?_
    rw [if_pos hbarred]
  · exact s.live_effect hs (if_pos hactive)
  · exact s.live_effect hs (if_pos hloud)
  · exact s.live_effect hs (if_pos hlost)
  · subst hu
    exact s.live_effect hs ((if_pos hlost).trans (if_pos ⟨hstandby, Bool.false_ne_true, hattached⟩))
  · subst hu
    exact s.live_effect hs ((if_pos hlost).trans (if_neg fun ⟨_, hidle, _⟩ => hidle rfl))
  · subst hu hv
    exact s.live_effect hs (if_pos hcold)
  · exact s.live_effect hs (if_pos hend)
  · exact s.live_effect hs (if_pos hdue)
  · exact s.live_effect hs (if_pos hlate)

end Sys2Proof.Machine
end

section
/-! PROOFS. Requests and the ring: segmented transfers and fan-outs, and the links, cycles, images and checks of the ring. -/

namespace Sys2Proof.Machine

variable (s : State)

/-- A command that recovery mode serves too has the effect that its condition chooses on a chip out of reset (R432). -/
theorem State.boot_effect {t : Tick} {src : Nat} {f : State → State} {u : State} (hs : s.awake) (hf : f (s.advance t) = u) :
    s.boot t src f = .next ((s.advance t).keep u) := by
  rw [s.boot_awake t src f hs, hf]

/-! ### Segmented transfers -/

section
variable {t : Tick} {n : NodeId} {q : Nat} {x : Transfer} (hs : s.awake) (hx : (s.advance t).transfer n q = some x)
include hs hx

/-- A segment of a transfer is its next octets, or aborts it (R379). -/
theorem execSegmentFrame_open {o : Nat} {l : List Nat} :
    execSegmentFrame t n q o l s = .next ((s.advance t).keep
      (if x.write ∧ o = x.next ∧ x.next + l.length ≤ x.length ∧ l ≠ [] ∧ l.length ≤ 1016 then (s.advance t).imageOctets x l
        else ((s.advance t).failTransfer x).sendAbort n q 0x51)) := by
  refine s.boot_effect hs ?_
  rw [hx]

/-- An acknowledgement inside the window of a read moves it, or ends it (R379). -/
theorem execSegmentAcknowledgement_inside {m : Nat} (hinside : ¬ (x.write ∨ m < x.next ∨ x.sent < m)) :
    execSegmentAcknowledgement t n q m s = .next ((s.advance t).keep
      (if m = x.length then ((s.advance t).dropTransfer n q).respond n q (oneResult 0)
        else if m = x.next then s.advance t
        else (s.advance t).putTransfer ((s.advance t).sendSegments
          { x with next := m, sent := min x.length (m + 8128), resends := 0, lastAt := (s.advance t).now } x.sent
          (min x.length (m + 8128))))) := by
  refine s.boot_effect hs ?_
  rw [hx]
  exact if_neg hinside

/-- The other end aborts a transfer that has not applied its last segment (R389). -/
theorem execTransferAbort_open (c : Nat) :
    execTransferAbort t n q c s = .next ((s.advance t).keep
      (if x.write ∧ x.next = x.length then s.advance t else (s.advance t).failTransfer x)) := by
  refine s.boot_effect hs ?_
  rw [hx]

/-- A read without an acknowledgement for 20 ms is sent again, three times (R379). -/
theorem execSegmentResendTimeout_late (hlate : ¬ x.write ∧ x.lastAt + 20 * msTicks ≤ (s.advance t).now) :
    execSegmentResendTimeout t n q s = .next ((s.advance t).keep
      (if 3 ≤ x.resends then ((s.advance t).dropTransfer n q).sendAbort n q 0x50
        else (s.advance t).putTransfer ((s.advance t).sendSegments
          { x with resends := x.resends + 1, lastAt := (s.advance t).now } x.next x.sent))) := by
  refine s.boot_effect hs ?_
  rw [hx]
  exact if_pos hlate

end

/-! ### Fan-outs -/

section
variable {t : Tick} {f : FanOut} (hs : s.awake) (hf : (s.advance t).access.fanOut = some f)
include hs hf

/-- A node that has not answered in time is asked again, three times (R388). -/
theorem execFanOutTimeout_late {n : NodeId} {m sends : Nat} {last : Tick}
    (hwaits : (f.waiting.find? fun p => decide (p.1 = n.val)) = some (m, sends, last))
    (hlate : last + (s.advance t).nat 0x1101 3 0 * msTicks ≤ (s.advance t).now) :
    execFanOutTimeout t n s = .next ((s.advance t).keep
      (if 3 ≤ sends then (s.advance t).fanResult n 0x60
        else (s.advance t).setAccess { (s.advance t).access with
          fanOut := some { f with
            waiting := f.waiting.map fun p => if p.1 = n.val then (p.1, sends + 1, (s.advance t).now) else p } })) := by
  refine s.live_effect hs ?_
  rw [hf]
  dsimp only
  rw [hwaits]
  exact if_pos hlate

/-- A node that is waited for answers (R388). -/
theorem execResponseFrame_awaited {n : NodeId} {q r : Nat}
    (hawaited : f.sequence = q ∧ f.waiting.any (fun p => decide (p.1 = n.val))) :
    execResponseFrame t n q r s = .next ((s.advance t).keep ((s.advance t).fanResult n r)) := by
  refine s.live_effect hs ?_
  rw [hf]
  exact if_pos hawaited

end

/-- Settles O31: the transfer or the fan-out that is open chooses the branch of each command. -/
theorem transfersAndFanOutsComplete : Obligations.TransfersAndFanOutsComplete := by
  intro s a t hs ha
  subst ha
  refine ⟨fun n q o l x hx hnext => ?_, fun n q o l x hx hother => ?_, fun n q o l hnone => ?_,
    fun n q m x hx hinside hend => ?_, fun n q m x hx hinside hmore hmoved => ?_, fun n q c x hx hopen => ?_,
    fun n q c x hx happlied => ?_, fun n q x hx hlate hfew => ?_, fun n q x hx hlate hmany => ?_, fun src h hfree => ?_,
    fun src v h hrefused => ?_, fun n q r f hf hawaited => execResponseFrame_awaited s hs hf hawaited,
    fun n f m sends last hf hwaits hlate hmany => ?_, fun n f m sends last hf hwaits hlate hfew => ?_⟩
  · exact (execSegmentFrame_open s hs hx).trans (by rw [if_pos hnext])
  · exact (execSegmentFrame_open s hs hx).trans (by rw [if_neg hother])
  · refine s.boot_effect hs ?_
    rw [hnone]
  · exact (execSegmentAcknowledgement_inside s hs hx hinside).trans (by rw [if_pos hend])
  · exact (execSegmentAcknowledgement_inside s hs hx hinside).trans (by rw [if_neg hmore, if_neg hmoved])
  · exact (execTransferAbort_open s hs hx c).trans (by rw [if_neg hopen])
  · exact (execTransferAbort_open s hs hx c).trans (by rw [if_pos happlied])
  · exact (execSegmentResendTimeout_late s hs hx hlate).trans (by rw [if_neg (Nat.not_le.mpr hfew)])
  · exact (execSegmentResendTimeout_late s hs hx hlate).trans (by rw [if_pos hmany])
  · refine (s.live_dict_accepted t _ _ _ _ _ hs h).trans ?_
    rw [if_neg (by simp [hfree])]
  · refine (s.live_dict_accepted t _ _ _ _ _ hs h).trans ?_
    rw [if_pos hrefused]
  · exact (execFanOutTimeout_late s hs hf hwaits hlate).trans (by rw [if_pos hmany])
  · exact (execFanOutTimeout_late s hs hf hwaits hlate).trans (by rw [if_neg (Nat.not_le.mpr hfew)])

/-! ### The ring -/

section
variable {t : Tick} {p : Port} {u : State} (hs : s.awake)
include hs

/-- A node of a ring that loses a port wraps there, or notes that both ports are down (R364, R365). -/
theorem execPortLinkDown_joined (hu : u = (s.advance t).setLink p false) (hjoined : u.run.joined = true) :
    execPortLinkDown t p s = .next ((s.advance t).keep
      (if u.portUp (portOther p) then u.wrapAt p
        else if u.ring.bothDown.isSome then u
        else u.setRing
          { u.ring with wrapped := none, goodSince := none, checkBack := false, bothDown := some u.now })) := by
  refine s.live_effect hs ?_
  dsimp only
  rw [← hu, hjoined]
  rfl

/-- One whose port returns counts its good time where it is wrapped there, and wraps where its other port is down (R364). -/
theorem execRingPortLinkUp_joined
    (hu : u = ((s.advance t).setLink p true).setRing
      { ((s.advance t).setLink p true).ring with bothDown := none, isolated := false }) (hjoined : u.run.joined = true) :
    execRingPortLinkUp t p s = .next ((s.advance t).keep
      (if u.ring.wrapped = some p then
        (if u.ring.goodSince.isSome then u else u.setRing { u.ring with goodSince := some u.now })
      else if u.portUp (portOther p) then u
      else u.wrapAt (portOther p))) := by
  refine s.live_effect hs ?_
  dsimp only at hu ⊢
  rw [← hu, hjoined]
  rfl

end

/-- Settles O32: the links, the master and the images choose the branch of each command. -/
theorem ringCommandsComplete : Obligations.RingCommandsComplete := by
  intro s a t hs ha
  subst ha
  refine ⟨fun p u hu hjoined hother => ?_, fun p u hu hjoined hother hfirst => ?_, fun p u hu hjoined hwrapped hbad => ?_,
    fun p u hu hjoined hwrapped hother => ?_, fun hdue => ?_, fun u hdue hu => ?_, fun n c len turned u v hring hu hslave hv => ?_,
    fun n c len turned u hring hu hmaster => ?_, fun hdue hmay => ?_, fun hdue hmay => ?_, fun hdue => ?_,
    fun n l hring hsource => ?_, fun n x hx hmissing => ?_, fun n c hring hmine => ?_, fun n c hring hother hwrapped => ?_,
    fun u hu => ?_, fun u hu => ?_⟩
  · refine (execPortLinkDown_joined s hs hu hjoined).trans ?_
    rw [if_pos hother]
  · refine (execPortLinkDown_joined s hs hu hjoined).trans ?_
    rw [hother, hfirst]
    rfl
  · refine (execRingPortLinkUp_joined s hs hu hjoined).trans ?_
    rw [if_pos hwrapped, hbad]
    rfl
  · refine (execRingPortLinkUp_joined s hs hu hjoined).trans ?_
    rw [if_neg hwrapped, hother]
    rfl
  · exact s.live_effect hs (if_pos hdue)
  · subst hu
    exact s.live_effect hs (if_pos hdue)
  · subst hu hv
    exact s.live_effect hs ((if_neg hring).trans (if_neg hslave))
  · subst hu
    exact s.live_effect hs ((if_neg hring).trans (if_pos hmaster))
  · exact s.live_effect hs ((if_pos hdue).trans (if_pos hmay))
  · exact s.live_effect hs ((if_pos hdue).trans (if_neg hmay))
  · exact s.live_effect hs (if_pos hdue)
  · exact s.live_effect hs (if_neg (not_or.mpr ⟨hring, by rw [hsource]; exact Bool.false_ne_true⟩))
  · subst hx
    exact s.live_effect hs (if_pos hmissing)
  · exact s.live_effect hs ((if_neg hring).trans (if_pos hmine))
  · exact s.live_effect hs ((if_neg hring).trans ((if_neg hother).trans (if_pos hwrapped)))
  · subst hu
    exact s.live_effect hs rfl
  · subst hu
    exact s.live_effect hs rfl

end Sys2Proof.Machine
end

section
/-! PROOFS. The flash and the firmware: stores and restores, SRAM lines, installs, trials and confirmations. -/

namespace Sys2Proof.Machine

variable (s : State)

/-- A row that recovery mode serves too has its effect where its source may give it (R432). -/
theorem State.boot_dict_accepted (t : Tick) (c : Instr) (src need : Nat) (own : Bool) (f : State → State) (hs : s.awake)
    (h : (s.advance t).accepts src need own) :
    s.boot t src (fun s => s.dict c src need own f) = .next ((s.advance t).keep (f ((s.advance t).noted src))) := by
  rw [s.boot_awake t src _ hs, State.dict_accepted _ _ _ _ _ _ h]

/-- A completion that the chip arbiter accepts at once acts on the state in which it is placed (R474). -/
theorem State.keep_place (a : State) (n : Fin 15) (c : Cmd) (f : State → State) (h : s.chipTakes n = true) :
    a.keep (s.place n c f) = a.keep (f s.placed) := by
  rw [State.place_taken _ _ _ _ h]
  rfl

/-! ### Stores and restores -/

section
variable {t : Tick} (hs : s.awake)
include hs

/-- A store whose commit mark is written, in a fresh sector where its first read-back failed, ends once the chip arbiter accepts its
completion (R409, R411). -/
theorem execStoreComplete_accepted {rewritten : Bool} {x y : Storage} {u : State} (hx : x = (s.advance t).storage.writeParts)
    (hparts : x.phase = 1 ∧ x.parts ≠ 0)
    (hmark : x.appendChecked (.commit x.firstPart x.parts x.captured false) rewritten = some y)
    (hu : u = (if rewritten = true then (s.advance t).raise (ev 0x9104 0) else s.advance t).setStorage { y with phase := 3 })
    (htakes : u.chipTakes 10 = true) :
    execStoreComplete ⟨t, rewritten⟩ s = .next ((s.advance t).keep (u.placed.endStore 0)) := by
  have hphase : u.placed.storage.phase = 3 := by rw [hu]; rfl
  have haccepted : u.placed.storeAccepted = u.placed.endStore 0 := if_pos hphase
  rw [← haccepted, ← u.keep_place (s.advance t) 10 (.completion false) State.storeAccepted htakes]
  subst hx
  refine s.live_effect hs ((if_pos hparts).trans ?_)
  rw [hmark, hu]

/-- An abort of a store that writes its parts (R410). -/
theorem execStoreAbort_writing {src : NodeId} {b : Nat} {u : State} (h : (s.advance t).accepts src 2 false)
    (hphase : ((s.advance t).noted src).storage.phase = 1) (hdraw : ((s.advance t).noted src).draw 1 = (b, u)) :
    execStoreAbort t src 1 s = .next ((s.advance t).keep (((u.setStorage
      (if b = 1 ∧ u.storage.parts ≠ 0 then
        (u.storage.append (.commit u.storage.firstPart u.storage.parts u.storage.captured true)).getD u.storage
      else u.storage)).endStore 3).result 0)) := by
  refine (s.live_dict_accepted t _ _ _ _ _ hs h).trans ?_
  rw [if_neg (not_not.mpr rfl), if_pos hphase, hdraw]

end

/-! ### SRAM lines -/

/-- A request that does not write the whole line gets the data of a good line (R416). -/
theorem State.serve_good (line : Nat) {r : MemRequest} (h : r ≠ .writeLine) : s.serve line true r = s := by
  unfold State.serve
  split
  · exact absurd rfl h
  · rfl

/-- It gets the bus error of a line that stays failed (R420). -/
theorem State.serve_failed (line : Nat) {r : MemRequest} (h : r ≠ .writeLine) :
    s.serve line false r = s.readerFault line := by
  unfold State.serve
  split
  · exact absurd rfl h
  · rfl

section
variable {t : Tick} (hs : s.awake)
include hs

/-- A request that reads a line that no repair holds repairs it, holds it and is served (R419, R420). -/
theorem execSramRepair_repairs {line : Nat} {r : MemRequest} {source : LineRead} {u : State} {ok : Bool} (hline : line < 196608)
    (hfree : (s.advance t).holdOf line = none) (hreads : r ≠ .writeLine)
    (hrepair : (s.advance t).repairLine line source = (u, ok)) :
    execSramRepair t line ⟨r, source⟩ s = .next ((s.advance t).keep ((u.holdLine line ok).serve line ok r)) := by
  refine (if_neg (Nat.not_le.mpr hline)).trans (s.live_effect hs ?_)
  rw [hfree]
  refine (if_neg hreads).trans ?_
  rw [hrepair]

/-- A scrub that comes to a line that no repair holds repairs it where it fails, and goes on (R421). -/
theorem execScrubRead_free {failed : Bool} {source : LineRead} {u : State}
    (hu : u = (s.advance t).setStorage
      { (s.advance t).storage with scrub := ((s.advance t).storage.scrub + 1) % 196608 })
    (hfree : u.holdOf (s.advance t).storage.scrub = none) :
    execScrubRead t failed source s = .next ((s.advance t).keep
      (if failed || u.storage.badLines.contains (s.advance t).storage.scrub then
        (u.repairLine (s.advance t).storage.scrub source).1.holdLine (s.advance t).storage.scrub
          (u.repairLine (s.advance t).storage.scrub source).2
      else u)) := by
  refine s.live_effect hs ?_
  dsimp only
  rw [← hu, hfree]

end

/-- Settles O23: the phase of the store, the hold of a line and the good of a repair choose the branch of each command. -/
theorem storageCommandsComplete : Obligations.StorageCommandsComplete := by
  intro s a t hs ha
  subst ha
  have hrow := fun c (src : NodeId) f h => s.live_dict_accepted t c src 2 false f hs h
  refine ⟨fun src h hfree => ?_, fun src key h hrefused => ?_,
    fun rewritten x y u hx hparts hmark hu htakes => execStoreComplete_accepted s hs hx hparts hmark hu htakes,
    fun src b u y h hphase hdraw hy => ?_, fun src u h hu hphase => ?_, fun src h hphase hdone => ?_,
    fun x hx hphase hnone => ?_, fun x hx hphase hsome => ?_, fun src reads h hfree hruns => ?_,
    fun src reads v u kept h hfree hstopped hv hset => ?_, fun src u h hfree hu => ?_, fun reads x v hdue hv hcompact => ?_,
    fun line r source u hline hfree hreads hrepair => ?_, fun line r source u hline hfree hreads hrepair => ?_,
    fun line source hline hfree => ?_, fun line r source x hline hheld => ?_, fun failed source u v ok hu hfree hbad hrepair => ?_,
    fun failed source u hu hfree hgood => ?_, fun failed source u x hu hheld => ?_⟩
  · refine (hrow _ _ _ h).trans ?_
    rw [if_neg (by simp [hfree])]
  · refine (hrow _ _ _ h).trans ?_
    rw [if_pos hrefused]
  · exact (execStoreAbort_writing s hs h hphase hdraw).trans (by rw [hy])
  · subst hu
    refine (hrow _ _ _ h).trans ?_
    rw [if_neg (not_not.mpr rfl), if_neg (by rw [hphase]; decide), if_pos hphase]
  · refine (hrow _ _ _ h).trans ?_
    rw [if_neg (not_not.mpr rfl), if_neg (by rw [hphase]; decide), if_neg (by rw [hphase]; decide), if_pos hdone]
  · subst hx
    refine s.live_effect hs ((if_pos hphase).trans ?_)
    rw [if_pos hnone]
  · subst hx
    refine s.live_effect hs ((if_pos hphase).trans ?_)
    rw [if_neg hsome]
  · refine (hrow _ _ _ h).trans ?_
    rw [if_neg (by simp [hfree]), if_pos (by simpa using hruns)]
  · refine (hrow _ _ _ h).trans ?_
    rw [if_neg (by simp [hfree]), if_neg (by simpa using hstopped), ← hv]
    dsimp only
    rw [hset]
  · refine (hrow _ _ _ h).trans ?_
    rw [if_neg (by simp [hfree]), ← hu]
  · refine s.live_effect hs ((if_pos hdue).trans ?_)
    dsimp only
    rw [← hv, hcompact]
  · refine (execSramRepair_repairs s hs hline hfree hreads hrepair).trans ?_
    rw [State.serve_good _ line hreads]
  · refine (execSramRepair_repairs s hs hline hfree hreads hrepair).trans ?_
    rw [State.serve_failed _ line hreads]
  · refine (if_neg (Nat.not_le.mpr hline)).trans (s.live_effect hs ?_)
    rw [hfree]
    exact if_pos rfl
  · refine (if_neg (Nat.not_le.mpr hline)).trans (s.live_effect hs ?_)
    rw [hheld]
  · refine (execScrubRead_free s hs hu hfree).trans ?_
    rw [if_pos hbad, hrepair]
  · refine (execScrubRead_free s hs hu hfree).trans ?_
    rw [if_neg (by rw [hgood]; exact Bool.false_ne_true)]
  · refine s.live_effect hs ?_
    dsimp only
    rw [← hu, hheld]

/-! ### Installs, trials and confirmations -/

section
variable {t : Tick} (hs : s.awake)
include hs

/-- A complete image whose payload reads with the right CRC and whose signature is good ends its install once the chip arbiter accepts
the completion (R427, R474). -/
theorem execInstallComplete_accepted {l : List (Nat × Bool)} {r u v : State}
    (hdue : ((s.advance t).imageComplete && !(s.advance t).storage.installWritten) = true) (hr : r = (s.advance t).readFlash l)
    (hcrc : r.installCrcGood l = true) (hu : u = r.setSlotState r.storage.idle 2 r.storage.installImage)
    (hv : v = u.setStorage { u.storage with installWritten := true }) (htakes : v.chipTakes 10 = true)
    (hinstall : v.storage.install = true) :
    execInstallComplete t l true s = .next ((s.advance t).keep ((v.placed.closeInstall 2).respond v.storage.installSrc
      v.storage.installSeq (oneResult 0))) := by
  have hwritten : v.storage.installWritten = true := by rw [hv]; rfl
  have hends : (v.placed.storage.install && v.placed.storage.installWritten) = true := by
    change (v.storage.install && v.storage.installWritten) = true
    rw [hinstall, hwritten]
    rfl
  have haccepted : v.placed.installAccepted = (v.placed.closeInstall 2).respond v.storage.installSrc v.storage.installSeq
    (oneResult 0) := if_pos hends
  rw [← haccepted, ← v.keep_place (s.advance t) 10 (.completion true) State.installAccepted htakes]
  refine s.boot_effect hs ((if_pos hdue).trans ?_)
  dsimp only
  rw [← hr, hcrc, ← hu, ← hv]
  rfl

/-- A complete image that fails a check ends its install with the code of that check (R427, R428). -/
theorem execInstallComplete_failed {l : List (Nat × Bool)} {good : Bool} {r : State} {code : Nat}
    (hdue : ((s.advance t).imageComplete && !(s.advance t).storage.installWritten) = true) (hr : r = (s.advance t).readFlash l)
    (hbad : (r.installCrcGood l && good) = false) (hcode : (if r.installCrcGood l = true then 12 else 9) = code) :
    execInstallComplete t l good s = .next ((s.advance t).keep (((r.endInstall code 5).raise
      { ev 0x9301 0 with value := code }).respond r.storage.installSrc r.storage.installSeq (oneResult 0x23))) := by
  refine s.boot_effect hs ((if_pos hdue).trans ?_)
  dsimp only
  rw [← hr, if_neg (Bool.eq_false_iff.mp hbad), hcode]

/-- A trial that runs out rejects its slot, and then resets the chip or, where a partner is in step, asks it to take over (R434). -/
theorem execTrialExpiry_due {u v : State}
    (hdue : (s.advance t).storage.runningState = 3 ∧ (s.advance t).since (s.advance t).storage.trialAt (900 * secTicks) = true)
    (hu : u = (s.advance t).setSlotState (s.advance t).storage.running 5
      ((s.advance t).storage.slot (s.advance t).storage.running).2)
    (hv : v = (u.setStorage { u.storage with trialAt := none }).setAlways { u.always with trialExpired := true }) :
    execTrialExpiry t s = .next ((s.advance t).keep
      (if v.twinState = .active ∧ v.partnerInStep = true then
        let w := v.setTwin { v.twin with resetAfter := some (10, 0x9302) }
        if w.twin.handover.isSome = true then w else w.propose 2
      else v.enterReset 10 0x9302)) := by
  refine s.live_effect hs ((if_pos hdue).trans ?_)
  dsimp only
  rw [← hu, ← hv]

end

/-- Settles O24: the image's checks choose the end of an install, the slot on trial the answer of CONFIRM, the partner the end of a
trial. -/
theorem firmwareCommandsComplete : Obligations.FirmwareCommandsComplete := by
  intro s a t hs ha
  subst ha
  have hcomplete : (s.advance t).imageComplete = true → (s.advance t).storage.installWritten = false →
      ((s.advance t).imageComplete && !(s.advance t).storage.installWritten) = true := by
    intro himage hwritten
    rw [himage, hwritten]
    rfl
  refine ⟨fun src n len header h => s.boot_dict_accepted t _ _ 2 false _ hs h,
    fun l r u v himage hwritten hr hcrc hu hv htakes hinstall =>
      execInstallComplete_accepted s hs (hcomplete himage hwritten) hr hcrc hu hv htakes hinstall,
    fun l good r himage hwritten hr hcrc => ?_, fun l r himage hwritten hr hcrc => ?_,
    fun src u h hu hinstall => ?_, fun src h hnone hdone => ?_, fun hinstall hwritten => ?_, fun u hu => ?_,
    fun src h hconfirmable => ?_, fun src b u h hnone hactive hdraw => ?_,
    fun u v hdue hu hv halone => ?_, fun u v w hdue hu hv hpartner hw hfree => ?_⟩
  · exact execInstallComplete_failed s hs (hcomplete himage hwritten) hr (by rw [hcrc]; rfl) (by rw [hcrc]; rfl)
  · exact execInstallComplete_failed s hs (hcomplete himage hwritten) hr (Bool.and_false _) (if_pos hcrc)
  · subst hu
    refine (s.boot_dict_accepted t _ _ 2 false _ hs h).trans ?_
    rw [if_neg (not_not.mpr rfl), if_pos hinstall]
  · refine (s.boot_dict_accepted t _ _ 2 false _ hs h).trans ?_
    rw [if_neg (not_not.mpr rfl), if_neg (Bool.eq_false_iff.mp hnone), if_pos hdone]
  · exact s.boot_effect hs (if_pos (by rw [hinstall, hwritten]; rfl))
  · subst hu
    exact s.live_effect hs rfl
  · refine (s.live_dict_accepted t _ _ 2 false _ hs h).trans ?_
    rw [if_neg (not_not.mpr rfl), if_pos hconfirmable]
  · refine (s.live_dict_accepted t _ _ 2 false _ hs h).trans ?_
    rw [if_neg (not_not.mpr rfl), if_neg (Bool.eq_false_iff.mp hnone), if_pos hactive, hdraw, apply_ite u.result]
  · exact (execTrialExpiry_due s hs hdue hu hv).trans (by rw [if_neg halone])
  · refine (execTrialExpiry_due s hs hdue hu hv).trans ?_
    rw [if_pos hpartner]
    dsimp only
    rw [← hw, if_neg (Bool.eq_false_iff.mp hfree)]

end Sys2Proof.Machine
end
